-- ==== Sys2Proof/Word.lean ====
section
/-! DEFINITION. The word types of the TD9640 model and the shape of its sparse memories. -/

namespace Sys2Proof

/-- A 32-bit register word (R7). -/
abbrev Word := BitVec 32

/-- A byte of an addressed memory. -/
abbrev Byte := BitVec 8

/-- A sparse collection by number: strictly rising keys, and no entry equal to what an unlisted key reads as
(`Machine.smapWf`). The value an unlisted key reads as belongs to the collection's use, not to the data. -/
abbrev SMap (α : Type) := List (Nat × α)

end Sys2Proof
end

