-- ==== Sys2Proof/Syntax.lean ====
section
/-! DEFINITION. The commands of the TD9640 as syntax: one constructor per row of spec/opcode_table.json. Operands that
the outside world supplies (a measured time, captured bits, a received frame, memory upsets) stand beside those the
sender chooses. -/

namespace Sys2Proof

/-- What the outside world contributes to the end of a beat (R54, R83, R94, R346, R468): how long the END_BEAT waited
for its transfers, in ns; the time from the release to it, in ns; whether at least 2 µs remain before the next release;
and the results of the idle self-test slices that started while that was so, in order (passed or not). -/
structure BeatEnd where
  waitNs : Nat
  busyNs : Nat
  spare : Bool
  slices : List Bool
  deriving DecidableEq, Repr


/-- A request at a port of the memory controller (R369): its master, QoS, direction, system address, length in bytes,
the bytes it writes, and its transaction ID where the master is a privileged one (R386). lost: its response is discarded,
since the PCIe link was lost meanwhile (R389). -/
structure DramReq where
  mid : Nat
  qos : Nat
  wr : Bool
  addr : Nat
  len : Nat
  bs : List Byte
  id : Nat := 0
  lost : Bool := false
  deriving DecidableEq, Repr

/-- What the boot ROM finds around it (R402 to R404): the strap levels BOOT_SRC (bit 0) and CROWN_N (bit 1), whether
the flash answers with an SFDP table, and the bytes that it holds from the start of each slot. -/
structure RomInput where
  straps : Nat
  sfdp : Bool
  slotA : List Byte
  slotB : List Byte
  deriving DecidableEq, Repr

/-- What the two-wire bus does with a run of a controller command (R432 to R436): whether another controller holds the
bus; SCL and SDA low before it starts; in a recovery, the pulse after which SDA reads high (0 none) and whether a
foreign START came first; the acknowledge of the address byte, those of the data bytes sent, the bytes received; byte
and bit where arbitration is lost; whether the command ends in this run, and else how many data bytes are done. -/
structure TwbRun where
  held : Bool := false
  sclLow : Bool := false
  sdaLow : Bool := false
  pulses : Nat := 1
  foreign : Bool := false
  ack : Bool := true
  acks : List Bool := []
  bytes : List Byte := []
  lost : Option (Nat × Nat) := none
  ends : Bool := true
  done : Nat := 0
  deriving DecidableEq, Repr

/-- What the outside contributes to a register write: bytes of the flash to a boot-port command (R408), fuse bits that
fail to program (R414), the mode register that the memory returns (R364), what the
two-wire bus does (R432), what the ROM finds after a SOFT reset (R404), the destinations that a transfer B cut off by
a BLOCK reset has not delivered (R38), and the transaction ID of an access of a privileged master (R386). -/
structure Ext where
  flash : List Byte := []
  bad : Nat := 0
  dev : Option Nat := none
  run : TwbRun := {}
  rom : RomInput := { straps := 2, sfdp := false, slotA := [], slotB := [] }
  late : List Nat := []
  id : Nat := 0
  deriving DecidableEq, Repr

/-- A command: a register access, or an event of the block or of its surroundings. -/
inductive Instr
  /-- REGISTER_WRITE (R3). -/
  | registerWrite (page : Fin 256) (off : Fin 4096) (size v mid : Nat) (x : Ext)
  /-- LO_READ_LATCH (R9). -/
  | loReadLatch (page : Fin 256) (off : Fin 4096) (mid : Nat)
  /-- INT_RAW_WRITE (R4). -/
  | intRawWrite (page : Fin 256) (v hwSet mid : Nat)
  /-- INT_EN_WRITE (R412). -/
  | intEnWrite (page : Fin 256) (v mid : Nat)
  /-- MSIX_UNMASK (R412). -/
  | msixUnmask (n : Fin 128) (v mid : Nat)
  /-- CAPTURE_RELEASE (R466). -/
  | captureRelease (page : Fin 256) (v mid : Nat)
  /-- PAGE_ENABLE (R397). -/
  | pageEnable (page : Fin 256) (v mid : Nat) (late : List Nat)
  /-- PAGE_DISABLE (R397). -/
  | pageDisable (page : Fin 256) (v mid : Nat) (late : List Nat)
  /-- BLOCK_RESET (R398). -/
  | blockReset (page : Fin 256) (v mid : Nat) (late : List Nat)
  /-- WLOCK_SET (R399). -/
  | wlockSet (page : Fin 256) (v mid : Nat) (late : List Nat)
  /-- TICK_BOUNDARY (R26). -/
  | tickBoundary (act : Bool)
  /-- TICK_RELEASE (R25). -/
  | tickRelease (late : List Nat) (t1A t1B : Nat) (us : List (Nat × Nat))
  /-- BEAT_BARRIER (R17). -/
  | beatBarrier (us : List (Nat × Nat))
  /-- TRANSFER_B_COMPLETE (R29). -/
  | transferBComplete (units xferNs : Nat) (us : List (Nat × Nat))
  /-- BEAT_DEADLINE (R31). -/
  | beatDeadline (b : Nat)
  /-- ESC_SLACK_CLR (R47). -/
  | escSlackClr (mid : Nat)
  /-- ESC_HIST_CLR (R30). -/
  | escHistClr (mid : Nat)
  /-- AVS_WINDOW_END (R40). -/
  | avsWindowEnd
  /-- AVS_SETTLE_END (R40). -/
  | avsSettleEnd
  /-- AVS_HOLDOFF_END (R40). -/
  | avsHoldoffEnd
  /-- AVS_TRANSACTION_DONE (R43). -/
  | avsTransactionDone (frameErr : Bool) (readback : Nat)
  /-- AVS_ENABLE (R46). -/
  | avsEnable (mid : Nat)
  /-- AVS_DISABLE (R46). -/
  | avsDisable (mid : Nat)
  /-- AVS_MODE_SET (R42). -/
  | avsModeSet (fixed : Bool) (mid : Nat)
  /-- AVS_RESTART (R44). -/
  | avsRestart (mid : Nat)
  /-- AVS_V_CMD_WRITE (R42). -/
  | avsVCmdWrite (v mid : Nat)
  /-- ENGINE_ARM (R52). -/
  | engineArm (nn : Fin 32) (mid : Nat)
  /-- ENGINE_DISARM (R52). -/
  | engineDisarm (nn : Fin 32) (mid : Nat)
  /-- NOP (R113). -/
  | nop (nn : Fin 32) (us : List (Nat × Nat))
  /-- MAC_S (R106). -/
  | macS (nn : Fin 32) (us : List (Nat × Nat))
  /-- MAC_D (R106). -/
  | macD (nn : Fin 32) (us : List (Nat × Nat))
  /-- MAC_DU (R106). -/
  | macDu (nn : Fin 32) (us : List (Nat × Nat))
  /-- MAC_Q (R106). -/
  | macQ (nn : Fin 32) (us : List (Nat × Nat))
  /-- MAC_SUM (R106). -/
  | macSum (nn : Fin 32) (us : List (Nat × Nat))
  /-- MOV (R107). -/
  | mov (nn : Fin 32) (us : List (Nat × Nat))
  /-- ACC_LD (R108). -/
  | accLd (nn : Fin 32) (us : List (Nat × Nat))
  /-- ACC_ADD (R108). -/
  | accAdd (nn : Fin 32) (us : List (Nat × Nat))
  /-- ACC_MOV (R109). -/
  | accMov (nn : Fin 32) (us : List (Nat × Nat))
  /-- ACC_SH (R109). -/
  | accSh (nn : Fin 32) (us : List (Nat × Nat))
  /-- ADD (R110). -/
  | add (nn : Fin 32) (us : List (Nat × Nat))
  /-- SUB (R110). -/
  | sub (nn : Fin 32) (us : List (Nat × Nat))
  /-- AND (R110). -/
  | and (nn : Fin 32) (us : List (Nat × Nat))
  /-- OR (R110). -/
  | or (nn : Fin 32) (us : List (Nat × Nat))
  /-- XOR (R110). -/
  | xor (nn : Fin 32) (us : List (Nat × Nat))
  /-- SHL (R110). -/
  | shl (nn : Fin 32) (us : List (Nat × Nat))
  /-- SHRA (R110). -/
  | shra (nn : Fin 32) (us : List (Nat × Nat))
  /-- SHRL (R110). -/
  | shrl (nn : Fin 32) (us : List (Nat × Nat))
  /-- MIN (R110). -/
  | min (nn : Fin 32) (us : List (Nat × Nat))
  /-- MAX (R110). -/
  | max (nn : Fin 32) (us : List (Nat × Nat))
  /-- ABS (R110). -/
  | abs (nn : Fin 32) (us : List (Nat × Nat))
  /-- NEG (R110). -/
  | neg (nn : Fin 32) (us : List (Nat × Nat))
  /-- CMP (R111). -/
  | cmp (nn : Fin 32) (us : List (Nat × Nat))
  /-- SEL (R111). -/
  | sel (nn : Fin 32) (us : List (Nat × Nat))
  /-- MOVX (R112). -/
  | movx (nn : Fin 32) (us : List (Nat × Nat))
  /-- END_BEAT (R116). -/
  | endBeat (nn : Fin 32) (us : List (Nat × Nat)) (be : BeatEnd)
  /-- REP (R115). -/
  | rep (nn : Fin 32) (us : List (Nat × Nat))
  /-- LDI (R113). -/
  | ldi (nn : Fin 32) (us : List (Nat × Nat))
  /-- SETPTR (R113). -/
  | setptr (nn : Fin 32) (us : List (Nat × Nat))
  /-- GRAMP (R114). -/
  | gramp (nn : Fin 32) (us : List (Nat × Nat))
  /-- MPR (R117). -/
  | mpr (nn : Fin 32) (us : List (Nat × Nat))
  /-- MPW (R117). -/
  | mpw (nn : Fin 32) (us : List (Nat × Nat))
  /-- ILLEGAL_INSTRUCTION (R120). -/
  | illegalInstruction (nn : Fin 32) (us : List (Nat × Nat))
  /-- MP_TRANSFER_DONE (R83). -/
  | mpTransferDone (nn : Fin 32) (i : Nat) (us : List (Nat × Nat)) (be : BeatEnd)
  /-- ENGINE_WINDOW_WRITE (R92). -/
  | engineWindowWrite (nn : Fin 32) (o : Nat) (bs : List Byte) (mid : Nat)
  /-- MP_WAIT_MAX_CLEAR (R94). -/
  | mpWaitMaxClear (nn : Fin 32) (v mid : Nat)
  /-- LOAD_GO (R129). -/
  | loadGo (mid : Nat)
  /-- LOAD_PASS1_DONE (R131). -/
  | loadPass1Done (us : List (Nat × Nat))
  /-- LOAD_SECTION_DONE (R130). -/
  | loadSectionDone (us : List (Nat × Nat))
  /-- LOAD_PASS2_DONE (R129). -/
  | loadPass2Done
  /-- SOURCE_READ_ERROR (R131). -/
  | sourceReadError (off : Nat) (us : List (Nat × Nat))
  /-- LOAD_ABORT (R129). -/
  | loadAbort (mid : Nat)
  /-- INVAL_B (R146). -/
  | invalB (mid : Nat)
  /-- SCHED_RATE_WRITE (R146). -/
  | schedRateWrite (v mid : Nat)
  /-- HOIST_SWAP_REQUEST (R136). -/
  | hoistSwapRequest (v mid : Nat)
  /-- HOIST_PARAM_REQUEST (R140). -/
  | hoistParamRequest (v mid : Nat)
  /-- HOIST_REGS_REQUEST (R134). -/
  | hoistRegsRequest (v mid : Nat)
  /-- HOIST_ROUTE_REQUEST (R153). -/
  | hoistRouteRequest (v mid : Nat)
  /-- SWAP_LANDING (R138). -/
  | swapLanding
  /-- PARAM_LANDING (R141). -/
  | paramLanding
  /-- PARAM_COPY_FORWARD_DONE (R141). -/
  | paramCopyForwardDone (nn : Fin 32) (g : Fin 64)
  /-- REGS_LANDING (R134). -/
  | regsLanding
  /-- ROUTE_LANDING (R160). -/
  | routeLanding
  /-- ROUTE_COPY_FORWARD_DONE (R153). -/
  | routeCopyForwardDone
  /-- PGP_SET (R140). -/
  | pgpSet (i : Fin 64) (v mid : Nat)
  /-- RT_DATA_WRITE (R157). -/
  | rtDataWrite (v mid : Nat)
  /-- RT_DATA_READ (R169). -/
  | rtDataRead (mid : Nat) (us : List (Nat × Nat))
  /-- SOFT_SWITCH_TIMEOUT (R162). -/
  | softSwitchTimeout (d : Nat)
  /-- TDM_MUTE_NOW (R189). -/
  | tdmMuteNow (p : Fin 16) (mid : Nat)
  /-- GROUP_ARM (R177). -/
  | groupArm (g : Fin 4) (v mid : Nat)
  /-- GROUP_STOP (R178). -/
  | groupStop (g : Fin 4) (v mid : Nat)
  /-- START_EDGE_CAPTURE (R177). -/
  | startEdgeCapture
  /-- GROUP_FRAME0_START (R177). -/
  | groupFrame0Start (g : Fin 4) (pos e : Nat)
  /-- TDM_INPUT_FRAME (R183). -/
  | tdmInputFrame (p : Fin 16) (slots : List Nat) (bclk units : Nat)
  /-- TDM_GROUP_FRAME (R185). -/
  | tdmGroupFrame (g : Nat) (e : Int) (und ovr : List Nat)
  /-- TDM_RATE_FAULT (R184). -/
  | tdmRateFault (p : Fin 16)
  /-- TDM_RATE_FAULT_CLEAR (R184). -/
  | tdmRateFaultClear (p : Fin 16)
  /-- TDM_RAMP_OUT_START (R186). -/
  | tdmRampOutStart (p : Fin 16) (out : Bool)
  /-- TDM_RAMP_OUT_END (R186). -/
  | tdmRampOutEnd (p : Fin 16) (out : Bool)
  /-- TDM_RAMP_IN_START (R186). -/
  | tdmRampInStart (p : Fin 16) (out : Bool)
  /-- TDM_RAMP_IN_END (R186). -/
  | tdmRampInEnd (p : Fin 16) (out : Bool)
  /-- GROUP_FLYWHEEL (R187). -/
  | groupFlywheel (g : Fin 4)
  /-- FLYWHEEL_EXIT (R187). -/
  | flywheelExit (g : Fin 4) (e : Int)
  /-- DEC_OUTPUT (R201). -/
  | decOutput (n : Fin 96) (j : Nat) (bits : List Bool)
  /-- DEC_SETTLED (R199). -/
  | decSettled (n : Fin 96)
  /-- DEC_STUCK (R205). -/
  | decStuck (n : Fin 96) (run : Nat)
  /-- DEC_STUCK_CLEAR (R205). -/
  | decStuckClear (n : Fin 96)
  /-- MOD_FORCE_OFF (R214). -/
  | modForceOff (x : Fin 4) (v mid : Nat)
  /-- MOD_CLR (R214). -/
  | modClr (x : Fin 4) (v mid : Nat)
  /-- MOD_SWITCHING_PERIOD (R218). -/
  | modSwitchingPeriod (m : Fin 32) (e : Nat) (ocStill : Bool)
  /-- MOD_CM_UP_END (R219). -/
  | modCmUpEnd (m : Fin 32) (e : Nat)
  /-- MOD_FADE_IN_END (R219). -/
  | modFadeInEnd (m : Fin 32)
  /-- MOD_FADE_OUT_END (R219). -/
  | modFadeOutEnd (m : Fin 32)
  /-- MOD_CM_DOWN_END (R219). -/
  | modCmDownEnd (m : Fin 32)
  /-- OC_QUALIFY (R220). -/
  | ocQualify (m : Fin 32)
  /-- Z_WINDOW_END (R222). -/
  | zWindowEnd (m : Fin 32) (j : Nat)
  /-- MOD_RETRY (R224). -/
  | modRetry (m : Fin 32)
  /-- RETRY_CNT_CLEAR (R224). -/
  | retryCntClear (m : Fin 32)
  /-- RAIL_COMMAND (R228). -/
  | railCommand (g : Fin 8) (j : Nat)
  /-- RAIL_PWM_PERIOD (R229). -/
  | railPwmPeriod (g : Fin 8)
  /-- RAIL_LOW (R230). -/
  | railLow (g : Fin 8)
  /-- RAIL_OV (R230). -/
  | railOv (g : Fin 8)
  /-- RAIL_CLR (R230). -/
  | railClr (v mid : Nat)
  /-- THM_WINDOW_END (R232). -/
  | thmWindowEnd (m : Fin 32)
  /-- THM_STORE_ERROR (R233). -/
  | thmStoreError (m : Fin 32)
  /-- REF_ACTIVITY_LOST (R243). -/
  | refActivityLost (n : Fin 7)
  /-- REF_WINDOW_END (R243). -/
  | refWindowEnd (n : Fin 7) (ofs phase : Int)
  /-- REF_QUALIFIED (R244). -/
  | refQualified (refs : Nat)
  /-- REF_CFG_WRITE (R245). -/
  | refCfgWrite (n : Fin 7) (v mid : Nat)
  /-- REF_LIMIT_WRITE (R246). -/
  | refLimitWrite (n : Fin 7) (reject : Bool) (v mid : Nat)
  /-- REF_FORCE (R250). -/
  | refForce (v mid : Nat)
  /-- REF_REVERT (R250). -/
  | refRevert (n : Fin 7)
  /-- DPLL_LOCK (R252). -/
  | dpllLock
  /-- DPLL_UNLOCK (R252). -/
  | dpllUnlock
  /-- DPLL_HISTORY_VALID (R253). -/
  | dpllHistoryValid
  /-- DPLL_HOLD_EXPIRE (R253). -/
  | dpllHoldExpire
  /-- DPLL_SLEW_DONE (R255). -/
  | dpllSlewDone
  /-- DPLL_STEP_WRITE (R256). -/
  | dpllStepWrite (v mid : Nat)
  /-- DPLL_STEP_DONE (R256). -/
  | dpllStepDone
  /-- STEP_ANNOUNCE (R321). -/
  | stepAnnounce
  /-- PNT3_PULSE_END (R258). -/
  | pnt3PulseEnd
  /-- PTP_TIME_READ (R297). -/
  | ptpTimeRead (mid : Nat)
  /-- PTP_RATE_COMMIT (R298). -/
  | ptpRateCommit (v mid : Nat)
  /-- PTP_STEP_GO (R299). -/
  | ptpStepGo (v mid : Nat)
  /-- PTP_SYNC (R300). -/
  | ptpSync (v mid : Nat)
  /-- PTP_UNSYNC (R300). -/
  | ptpUnsync (v mid : Nat)
  /-- PTP_KEEPALIVE (R301). -/
  | ptpKeepalive (v mid : Nat)
  /-- PTP_SYNC_WATCHDOG (R301). -/
  | ptpSyncWatchdog
  /-- MAC_RX_FRAME (R266). -/
  | macRxFrame (p : Fin 5) (bs : List Byte) (raw16 : Nat)
  /-- MAC_PAUSE_FRAME (R269). -/
  | macPauseFrame (p : Fin 5) (bs : List Byte)
  /-- PAUSE_END (R269). -/
  | pauseEnd (p : Fin 5)
  /-- PAUSE_WATCHDOG (R270). -/
  | pauseWatchdog (p : Fin 5)
  /-- PAUSE_HOLDOFF_END (R270). -/
  | pauseHoldoffEnd (p : Fin 5)
  /-- MAC_LINK_CHANGE (R265). -/
  | macLinkChange (p : Fin 5) (lock clean : Bool)
  /-- MAC_CNT_CLR (R268). -/
  | macCntClr (p : Fin 5) (v mid : Nat)
  /-- RING_TAIL_WRITE (R289). -/
  | ringTailWrite (u : Fin 7) (k : Fin 8) (v mid : Nat)
  /-- MAC_TX_START (R272). -/
  | macTxStart (p : Fin 5) (left : List Nat) (woken : Bool)
  /-- MAC_TX_DONE (R289). -/
  | macTxDone (p : Fin 5) (raw16 : Nat)
  /-- LPI_ENTER (R271). -/
  | lpiEnter (p : Fin 4) (rx : Bool) (left : List Nat) (opens : Option Nat)
  /-- LPI_EXIT (R271). -/
  | lpiExit (p : Fin 4) (rx : Bool)
  /-- GATE_ENTRY_CHANGE (R273). -/
  | gateEntryChange (p : Fin 4) (cycleEnd : Bool)
  /-- GCL_CHANGE (R273). -/
  | gclChange (p : Fin 4) (v mid : Nat)
  /-- GCL_CONFIG_CHANGE (R273). -/
  | gclConfigChange (p : Fin 4)
  /-- GCL_DATA_WRITE (R294). -/
  | gclDataWrite (v mid : Nat)
  /-- STREAM_TX_PACKET (R280). -/
  | streamTxPacket (n : Fin 256)
  /-- STREAM_RX_PACKET (R283). -/
  | streamRxPacket (n : Fin 256)
  /-- STREAM_RAMP_OUT_START (R284). -/
  | streamRampOutStart (n : Fin 256)
  /-- STREAM_RAMP_IN_START (R284). -/
  | streamRampInStart (n : Fin 256)
  /-- MC_OFS_WRITE (R279). -/
  | mcOfsWrite (hi : Bool) (v mid : Nat)
  /-- CARIX_FRAME_RX (R314). -/
  | carixFrameRx (n : Fin 2) (valid : Bool) (h : List Byte) (audio : List Word) (tun : List Nat) (crc t4 : Nat) (late : Bool)
  /-- CARIX_RAMP_OUT_START (R316). -/
  | carixRampOutStart (n : Fin 2)
  /-- LANE_BLOCK_LOCK (R310). -/
  | laneBlockLock (n : Fin 2) (lane : Fin 4) (hs : List Nat)
  /-- LANE_LOCK_LOST (R310). -/
  | laneLockLost (n : Fin 2) (lane : Fin 4) (hs : List Nat)
  /-- CARIX_LINK_CHANGE (R311). -/
  | carixLinkChange (n : Fin 2) (skew : Option Nat) (frame : Bool)
  /-- DLY_VALID (R318). -/
  | dlyValid (n : Fin 2)
  /-- STEP_BLOCK_RX (R322). -/
  | stepBlockRx (n : Fin 2) (c0 c1 : Option Nat) (inTime : Bool)
  /-- STACK_ROLE_WRITE (R323). -/
  | stackRoleWrite (v mid : Nat)
  /-- STACK_CLR (R324). -/
  | stackClr (v mid : Nat)
  /-- CRX_CNT_CLR (R330). -/
  | crxCntClr (n : Fin 2) (v mid : Nat)
  /-- REMOTE_READ_REQUEST (R326). -/
  | remoteReadRequest (n : Fin 2) (v mid : Nat)
  /-- REMOTE_WRITE_REQUEST (R326). -/
  | remoteWriteRequest (n : Fin 2) (v mid : Nat)
  /-- TUNNEL_RESPONSE (R326). -/
  | tunnelResponse (n : Fin 2)
  /-- RA_TIMEOUT (R326). -/
  | raTimeout (n : Fin 2)
  /-- TUNNEL_READ_REQUEST_RX (R326). -/
  | tunnelReadRequestRx (n : Fin 2)
  /-- TUNNEL_WRITE_REQUEST_RX (R326). -/
  | tunnelWriteRequestRx (n : Fin 2) (x : Ext)
  /-- TUNNEL_MESSAGE_RX (R326). -/
  | tunnelMessageRx (n : Fin 2)
  /-- TUNNEL_MESSAGE_TX (R327). -/
  | tunnelMessageTx (n : Fin 2)
  /-- PAIR_ELECT_TIMEOUT (R339). -/
  | pairElectTimeout
  /-- PAIR_LINK_SILENT (R348). -/
  | pairLinkSilent
  /-- PIN_FAULT (R348). -/
  | pinFault
  /-- PAIR_TAKEOVER (R349). -/
  | pairTakeover
  /-- PAIR_CONVERGED (R344). -/
  | pairConverged
  /-- PAIR_CONV_LIMIT (R344). -/
  | pairConvLimit
  /-- PAIR_SUSPECT (R344). -/
  | pairSuspect
  /-- HEALTH_PUBLISH (R345). -/
  | healthPublish
  /-- PAIR_STRIKE_CMD (R347). -/
  | pairStrikeCmd (v mid : Nat)
  /-- CLR_STRUCK (R347). -/
  | clrStruck (v mid : Nat)
  /-- PAIR_CNT_CLR (R356). -/
  | pairCntClr (v mid : Nat)
  /-- DRC_INIT (R361). -/
  | drcInit (v mid : Nat)
  /-- DRC_INIT_DONE (R361). -/
  | drcInitDone
  /-- DRC_ONLINE (R361). -/
  | drcOnline (v mid : Nat)
  /-- DRC_OFFLINE (R361). -/
  | drcOffline (v mid : Nat)
  /-- PROBE_READ_CAL (R362). -/
  | probeReadCal (v mid : Nat)
  /-- PROBE_WRITE_READ (R362). -/
  | probeWriteRead (v mid : Nat)
  /-- PROBE_CA_TRAIN (R362). -/
  | probeCaTrain (v mid : Nat)
  /-- PROBE_GATE (R362). -/
  | probeGate (v mid : Nat)
  /-- PROBE_WCK_LVL (R362). -/
  | probeWckLvl (v mid : Nat)
  /-- PROBE_DONE (R362). -/
  | probeDone (res errs : Nat)
  /-- MR_WRITE (R362). -/
  | mrWrite (v mid : Nat)
  /-- MR_READ (R362). -/
  | mrRead (v : Nat) (dev : Option Nat) (mid : Nat)
  /-- DPHY_DELAY_WRITE (R363). -/
  | dphyDelayWrite (o v mid : Nat)
  /-- TSET_WRITE (R367). -/
  | tsetWrite (o v mid : Nat)
  /-- DRAM_REQUEST (R370). -/
  | dramRequest (arrived : List DramReq) (recent : Bool) (age : Nat) (us : List (Nat × Nat))
  /-- URGENCY_RAISE (R369). -/
  | urgencyRaise (i : Nat)
  /-- ROW_CLOSE (R364). -/
  | rowClose (bank : Nat)
  /-- REFRESH (R365). -/
  | refresh (bank : Nat) (postpone : Bool)
  /-- TEMP_POLL (R365). -/
  | tempPoll (rate : Fin 4)
  /-- SR_ENTER (R366). -/
  | srEnter
  /-- FC_GO (R368). -/
  | fcGo (v mid : Nat)
  /-- FC_DONE (R368). -/
  | fcDone
  /-- FILL_GO (R372). -/
  | fillGo (v mid : Nat)
  /-- FILL_DONE (R372). -/
  | fillDone
  /-- MAX_WAIT_CLEAR (R376). -/
  | maxWaitClear (port : Fin 8) (v mid : Nat)
  /-- DPHY_UNLOCK (R375). -/
  | dphyUnlock
  /-- ZQ_CALIBRATION (R378). -/
  | zqCalibration (ok : Bool)
  /-- DEFAULT_TARGET_ACCESS (R381). -/
  | defaultTargetAccess (a mid : Nat) (write fetch : Bool) (size : Nat)
  /-- AMO (R382). -/
  | amo (core : Fin 2) (op : Fin 9) (a v : Nat) (stall : Bool)
  /-- LOCK_TIMEOUT (R383). -/
  | lockTimeout
  /-- LR (R384). -/
  | lr (core : Fin 2) (a : Nat)
  /-- SC (R384). -/
  | sc (core : Fin 2) (a v : Nat)
  /-- HOLD_MAX_CLEAR (R390). -/
  | holdMaxClear (v mid : Nat)
  /-- CPU_RUN (R393). -/
  | cpuRun (n : Fin 2) (v mid : Nat)
  /-- CPU_HOLD (R393). -/
  | cpuHold (n : Fin 2) (v mid : Nat)
  /-- HALT_REQ (R420). -/
  | haltReq (n : Fin 2) (v mid : Nat)
  /-- WDOG_ENABLE (R395). -/
  | wdogEnable (v mid : Nat)
  /-- WDOG_KICK (R394). -/
  | wdogKick (v mid : Nat)
  /-- WDOG_WARN (R394). -/
  | wdogWarn
  /-- WDOG_EXPIRE (R394). -/
  | wdogExpire
  /-- HOST_GO (R405). -/
  | hostGo (v mid : Nat)
  /-- FLASH_CMD (R408). -/
  | flashCmd (v : Nat) (data : List Byte) (mid : Nat)
  /-- BOOT_FIFO_READ (R408). -/
  | bootFifoRead (mid : Nat)
  /-- BOOT_FIFO_WRITE (R408). -/
  | bootFifoWrite (v mid : Nat)
  /-- PCIE_REQUEST (R411). -/
  | pcieRequest (bar : Fin 3) (o n : Nat) (wr : Bool) (data : List Byte) (x : Ext)
  /-- FLR (R413). -/
  | flr
  /-- PCIE_PERST (R477). -/
  | pciePerst (low : Bool)
  /-- FUSE_PROG_KEY (R415). -/
  | fuseProgKey (v mid : Nat)
  /-- FUSE_PROG_GO (R415). -/
  | fuseProgGo (v bad mid : Nat)
  /-- DBG_REQ (R416). -/
  | dbgReq (v mid : Nat)
  /-- DBG_GO (R416). -/
  | dbgGo (v mid : Nat)
  /-- DOORBELL_H2A (R421). -/
  | doorbellH2a (v mid : Nat)
  /-- DOORBELL_A2H (R421). -/
  | doorbellA2h (v mid : Nat)
  /-- GPIO_EDGE (R424). -/
  | gpioEdge (p : Fin 16) (level : Bool)
  /-- TWB_SET_POINTER (R426). -/
  | twbSetPointer (p : Nat) (stop : Bool)
  /-- TWB_TARGET_WRITE_WORD (R428). -/
  | twbTargetWriteWord (w : Nat) (stop : Bool)
  /-- TWB_TARGET_READ_WORD (R429). -/
  | twbTargetReadWord (first late : Bool) (n : Fin 5) (stop : Bool)
  /-- TWB_ACCESS_DONE (R427). -/
  | twbAccessDone (x : Ext)
  /-- TWB_TARGET_BUS_ERROR (R431). -/
  | twbTargetBusError
  /-- TWB_CONTROLLER_WRITE (R432). -/
  | twbControllerWrite (v : Nat) (run : TwbRun) (mid : Nat)
  /-- TWB_CONTROLLER_READ (R432). -/
  | twbControllerRead (v : Nat) (run : TwbRun) (mid : Nat)
  /-- TWB_ARB_RETRY (R433). -/
  | twbArbRetry (run : TwbRun)
  /-- TWB_CONTROLLER_BUS_ERROR (R435). -/
  | twbControllerBusError
  /-- TWB_SCL_TIMEOUT (R432). -/
  | twbSclTimeout
  /-- TWB_RECOVER (R436). -/
  | twbRecover (v : Nat) (run : TwbRun) (mid : Nat)
  /-- TWB_ABORT (R432). -/
  | twbAbort (v : Nat) (run : TwbRun) (mid : Nat)
  /-- TWB_FIFO_READ (R439). -/
  | twbFifoRead (mid : Nat)
  /-- TWB_FIFO_WRITE (R439). -/
  | twbFifoWrite (v mid : Nat)
  /-- TWB_WAKE_MATCH (R437). -/
  | twbWakeMatch (addr : Nat)
  /-- MODE_REQ_RUN (R444). -/
  | modeReqRun (v mid : Nat)
  /-- MODE_REQ_SERVICE (R446). -/
  | modeReqService (v mid : Nat)
  /-- MODE_REQ_QUIET (R447). -/
  | modeReqQuiet (v mid : Nat)
  /-- MODE_REQ_DORMANT (R447). -/
  | modeReqDormant (v mid : Nat)
  /-- AGENT_ANSWER (R447). -/
  | agentAnswer (xfer : Bool) (edges shut : Nat)
  /-- AGENT_TIMEOUT (R447). -/
  | agentTimeout
  /-- QUIET_RESUME (R449). -/
  | quietResume
  /-- RESUME_DONE (R449). -/
  | resumeDone (us : Nat)
  /-- WAKE_N (R448). -/
  | wakeN
  /-- LEDGER_ALARM (R452). -/
  | ledgerAlarm
  /-- WAKE_SW (R457). -/
  | wakeSw (v mid : Nat)
  /-- WAKE_RAILS_VALID (R451). -/
  | wakeRailsValid (rom : RomInput) (l : Nat) (valid : Bool)
  /-- WAKE_TIMEOUT (R451). -/
  | wakeTimeout
  /-- RTC_INACTIVE (R452). -/
  | rtcInactive
  /-- FAB_EN_WRITE (R443). -/
  | fabEnWrite (v mid : Nat)
  /-- QUADRANT_POWERED (R443). -/
  | quadrantPowered (q : Fin 4)
  /-- POR (R454). -/
  | por
  /-- BOR (R454). -/
  | bor (rom : RomInput) (l : Nat) (valid : Bool)
  /-- PIN_RESET (R454). -/
  | pinReset (rom : RomInput)
  /-- WDOG_RESET (R454). -/
  | wdogReset (rom : RomInput)
  /-- SOFT_RESET (R418). -/
  | softReset (v : Nat) (rom : RomInput) (mid : Nat)
  /-- AO_RELEASE (R483). -/
  | aoRelease
  /-- DEVICE_RELEASE (R483). -/
  | deviceRelease (rom : RomInput)
  /-- TEMP_READING (R471). -/
  | tempReading (i : Fin 8) (r : Int)
  /-- SUPPLY_READING (R472). -/
  | supplyReading (i : Fin 8) (mv : Nat)
  /-- TEMP_MAX_CLEAR (R474). -/
  | tempMaxClear (v mid : Nat)
  /-- STORE_SCRUB (R468). -/
  | storeScrub (us : List (Nat × Nat))
  /-- DRAM_SCRUB (R468). -/
  | dramScrub (us : List (Nat × Nat))
  /-- SRAM_SCRUB (R468). -/
  | sramScrub (m : Fin 3) (us : List (Nat × Nat))
  /-- PCIE_LINK_CHANGE (R422). -/
  | pcieLinkChange (up : Bool) (gen width ltssm : Nat)
  /-- RTC_ACTIVE (R452). -/
  | rtcActive
  /-- HOLD_LIMIT_WRITE (R257). -/
  | holdLimitWrite (v mid : Nat)
  /-- MEDIA_OFS_WRITE (R305). -/
  | mediaOfsWrite (v mid : Nat)
  /-- POWER_UP_FROM_BOOT_DONE (R444). -/
  | powerUpFromBootDone
  /-- TWB_BUS_FREE_START (R432). -/
  | twbBusFreeStart (run : TwbRun)
  /-- MAIN_EN_LOW_TIME_END (R456). -/
  | mainEnLowTimeEnd
  deriving DecidableEq, Repr

end Sys2Proof
end

