-- ==== Sys2Proof/Machine/Bits.lean ====
section
/-! DEFINITION. Bit fields, signed readings, byte order and limits, shared by every block. -/

namespace Sys2Proof.Machine

/-- Bits [hi:lo] of a natural. -/
def bitsN (n hi lo : Nat) : Nat := (n >>> lo) % 2 ^ (hi + 1 - lo)

/-- Bit i of a natural. -/
def bitN (n i : Nat) : Bool := bitsN n i i == 1

/-- Bits [hi:lo] of a natural replaced by v. -/
def putBits (n hi lo v : Nat) : Nat :=
  let w := 2 ^ (hi + 1 - lo)
  n - bitsN n hi lo * 2 ^ lo + (v % w) * 2 ^ lo

/-- A truth value as a bit. -/
def b2n (b : Bool) : Nat := if b then 1 else 0

/-- The signed reading of the low w bits of n. -/
def toSigned (w n : Nat) : Int :=
  let m := n % 2 ^ w
  if m < 2 ^ (w - 1) then (m : Int) else (m : Int) - (2 : Int) ^ w

/-- The low w bits of an integer in two's complement. -/
def ofSigned (w : Nat) (i : Int) : Nat := (i % ((2 : Int) ^ w)).toNat

/-- An integer kept between two limits. -/
def clampI (lo hi i : Int) : Int := if i < lo then lo else if hi < i then hi else i

/-- A natural kept between two limits. -/
def clampN (lo hi n : Nat) : Nat := if n < lo then lo else if hi < n then hi else n

/-- The quotient rounded up; 0 by 0. -/
def ceilDiv (a b : Nat) : Nat := if b = 0 then 0 else (a + b - 1) / b

/-- A natural in n bytes, least significant first. -/
def toLE (n v : Nat) : List Byte := (List.range n).map (fun i => BitVec.ofNat 8 (v >>> (8 * i)))

/-- The value of bytes, least significant first. -/
def ofLE : List Byte → Nat
  | [] => 0
  | b :: bs => b.toNat + 256 * ofLE bs

/-- The value of bytes, most significant first. -/
def ofBE (bs : List Byte) : Nat := ofLE bs.reverse

/-- A natural in n bytes, most significant first. -/
def toBE (n v : Nat) : List Byte := (toLE n v).reverse

/-- A word as a register holds it. -/
def w32 (n : Nat) : Word := BitVec.ofNat 32 n

/-- The n bytes at position off of a byte string, those beyond its end missing. -/
def bytesAt (bs : List Byte) (off n : Nat) : List Byte := (bs.drop off).take n

/-- The little-endian value of n bytes at off. -/
def leAt (bs : List Byte) (off n : Nat) : Nat := ofLE (bytesAt bs off n)

/-- A sum that stops at the largest word (counters that saturate). -/
def satAdd32 (a k : Nat) : Nat := min (a + k) 0xFFFFFFFF

/-- The number of bits set in the low w bits. -/
def popCount : Nat → Nat → Nat
  | 0, _ => 0
  | w + 1, n => n % 2 + popCount w (n / 2)

end Sys2Proof.Machine
end

