-- ==== Sys2Proof/Machine/Crypto.lean ====
section
/-! DEFINITION. The algorithms that the specification names: SHA-384 and ECDSA P-384 (R124, R404, R416), CRC-32 of
IEEE 802.3 (R122) and CRC-64 of ECMA-182 (R342). Their constants are those of the published standards (PRESUMED, log
entry 18). -/

namespace Sys2Proof.Machine

/-! ## SHA-384 -/

/-- The largest number whose k-th power is at most n, found from r bit by bit below bit b. -/
def rootFrom (k n : Nat) : Nat → Nat → Nat
  | 0, r => r
  | b + 1, r => rootFrom k n b (if (r + 2 ^ b) ^ k ≤ n then r + 2 ^ b else r)

/-- The prime numbers below 410, of which there are 80. -/
def shaPrimes : List Nat :=
  (List.range 410).filter (fun n => decide (2 ≤ n) && (List.range 21).all (fun d => decide (d < 2) || decide (n ≤ d) || n % d != 0))

/-- The first 64 bits of the fractional part of the k-th root of p, as the standard defines its constants. -/
def rootFraction (k p : Nat) : BitVec 64 := BitVec.ofNat 64 (rootFrom k (p * 2 ^ (64 * k)) 69 0)

/-- The 80 round constants, from the cube roots of the first 80 primes. -/
def shaK : List (BitVec 64) := shaPrimes.map (rootFraction 3)

/-- The initial hash value of SHA-384, from the square roots of the 9th to the 16th prime. -/
def shaH0 : List (BitVec 64) := ((shaPrimes.drop 8).take 8).map (rootFraction 2)

/-- A list cut into pieces of n, fuel steps at most. -/
def chunks {α : Type} (n : Nat) : Nat → List α → List (List α)
  | 0, _ => []
  | fuel + 1, l => if l.isEmpty then [] else l.take n :: chunks n fuel (l.drop n)

/-- The padded message of SHA-384: 0x80, zeros, and the bit length in 16 bytes. -/
def shaPad (bs : List Byte) : List Byte :=
  let z := (128 - (bs.length + 17) % 128) % 128
  bs ++ 0x80 :: List.replicate z 0 ++ toBE 16 (8 * bs.length)

/-- The exclusive or of a word's rotations to the right. -/
def shaTurns (x : BitVec 64) (turns : List Nat) : BitVec 64 := turns.foldl (fun y k => y ^^^ x.rotateRight k) 0

/-- The bits of x where m is 1, those of y where it is 0; and the bits that at least two of three words have. -/
def shaPick (m x y : BitVec 64) : BitVec 64 := y ^^^ (m &&& (x ^^^ y))
def shaMost (x y z : BitVec 64) : BitVec 64 := (x &&& y) ||| (z &&& (x ||| y))

/-- The word that follows in the message schedule, whose words stand latest first. -/
def shaNext (ws : List (BitVec 64)) : BitVec 64 :=
  let back (k : Nat) := ws.getD (k - 1) 0
  [ back 16, back 7, shaTurns (back 15) [1, 8] ^^^ (back 15 >>> 7), shaTurns (back 2) [19, 61] ^^^ (back 2 >>> 6) ].foldl
    (fun x y => x + y) 0

/-- The message schedule grown by n words. -/
def shaSched : Nat → List (BitVec 64) → List (BitVec 64)
  | 0, ws => ws
  | n + 1, ws => shaSched n (shaNext ws :: ws)

/-- One round on the eight working words: they move down by one place, the fifth takes what the round adds. -/
def shaRound (v : List (BitVec 64)) (kw : BitVec 64) : List (BitVec 64) :=
  let w (k : Nat) := v.getD k 0
  let fed := kw + w 7 + shaPick (w 4) (w 5) (w 6) + shaTurns (w 4) [14, 18, 41]
  let top := fed + shaMost (w 0) (w 1) (w 2) + shaTurns (w 0) [28, 34, 39]
  (top :: v.take 7).modify 4 (fun x => x + fed)

/-- One block of 128 bytes into the hash value. -/
def shaBlock (h : List (BitVec 64)) (blk : List Byte) : List (BitVec 64) :=
  let m := (chunks 8 16 blk).map (fun w => BitVec.ofNat 64 (ofBE w))
  let ws := (shaSched 64 m.reverse).reverse
  let v := (List.zipWith (· + ·) shaK ws).foldl shaRound h
  List.zipWith (· + ·) h v

/-- The SHA-384 digest, 48 bytes. -/
def sha384 (bs : List Byte) : List Byte :=
  let p := shaPad bs
  (((chunks 128 (p.length / 128) p).foldl shaBlock shaH0).take 6).flatMap (fun w => toBE 8 w.toNat)

/-! ## ECDSA P-384 -/

/-- The field prime of P-384. -/
def ecP : Nat := 2 ^ 384 - 2 ^ 128 - 2 ^ 96 + 2 ^ 32 - 1

/-- The order of the base point. -/
def ecN : Nat := 0xffffffffffffffffffffffffffffffffffffffffffffffffc7634d81f4372ddf581a0db248b0a77aecec196accc52973

/-- The coefficient b of the curve; a is -3. -/
def ecB : Nat := 0xb3312fa7e23ee7e4988e056be3f82d19181d9c6efe8141120314088f5013875ac656398d8a2ed19d2a85c8edd3ec2aef

/-- The base point. -/
def ecG : Nat × Nat :=
  ( 0xaa87ca22be8b05378eb1c71ef320ad746e1d3b628ba79b9859f741e082542a385502f25dbf55296c3a545e3872760ab7
  , 0x3617de4a96262c6f5d9e98bf9292dc29f8f41dbd289a147ce9da3113b5f0b8c00a60b1ce1d7e819d7a431d7c90ea0e5f )

/-- b to the power e modulo m, over n bits of e. -/
def powMod (m b : Nat) : Nat → Nat → Nat
  | 0, _ => 1 % m
  | n + 1, e =>
    let h := powMod m (b * b % m) n (e / 2)
    if e % 2 = 1 then h * b % m else h

/-- The inverse modulo a prime. -/
def invMod (p a : Nat) : Nat := powMod p a 384 (p - 2)

/-- A point in Jacobian coordinates; z = 0 is the point at infinity. -/
structure EcPt where
  x : Nat
  y : Nat
  z : Nat
  deriving DecidableEq, Repr

/-- a - b in the field. -/
def fSub (a b : Nat) : Nat := (a + ecP - b % ecP) % ecP

/-- Twice a point. -/
def ecDbl (q : EcPt) : EcPt :=
  let z2 := q.z * q.z % ecP
  let y2 := q.y * q.y % ecP
  let s := 4 * q.x * y2 % ecP
  let m := 3 * (fSub q.x z2) * (q.x + z2) % ecP
  let x := fSub (m * m % ecP) (2 * s)
  { x := x, y := fSub (m * fSub s x % ecP) (8 * y2 * y2), z := 2 * q.y * q.z % ecP }

/-- The sum of two points. -/
def ecAdd (q r : EcPt) : EcPt :=
  if q.z = 0 then r
  else if r.z = 0 then q
  else
    let zq := q.z * q.z % ecP
    let zr := r.z * r.z % ecP
    let u1 := q.x * zr % ecP
    let u2 := r.x * zq % ecP
    let s1 := q.y * zr * r.z % ecP
    let s2 := r.y * zq * q.z % ecP
    if u1 = u2 then (if s1 = s2 then ecDbl q else ⟨1, 1, 0⟩)
    else
      let h := fSub u2 u1
      let t := fSub s2 s1
      let h2 := h * h % ecP
      let h3 := h2 * h % ecP
      let v := u1 * h2 % ecP
      let x := fSub (fSub (t * t % ecP) h3) (2 * v)
      { x := x, y := fSub (t * fSub v x % ecP) (s1 * h3), z := h * q.z * r.z % ecP }

/-- k times a point, over n bits of k. -/
def ecMul (q : EcPt) : Nat → Nat → EcPt
  | 0, _ => ⟨1, 1, 0⟩
  | n + 1, k =>
    let h := ecDbl (ecMul q n (k / 2))
    if k % 2 = 1 then ecAdd h q else h

/-- The point (x, y) lies on the curve. -/
def ecOn (x y : Nat) : Bool :=
  decide (x < ecP) && decide (y < ecP) && y * y % ecP == ((x * x % ecP) * x + ecB + 3 * (ecP - x % ecP)) % ecP

/-- The ECDSA P-384 verification of (r, s) over a digest with the public key (x, y). -/
def ecdsaVerify (digest : List Byte) (x y r s : Nat) : Bool :=
  if r = 0 ∨ ecN ≤ r ∨ s = 0 ∨ ecN ≤ s ∨ ecOn x y = false then false
  else
    let w := invMod ecN s
    let u1 := ofBE digest * w % ecN
    let u2 := r * w % ecN
    let q := ecAdd (ecMul ⟨ecG.1, ecG.2, 1⟩ 384 u1) (ecMul ⟨x, y, 1⟩ 384 u2)
    if q.z = 0 then false
    else
      let zi := invMod ecP q.z
      (q.x * (zi * zi % ecP) % ecP) % ecN == r

/-! ## CRCs -/

/-- One bit of a reflected CRC with polynomial p. -/
def crcBit (p c : Nat) : Nat := if c % 2 = 1 then (c / 2) ^^^ p else c / 2

/-- One byte of a reflected CRC. -/
def crcByte (p c : Nat) (b : Byte) : Nat :=
  (List.range 8).foldl (fun c _ => crcBit p c) (c ^^^ b.toNat)

/-- CRC-32 of IEEE 802.3. -/
def crc32 (bs : List Byte) : Nat := bs.foldl (crcByte 0xEDB88320) 0xFFFFFFFF ^^^ 0xFFFFFFFF

/-- The polynomial 0x42F0_E1EB_A9EA_3693 reflected. -/
def crc64Poly : Nat := 0xC96C5795D7870F42

/-- CRC-64 of ECMA-182 in the form of R342, on a stream of words, least significant byte first. -/
def crc64Words (ws : List Word) : Nat :=
  (ws.foldl (fun c w => (toLE 4 w.toNat).foldl (crcByte crc64Poly) c) 0xFFFFFFFFFFFFFFFF) ^^^ 0xFFFFFFFFFFFFFFFF

end Sys2Proof.Machine
end

