-- ==== Sys2Proof/Config.lean ====
section
/-! DEFINITION. What the specification leaves open: the free values, constants without a body. -/

namespace Sys2Proof

/-- The n-th free word: a value the specification leaves open. No body, so no proof can see it (log entry 4).
DESIGN CHOICE. -/
opaque Config.freeWord : Nat → Word

/-- The n-th free byte, for the 32 bytes of the ring-oscillator entropy source of R416 (log entry 4). DESIGN CHOICE. -/
opaque Config.freeByte : Nat → Byte

/-- The byte of the AOC ROM at an address: the specification gives the ROM's work, not its content (log entry 4).
DESIGN CHOICE. -/
opaque Config.romByte : Nat → Byte

/-- The output frequency towards which the loop of the DPLL pulls, in units of 2 x 10^-9 ppb: the specification gives the
loop's bandwidth (CTL.BW) and bounds, not its law. At a bandwidth code, a raw count, the measured frequency of the
reference in ppb and the phase error in ps (log entry 4). DESIGN CHOICE. -/
opaque Config.loopFreq : Nat → Nat → Int → Int → Int

/-! Fields of the packets of transmit streams that neither the specification nor its standards fix (log entry 88): the
IPv4 type of service, identification of packet k of stream n, flags and fragment offset, and time to live; whether UDP
carries a checksum; the RTP marker; the AVTP timestamp-uncertain bit and event field. DESIGN CHOICE. -/
opaque Config.ipTos : Byte
opaque Config.ipId : Nat → Nat → BitVec 16
opaque Config.ipFrag : BitVec 16
opaque Config.ipTtl : Byte
opaque Config.udpSum : Bool
opaque Config.rtpMarker : Bool
opaque Config.aafUncertain : Bool
opaque Config.aafEvent : BitVec 4

end Sys2Proof
end

