-- ==== Sys2Proof/Machine/Off.lean ====
section
/-! DEFINITION. The offsets of the registers within their pages, under the names of the register tables. -/

namespace Sys2Proof.Machine.Off

/-- HEAD PAGE_ID. -/
abbrev headPAGE_ID : Nat := 0x0
/-- HEAD PAGE_VER. -/
abbrev headPAGE_VER : Nat := 0x4
/-- HEAD PAGE_CTL. -/
abbrev headPAGE_CTL : Nat := 0x8
/-- HEAD PAGE_STAT. -/
abbrev headPAGE_STAT : Nat := 0xc
/-- HEAD INT_RAW. -/
abbrev headINT_RAW : Nat := 0x10
/-- HEAD INT_EN. -/
abbrev headINT_EN : Nat := 0x14
/-- HEAD INT_STAT. -/
abbrev headINT_STAT : Nat := 0x18
/-- HEAD ERR_CLASS. -/
abbrev headERR_CLASS : Nat := 0x20
/-- HEAD ERR_ADDR_LO. -/
abbrev headERR_ADDR_LO : Nat := 0x24
/-- HEAD ERR_ADDR_HI. -/
abbrev headERR_ADDR_HI : Nat := 0x28
/-- HEAD ERR_MASTER. -/
abbrev headERR_MASTER : Nat := 0x2c
/-- HEAD ERR_TYPE. -/
abbrev headERR_TYPE : Nat := 0x30
/-- HEAD ERR_TIME_LO. -/
abbrev headERR_TIME_LO : Nat := 0x34
/-- HEAD ERR_TIME_HI. -/
abbrev headERR_TIME_HI : Nat := 0x38
/-- HEAD ERR_MERGED. -/
abbrev headERR_MERGED : Nat := 0x3c
/-- SYS ID. -/
abbrev sysID : Nat := 0x100
/-- SYS STRAPS. -/
abbrev sysSTRAPS : Nat := 0x104
/-- SYS SOFT_RST. -/
abbrev sysSOFT_RST : Nat := 0x108
/-- SYS WDOG_CTL. -/
abbrev sysWDOG_CTL : Nat := 0x10c
/-- SYS WDOG_KICK. -/
abbrev sysWDOG_KICK : Nat := 0x110
/-- SYS WDOG_LEFT. -/
abbrev sysWDOG_LEFT : Nat := 0x114
/-- SYS IRQ0_MASK0–4. -/
abbrev sysIRQ0_MASK : Nat := 0x120
/-- SYS IRQ1_MASK0–4. -/
abbrev sysIRQ1_MASK : Nat := 0x140
/-- SYS DBG_STAT. -/
abbrev sysDBG_STAT : Nat := 0x160
/-- SYS DBG_CTL. -/
abbrev sysDBG_CTL : Nat := 0x164
/-- SYS DBG_CHAL0–11. -/
abbrev sysDBG_CHAL : Nat := 0x200
/-- SYS DBG_RESP0–48. -/
abbrev sysDBG_RESP : Nat := 0x300
/-- PWR MODE_REQ. -/
abbrev pwrMODE_REQ : Nat := 0x100
/-- PWR MODE. -/
abbrev pwrMODE : Nat := 0x104
/-- PWR STAT. -/
abbrev pwrSTAT : Nat := 0x108
/-- PWR REFUSE. -/
abbrev pwrREFUSE : Nat := 0x10c
/-- PWR REFUSE_CNT. -/
abbrev pwrREFUSE_CNT : Nat := 0x110
/-- PWR ABORT_CNT. -/
abbrev pwrABORT_CNT : Nat := 0x114
/-- PWR DOMAINS. -/
abbrev pwrDOMAINS : Nat := 0x118
/-- PWR FAB_EN. -/
abbrev pwrFAB_EN : Nat := 0x11c
/-- PWR NET_GUARD. -/
abbrev pwrNET_GUARD : Nat := 0x120
/-- PWR WAKE_EN. -/
abbrev pwrWAKE_EN : Nat := 0x124
/-- PWR WAKE_CAUSE. -/
abbrev pwrWAKE_CAUSE : Nat := 0x128
/-- PWR WAKE_SW. -/
abbrev pwrWAKE_SW : Nat := 0x12c
/-- PWR LEDGER_LO. -/
abbrev pwrLEDGER_LO : Nat := 0x130
/-- PWR LEDGER_HI. -/
abbrev pwrLEDGER_HI : Nat := 0x134
/-- PWR ALARM_LO. -/
abbrev pwrALARM_LO : Nat := 0x138
/-- PWR ALARM_HI. -/
abbrev pwrALARM_HI : Nat := 0x13c
/-- PWR WAKE_TO. -/
abbrev pwrWAKE_TO : Nat := 0x140
/-- PWR RESUME_LAST. -/
abbrev pwrRESUME_LAST : Nat := 0x144
/-- PWR RTC_STAT. -/
abbrev pwrRTC_STAT : Nat := 0x148
/-- RST CAUSE. -/
abbrev rstCAUSE : Nat := 0x100
/-- RST LAST. -/
abbrev rstLAST : Nat := 0x104
/-- RST BOR_CNT. -/
abbrev rstBOR_CNT : Nat := 0x108
/-- RST PIN_CNT. -/
abbrev rstPIN_CNT : Nat := 0x10c
/-- RST WDOG_CNT. -/
abbrev rstWDOG_CNT : Nat := 0x110
/-- RST SOFT_CNT. -/
abbrev rstSOFT_CNT : Nat := 0x114
/-- RST WAKE_CNT. -/
abbrev rstWAKE_CNT : Nat := 0x118
/-- RST BLOCK_LAST. -/
abbrev rstBLOCK_LAST : Nat := 0x11c
/-- AVS CTL. -/
abbrev avsCTL : Nat := 0x100
/-- AVS STAT. -/
abbrev avsSTAT : Nat := 0x104
/-- AVS V_CMD. -/
abbrev avsV_CMD : Nat := 0x108
/-- AVS V_MIN. -/
abbrev avsV_MIN : Nat := 0x10c
/-- AVS V_MAX. -/
abbrev avsV_MAX : Nat := 0x110
/-- AVS V_START. -/
abbrev avsV_START : Nat := 0x114
/-- AVS SLACK_TGT. -/
abbrev avsSLACK_TGT : Nat := 0x118
/-- AVS SLACK_HYST. -/
abbrev avsSLACK_HYST : Nat := 0x11c
/-- AVS PERIOD. -/
abbrev avsPERIOD : Nat := 0x120
/-- AVS STEP. -/
abbrev avsSTEP : Nat := 0x124
/-- AVS HOLDOFF. -/
abbrev avsHOLDOFF : Nat := 0x128
/-- AVS SETTLE. -/
abbrev avsSETTLE : Nat := 0x12c
/-- AVS V_READ. -/
abbrev avsV_READ : Nat := 0x130
/-- AVS BUS_CFG. -/
abbrev avsBUS_CFG : Nat := 0x134
/-- AVS FAIL_CNT. -/
abbrev avsFAIL_CNT : Nat := 0x138
/-- SENS CTL. -/
abbrev sensCTL : Nat := 0x100
/-- SENS STAT. -/
abbrev sensSTAT : Nat := 0x104
/-- SENS HOTTEST. -/
abbrev sensHOTTEST : Nat := 0x108
/-- SENS TEMP_WARN. -/
abbrev sensTEMP_WARN : Nat := 0x10c
/-- SENS TEMP_CRIT. -/
abbrev sensTEMP_CRIT : Nat := 0x110
/-- SENS TEMP_SHUT. -/
abbrev sensTEMP_SHUT : Nat := 0x114
/-- SENS TEMP_MAX. -/
abbrev sensTEMP_MAX : Nat := 0x118
/-- SENS TEMP0–7. -/
abbrev sensTEMP0 : Nat := 0x120
/-- SENS SUP0–7. -/
abbrev sensSUP0 : Nat := 0x140
/-- SENS SUP0_WIN. -/
abbrev sensSUP0_WIN : Nat := 0x160
/-- SENS SUP1_WIN. -/
abbrev sensSUP1_WIN : Nat := 0x164
/-- SENS SUP2_WIN. -/
abbrev sensSUP2_WIN : Nat := 0x168
/-- SENS SUP3_WIN. -/
abbrev sensSUP3_WIN : Nat := 0x16c
/-- SENS SUP4_WIN. -/
abbrev sensSUP4_WIN : Nat := 0x170
/-- SENS SUP5_WIN. -/
abbrev sensSUP5_WIN : Nat := 0x174
/-- SENS SUP6_WIN. -/
abbrev sensSUP6_WIN : Nat := 0x178
/-- SENS SUP7_WIN. -/
abbrev sensSUP7_WIN : Nat := 0x17c
/-- FUSE WORD0–63. -/
abbrev fuseWORD : Nat := 0x100
/-- FUSE PROG_KEY. -/
abbrev fusePROG_KEY : Nat := 0x200
/-- FUSE PROG_ADDR. -/
abbrev fusePROG_ADDR : Nat := 0x204
/-- FUSE PROG_DATA. -/
abbrev fusePROG_DATA : Nat := 0x208
/-- FUSE PROG_CTL. -/
abbrev fusePROG_CTL : Nat := 0x20c
/-- FUSE PROG_STAT. -/
abbrev fusePROG_STAT : Nat := 0x210
/-- BOOT CFG. -/
abbrev bootCFG : Nat := 0x100
/-- BOOT CMD. -/
abbrev bootCMD : Nat := 0x104
/-- BOOT ADDR. -/
abbrev bootADDR : Nat := 0x108
/-- BOOT FIFO. -/
abbrev bootFIFO : Nat := 0x10c
/-- BOOT STAT. -/
abbrev bootSTAT : Nat := 0x110
/-- BOOT RESULT. -/
abbrev bootRESULT : Nat := 0x114
/-- BOOT SEQ. -/
abbrev bootSEQ : Nat := 0x118
/-- BOOT HOST_LEN. -/
abbrev bootHOST_LEN : Nat := 0x11c
/-- BOOT HOST_GO. -/
abbrev bootHOST_GO : Nat := 0x120
/-- BOOT HASH0–11. -/
abbrev bootHASH : Nat := 0x140
/-- GPIO DIR. -/
abbrev gpioDIR : Nat := 0x100
/-- GPIO OUT. -/
abbrev gpioOUT : Nat := 0x104
/-- GPIO IN. -/
abbrev gpioIN : Nat := 0x108
/-- GPIO PULL. -/
abbrev gpioPULL : Nat := 0x10c
/-- GPIO RISE. -/
abbrev gpioRISE : Nat := 0x110
/-- GPIO FALL. -/
abbrev gpioFALL : Nat := 0x114
/-- CPU CTL. -/
abbrev cpuCTL : Nat := 0x100
/-- CPU RESET_VEC. -/
abbrev cpuRESET_VEC : Nat := 0x104
/-- CPU STAT. -/
abbrev cpuSTAT : Nat := 0x108
/-- CPU IE0–4. -/
abbrev cpuIE : Nat := 0x110
/-- CPU CLAIM. -/
abbrev cpuCLAIM : Nat := 0x124
/-- CPU ECC_CE_CNT. -/
abbrev cpuECC_CE_CNT : Nat := 0x128
/-- CPU ECC_UE_CNT. -/
abbrev cpuECC_UE_CNT : Nat := 0x12c
/-- AOC MBOX_H2A0–7. -/
abbrev aocMBOX_H2A : Nat := 0x100
/-- AOC MBOX_A2H0–7. -/
abbrev aocMBOX_A2H : Nat := 0x120
/-- AOC DOORBELL. -/
abbrev aocDOORBELL : Nat := 0x140
/-- AOC STAT. -/
abbrev aocSTAT : Nat := 0x144
/-- AOC ECC_CE_CNT. -/
abbrev aocECC_CE_CNT : Nat := 0x148
/-- AOC ECC_UE_CNT. -/
abbrev aocECC_UE_CNT : Nat := 0x14c
/-- MTX QOS. -/
abbrev mtxQOS : Nat := 0x100
/-- MTX STAT. -/
abbrev mtxSTAT : Nat := 0x104
/-- MTX DEF_CNT. -/
abbrev mtxDEF_CNT : Nat := 0x108
/-- MTX LOCK_REF_CNT. -/
abbrev mtxLOCK_REF_CNT : Nat := 0x10c
/-- MTX LOCK_TO_CNT. -/
abbrev mtxLOCK_TO_CNT : Nat := 0x110
/-- MTX HOLD_CNT. -/
abbrev mtxHOLD_CNT : Nat := 0x114
/-- MTX HOLD_MAX. -/
abbrev mtxHOLD_MAX : Nat := 0x118
/-- PCIE CTL. -/
abbrev pcieCTL : Nat := 0x100
/-- PCIE IDS. -/
abbrev pcieIDS : Nat := 0x104
/-- PCIE SUBSYS. -/
abbrev pcieSUBSYS : Nat := 0x108
/-- PCIE STAT. -/
abbrev pcieSTAT : Nat := 0x10c
/-- PCIE AP_BASE. -/
abbrev pcieAP_BASE : Nat := 0x110
/-- PCIE WR_ERR_CNT. -/
abbrev pcieWR_ERR_CNT : Nat := 0x114
/-- PCIE RD_ERR_CNT. -/
abbrev pcieRD_ERR_CNT : Nat := 0x118
/-- PCIE FLR_CNT. -/
abbrev pcieFLR_CNT : Nat := 0x11c
/-- PCIE PBA. -/
abbrev pciePBA : Nat := 0x700
/-- PCIE MSIX. -/
abbrev pcieMSIX : Nat := 0x800
/-- TWB CTL. -/
abbrev twbCTL : Nat := 0x100
/-- TWB ADDR. -/
abbrev twbADDR : Nat := 0x104
/-- TWB WAKE_CFG. -/
abbrev twbWAKE_CFG : Nat := 0x108
/-- TWB TIMING. -/
abbrev twbTIMING : Nat := 0x10c
/-- TWB SCL_TO. -/
abbrev twbSCL_TO : Nat := 0x110
/-- TWB CMD. -/
abbrev twbCMD : Nat := 0x114
/-- TWB FIFO. -/
abbrev twbFIFO : Nat := 0x118
/-- TWB STAT. -/
abbrev twbSTAT : Nat := 0x11c
/-- TWB ARB_LOST. -/
abbrev twbARB_LOST : Nat := 0x120
/-- TWB TGT_PTR. -/
abbrev twbTGT_PTR : Nat := 0x124
/-- TWB NAK_BUSY_CNT. -/
abbrev twbNAK_BUSY_CNT : Nat := 0x128
/-- TWB RD_LATE_CNT. -/
abbrev twbRD_LATE_CNT : Nat := 0x12c
/-- TWB TGT_BUS_ERR_CNT. -/
abbrev twbTGT_BUS_ERR_CNT : Nat := 0x130
/-- TWB BUS_ERR_CNT. -/
abbrev twbBUS_ERR_CNT : Nat := 0x134
/-- TWB ARB_LOST_CNT. -/
abbrev twbARB_LOST_CNT : Nat := 0x138
/-- TWB REC_CNT. -/
abbrev twbREC_CNT : Nat := 0x13c
/-- TWB WAKE_CNT. -/
abbrev twbWAKE_CNT : Nat := 0x140
/-- DRC CTL. -/
abbrev drcCTL : Nat := 0x100
/-- DRC STAT. -/
abbrev drcSTAT : Nat := 0x104
/-- DRC CFG. -/
abbrev drcCFG : Nat := 0x108
/-- DRC CAP. -/
abbrev drcCAP : Nat := 0x10c
/-- DRC PAGE_IDLE. -/
abbrev drcPAGE_IDLE : Nat := 0x110
/-- DRC SR_IDLE. -/
abbrev drcSR_IDLE : Nat := 0x114
/-- DRC TEMP_POLL. -/
abbrev drcTEMP_POLL : Nat := 0x118
/-- DRC SLEEP_DRAIN. -/
abbrev drcSLEEP_DRAIN : Nat := 0x11c
/-- DRC FC_CTL. -/
abbrev drcFC_CTL : Nat := 0x120
/-- DRC FC_STAT. -/
abbrev drcFC_STAT : Nat := 0x124
/-- DRC FC_CNT. -/
abbrev drcFC_CNT : Nat := 0x128
/-- DRC TSETA, TSETB. -/
abbrev drcTSET : Nat := 0x140
/-- DRC LAT_TGT0–7. -/
abbrev drcLAT_TGT : Nat := 0x1c0
/-- DRC MAX_WAIT0–7. -/
abbrev drcMAX_WAIT : Nat := 0x1e0
/-- DRC PROBE_CTL. -/
abbrev drcPROBE_CTL : Nat := 0x200
/-- DRC PROBE_ADDR. -/
abbrev drcPROBE_ADDR : Nat := 0x204
/-- DRC PROBE_RES. -/
abbrev drcPROBE_RES : Nat := 0x208
/-- DRC PROBE_ERRS. -/
abbrev drcPROBE_ERRS : Nat := 0x20c
/-- DRC PROBE_PAT0–15. -/
abbrev drcPROBE_PAT : Nat := 0x240
/-- DRC MR_CMD. -/
abbrev drcMR_CMD : Nat := 0x280
/-- DRC MR_DATA. -/
abbrev drcMR_DATA : Nat := 0x284
/-- DRC FILL_LO. -/
abbrev drcFILL_LO : Nat := 0x2c0
/-- DRC FILL_HI. -/
abbrev drcFILL_HI : Nat := 0x2c4
/-- DRC FILL_LEN. -/
abbrev drcFILL_LEN : Nat := 0x2c8
/-- DRC FILL_CTL. -/
abbrev drcFILL_CTL : Nat := 0x2cc
/-- DRC ECC_CE_CNT. -/
abbrev drcECC_CE_CNT : Nat := 0x300
/-- DRC ECC_UE_CNT. -/
abbrev drcECC_UE_CNT : Nat := 0x304
/-- DRC URG3_CNT. -/
abbrev drcURG3_CNT : Nat := 0x308
/-- DPHY CTL. -/
abbrev dphyCTL : Nat := 0x100
/-- DPHY STAT. -/
abbrev dphySTAT : Nat := 0x104
/-- DPHY IO_CFG. -/
abbrev dphyIO_CFG : Nat := 0x108
/-- ESC CTL. -/
abbrev escCTL : Nat := 0x100
/-- ESC STAT. -/
abbrev escSTAT : Nat := 0x104
/-- ESC TICK_LO. -/
abbrev escTICK_LO : Nat := 0x108
/-- ESC TICK_HI. -/
abbrev escTICK_HI : Nat := 0x10c
/-- ESC TICK_PERIOD. -/
abbrev escTICK_PERIOD : Nat := 0x110
/-- ESC MARGIN. -/
abbrev escMARGIN : Nat := 0x114
/-- ESC SLACK_LAST. -/
abbrev escSLACK_LAST : Nat := 0x118
/-- ESC SLACK_MIN. -/
abbrev escSLACK_MIN : Nat := 0x11c
/-- ESC SLACK_MAX. -/
abbrev escSLACK_MAX : Nat := 0x120
/-- ESC HIST_CFG. -/
abbrev escHIST_CFG : Nat := 0x124
/-- ESC SLACK_WARN. -/
abbrev escSLACK_WARN : Nat := 0x128
/-- ESC OVR_CNT. -/
abbrev escOVR_CNT : Nat := 0x12c
/-- ESC FAB_OVR_CNT. -/
abbrev escFAB_OVR_CNT : Nat := 0x130
/-- ESC OVR_LAST. -/
abbrev escOVR_LAST : Nat := 0x134
/-- ESC DETACHED. -/
abbrev escDETACHED : Nat := 0x138
/-- ESC RATE_LAST. -/
abbrev escRATE_LAST : Nat := 0x13c
/-- ESC BEAT_DL0–7. -/
abbrev escBEAT_DL : Nat := 0x140
/-- ESC HIST0–15. -/
abbrev escHIST : Nat := 0x180
/-- ESC OVR_ENG0–7. -/
abbrev escOVR_ENG : Nat := 0x1c0
/-- SCHED CTL. -/
abbrev schedCTL : Nat := 0x100
/-- SCHED STAT. -/
abbrev schedSTAT : Nat := 0x104
/-- SCHED RATE. -/
abbrev schedRATE : Nat := 0x108
/-- SCHED SRC_LO. -/
abbrev schedSRC_LO : Nat := 0x10c
/-- SCHED SRC_HI. -/
abbrev schedSRC_HI : Nat := 0x110
/-- SCHED SRC_LEN. -/
abbrev schedSRC_LEN : Nat := 0x114
/-- SCHED LOAD. -/
abbrev schedLOAD : Nat := 0x118
/-- SCHED LOAD_CODE. -/
abbrev schedLOAD_CODE : Nat := 0x11c
/-- SCHED HOIST. -/
abbrev schedHOIST : Nat := 0x120
/-- SCHED HOIST_TICK_LO. -/
abbrev schedHOIST_TICK_LO : Nat := 0x124
/-- SCHED HOIST_TICK_HI. -/
abbrev schedHOIST_TICK_HI : Nat := 0x128
/-- SCHED HOIST_STAT. -/
abbrev schedHOIST_STAT : Nat := 0x12c
/-- SCHED LAST_TICK_LO. -/
abbrev schedLAST_TICK_LO : Nat := 0x130
/-- SCHED LAST_TICK_HI. -/
abbrev schedLAST_TICK_HI : Nat := 0x134
/-- SCHED HOIST_CNT. -/
abbrev schedHOIST_CNT : Nat := 0x138
/-- SCHED SWAP_DEFER_CNT. -/
abbrev schedSWAP_DEFER_CNT : Nat := 0x13c
/-- SCHED REFUSE_CNT. -/
abbrev schedREFUSE_CNT : Nat := 0x140
/-- SCHED IMG_A_LO. -/
abbrev schedIMG_A_LO : Nat := 0x144
/-- SCHED IMG_A_HI. -/
abbrev schedIMG_A_HI : Nat := 0x148
/-- SCHED IMG_B_LO. -/
abbrev schedIMG_B_LO : Nat := 0x14c
/-- SCHED IMG_B_HI. -/
abbrev schedIMG_B_HI : Nat := 0x150
/-- SCHED BUDGET. -/
abbrev schedBUDGET : Nat := 0x154
/-- SCHED MISMATCH. -/
abbrev schedMISMATCH : Nat := 0x158
/-- SCHED PGP0–PGP63. -/
abbrev schedPGP : Nat := 0x400
/-- STORE SCRUB_CTL. -/
abbrev storeSCRUB_CTL : Nat := 0x100
/-- STORE SCRUB_PER_STORE. -/
abbrev storeSCRUB_PER_STORE : Nat := 0x104
/-- STORE SCRUB_PER_DRAM. -/
abbrev storeSCRUB_PER_DRAM : Nat := 0x108
/-- STORE ECC_CE_CNT. -/
abbrev storeECC_CE_CNT : Nat := 0x10c
/-- STORE ECC_UE_CNT. -/
abbrev storeECC_UE_CNT : Nat := 0x110
/-- STORE PASS_CNT. -/
abbrev storePASS_CNT : Nat := 0x114
/-- STORE DRAM_PASS_CNT. -/
abbrev storeDRAM_PASS_CNT : Nat := 0x118
/-- RTR RT_ADDR. -/
abbrev rtrRT_ADDR : Nat := 0x100
/-- RTR RT_DATA. -/
abbrev rtrRT_DATA : Nat := 0x104
/-- RTR STAT. -/
abbrev rtrSTAT : Nat := 0x108
/-- RTR LIVE_CNT. -/
abbrev rtrLIVE_CNT : Nat := 0x10c
/-- RTR BYP_CNT. -/
abbrev rtrBYP_CNT : Nat := 0x110
/-- RTR REFUSE_CNT. -/
abbrev rtrREFUSE_CNT : Nat := 0x114
/-- RTR REFUSE_LAST. -/
abbrev rtrREFUSE_LAST : Nat := 0x118
/-- RTR ECC_CE_CNT. -/
abbrev rtrECC_CE_CNT : Nat := 0x11c
/-- RTR ECC_UE_CNT. -/
abbrev rtrECC_UE_CNT : Nat := 0x120
/-- RTR SRC_ERR_CNT. -/
abbrev rtrSRC_ERR_CNT : Nat := 0x124
/-- RTR XFER_NS_LAST. -/
abbrev rtrXFER_NS_LAST : Nat := 0x128
/-- RTR GEN0–GEN63. -/
abbrev rtrGEN : Nat := 0x800
/-- GAIN ZC_THRESH_NX. -/
abbrev gainZC_THRESH_NX : Nat := 0x100
/-- GAIN ZC_THRESH. -/
abbrev gainZC_THRESH : Nat := 0x104
/-- GAIN ZC_TIMEOUT_NX. -/
abbrev gainZC_TIMEOUT_NX : Nat := 0x108
/-- GAIN ZC_TIMEOUT. -/
abbrev gainZC_TIMEOUT : Nat := 0x10c
/-- GAIN PENDING. -/
abbrev gainPENDING : Nat := 0x110
/-- GAIN SOFT_CNT. -/
abbrev gainSOFT_CNT : Nat := 0x114
/-- GAIN TIMEOUT_CNT. -/
abbrev gainTIMEOUT_CNT : Nat := 0x118
/-- GAIN SUPERSEDE_CNT. -/
abbrev gainSUPERSEDE_CNT : Nat := 0x11c
/-- GAIN SOFT_OVF_CNT. -/
abbrev gainSOFT_OVF_CNT : Nat := 0x120
/-- GAIN LAST. -/
abbrev gainLAST : Nat := 0x124
/-- TDMG GRPg_CTL. -/
abbrev tdmgG_CTL : Nat := 0x100
/-- TDMG GRPg_MEMBERS. -/
abbrev tdmgG_MEMBERS : Nat := 0x104
/-- TDMG GRPg_TRIG_LO. -/
abbrev tdmgG_TRIG_LO : Nat := 0x108
/-- TDMG GRPg_TRIG_HI. -/
abbrev tdmgG_TRIG_HI : Nat := 0x10c
/-- TDMG GRPg_TRIG_X. -/
abbrev tdmgG_TRIG_X : Nat := 0x110
/-- TDMG GRPg_STAT. -/
abbrev tdmgG_STAT : Nat := 0x114
/-- TDMG GRPg_PHASE. -/
abbrev tdmgG_PHASE : Nat := 0x118
/-- TDMG GRPg_LOCK_TOL. -/
abbrev tdmgG_LOCK_TOL : Nat := 0x11c
/-- TDMG GRPg_SLIP_FAST_CNT. -/
abbrev tdmgG_SLIP_FAST_CNT : Nat := 0x120
/-- TDMG GRPg_SLIP_SLOW_CNT. -/
abbrev tdmgG_SLIP_SLOW_CNT : Nat := 0x124
/-- TDMG GRPg_START_TICK_LO. -/
abbrev tdmgG_START_TICK_LO : Nat := 0x128
/-- TDMG GRPg_START_TICK_HI. -/
abbrev tdmgG_START_TICK_HI : Nat := 0x12c
/-- TDMG GRPg_FRAME_LO. -/
abbrev tdmgG_FRAME_LO : Nat := 0x130
/-- TDMG GRPg_FRAME_HI. -/
abbrev tdmgG_FRAME_HI : Nat := 0x134
/-- TDMG START_CFG. -/
abbrev tdmgSTART_CFG : Nat := 0x200
/-- TDMG START_TS_LO. -/
abbrev tdmgSTART_TS_LO : Nat := 0x204
/-- TDMG START_TS_HI. -/
abbrev tdmgSTART_TS_HI : Nat := 0x208
/-- TDM CTL_NX. -/
abbrev tdmCTL_NX : Nat := 0x100
/-- TDM CTL. -/
abbrev tdmCTL : Nat := 0x104
/-- TDM MUTE_NOW. -/
abbrev tdmMUTE_NOW : Nat := 0x108
/-- TDM CFG. -/
abbrev tdmCFG : Nat := 0x10c
/-- TDM FMT. -/
abbrev tdmFMT : Nat := 0x110
/-- TDM TX_EN. -/
abbrev tdmTX_EN : Nat := 0x114
/-- TDM HOLD_FRAMES_NX. -/
abbrev tdmHOLD_FRAMES_NX : Nat := 0x118
/-- TDM HOLD_FRAMES. -/
abbrev tdmHOLD_FRAMES : Nat := 0x11c
/-- TDM RATE_TOL_NX. -/
abbrev tdmRATE_TOL_NX : Nat := 0x120
/-- TDM RATE_TOL. -/
abbrev tdmRATE_TOL : Nat := 0x124
/-- TDM STATE. -/
abbrev tdmSTATE : Nat := 0x128
/-- TDM STAT. -/
abbrev tdmSTAT : Nat := 0x12c
/-- TDM BCLK_ERR_CNT. -/
abbrev tdmBCLK_ERR_CNT : Nat := 0x130
/-- TDM RATE_DEV_CNT. -/
abbrev tdmRATE_DEV_CNT : Nat := 0x134
/-- TDM IN_UND_CNT. -/
abbrev tdmIN_UND_CNT : Nat := 0x138
/-- TDM IN_OVR_CNT. -/
abbrev tdmIN_OVR_CNT : Nat := 0x13c
/-- TDM OUT_UND_CNT. -/
abbrev tdmOUT_UND_CNT : Nat := 0x140
/-- TDM OUT_OVR_CNT. -/
abbrev tdmOUT_OVR_CNT : Nat := 0x144
/-- TDM HOLD_CNT. -/
abbrev tdmHOLD_CNT : Nat := 0x148
/-- TDM RATE_FAULT_CNT. -/
abbrev tdmRATE_FAULT_CNT : Nat := 0x14c
/-- TDM FS_PERIOD. -/
abbrev tdmFS_PERIOD : Nat := 0x150
/-- TDM BCLK_LAST. -/
abbrev tdmBCLK_LAST : Nat := 0x154
/-- DEC RUN_NX. -/
abbrev decRUN_NX : Nat := 0x100
/-- DEC RUN. -/
abbrev decRUN : Nat := 0x104
/-- DEC CFG_ERR. -/
abbrev decCFG_ERR : Nat := 0x108
/-- DEC STUCK. -/
abbrev decSTUCK : Nat := 0x10c
/-- DEC CLIP. -/
abbrev decCLIP : Nat := 0x110
/-- DEC WR_REFUSED. -/
abbrev decWR_REFUSED : Nat := 0x114
/-- DEC SETTLED. -/
abbrev decSETTLED : Nat := 0x118
/-- DEC STUCK_LEN. -/
abbrev decSTUCK_LEN : Nat := 0x11c
/-- DEC CLK0–CLK3. -/
abbrev decCLK : Nat := 0x120
/-- DEC INSTi_CFG. -/
abbrev decI_CFG : Nat := 0x200
/-- DEC INSTi_RATIO. -/
abbrev decI_RATIO : Nat := 0x204
/-- DEC INSTi_STUCK_CNT. -/
abbrev decI_STUCK_CNT : Nat := 0x208
/-- DEC INSTi_CLIP_CNT. -/
abbrev decI_CLIP_CNT : Nat := 0x20c
/-- MOD CTL_NX. -/
abbrev modCTL_NX : Nat := 0x100
/-- MOD CTL. -/
abbrev modCTL : Nat := 0x104
/-- MOD FORCE_OFF. -/
abbrev modFORCE_OFF : Nat := 0x108
/-- MOD CLR. -/
abbrev modCLR : Nat := 0x10c
/-- MOD PER. -/
abbrev modPER : Nat := 0x110
/-- MOD MIN_PULSE. -/
abbrev modMIN_PULSE : Nat := 0x114
/-- MOD CM_RAMP. -/
abbrev modCM_RAMP : Nat := 0x118
/-- MOD FADE. -/
abbrev modFADE : Nat := 0x11c
/-- MOD CHk_CFG. -/
abbrev modC_CFG : Nat := 0x200
/-- MOD CHk_OC. -/
abbrev modC_OC : Nat := 0x204
/-- MOD CHk_RETRY. -/
abbrev modC_RETRY : Nat := 0x208
/-- MOD CHk_RETRY_CLR. -/
abbrev modC_RETRY_CLR : Nat := 0x20c
/-- MOD CHk_VPK. -/
abbrev modC_VPK : Nat := 0x210
/-- MOD CHk_SNS. -/
abbrev modC_SNS : Nat := 0x214
/-- MOD CHk_VFS. -/
abbrev modC_VFS : Nat := 0x218
/-- MOD CHk_IFS. -/
abbrev modC_IFS : Nat := 0x21c
/-- MOD CHk_Z_CFG. -/
abbrev modC_Z_CFG : Nat := 0x220
/-- MOD CHk_Z_IMIN. -/
abbrev modC_Z_IMIN : Nat := 0x224
/-- MOD CHk_STAT. -/
abbrev modC_STAT : Nat := 0x228
/-- MOD CHk_OC_CNT. -/
abbrev modC_OC_CNT : Nat := 0x22c
/-- MOD CHk_SHUT_CNT. -/
abbrev modC_SHUT_CNT : Nat := 0x230
/-- MOD CHk_CLIP_CNT. -/
abbrev modC_CLIP_CNT : Nat := 0x234
/-- MOD CHk_Z_LAST. -/
abbrev modC_Z_LAST : Nat := 0x238
/-- RAIL CTL_NX. -/
abbrev railCTL_NX : Nat := 0x100
/-- RAIL CTL. -/
abbrev railCTL : Nat := 0x104
/-- RAIL CLR. -/
abbrev railCLR : Nat := 0x108
/-- RAIL GRPg_CFG. -/
abbrev railG_CFG : Nat := 0x200
/-- RAIL GRPg_V_MIN. -/
abbrev railG_V_MIN : Nat := 0x204
/-- RAIL GRPg_V_MAX. -/
abbrev railG_V_MAX : Nat := 0x208
/-- RAIL GRPg_V_FIX. -/
abbrev railG_V_FIX : Nat := 0x20c
/-- RAIL GRPg_V_DROP. -/
abbrev railG_V_DROP : Nat := 0x210
/-- RAIL GRPg_VFS. -/
abbrev railG_VFS : Nat := 0x214
/-- RAIL GRPg_SLEW_UP. -/
abbrev railG_SLEW_UP : Nat := 0x218
/-- RAIL GRPg_SLEW_DN. -/
abbrev railG_SLEW_DN : Nat := 0x21c
/-- RAIL GRPg_RPER. -/
abbrev railG_RPER : Nat := 0x220
/-- RAIL GRPg_TOL. -/
abbrev railG_TOL : Nat := 0x224
/-- RAIL GRPg_TIME. -/
abbrev railG_TIME : Nat := 0x228
/-- RAIL GRPg_CMD. -/
abbrev railG_CMD : Nat := 0x22c
/-- RAIL GRPg_V_MEAS. -/
abbrev railG_V_MEAS : Nat := 0x230
/-- RAIL GRPg_LATE_CNT. -/
abbrev railG_LATE_CNT : Nat := 0x234
/-- RAIL GRPg_LOW_CNT. -/
abbrev railG_LOW_CNT : Nat := 0x238
/-- RAIL GRPg_STAT. -/
abbrev railG_STAT : Nat := 0x23c
/-- RAIL CHm_ENV. -/
abbrev railCM_ENV : Nat := 0x800
/-- THM CTL_NX. -/
abbrev thmCTL_NX : Nat := 0x100
/-- THM CTL. -/
abbrev thmCTL : Nat := 0x104
/-- THM T_AMB. -/
abbrev thmT_AMB : Nat := 0x108
/-- THM GAIN_BASE. -/
abbrev thmGAIN_BASE : Nat := 0x10c
/-- THM CHk_RTH. -/
abbrev thmC_RTH : Nat := 0x200
/-- THM CHk_A_VC. -/
abbrev thmC_A_VC : Nat := 0x204
/-- THM CHk_A_M. -/
abbrev thmC_A_M : Nat := 0x208
/-- THM CHk_R_REF. -/
abbrev thmC_R_REF : Nat := 0x20c
/-- THM CHk_REF. -/
abbrev thmC_REF : Nat := 0x210
/-- THM CHk_TW_TL. -/
abbrev thmC_TW_TL : Nat := 0x214
/-- THM CHk_TS. -/
abbrev thmC_TS : Nat := 0x218
/-- THM CHk_AR. -/
abbrev thmC_AR : Nat := 0x21c
/-- THM CHk_G_FLOOR. -/
abbrev thmC_G_FLOOR : Nat := 0x220
/-- THM CHk_CORR. -/
abbrev thmC_CORR : Nat := 0x224
/-- THM CHk_IMIN. -/
abbrev thmC_IMIN : Nat := 0x228
/-- THM CHk_DT_VC. -/
abbrev thmC_DT_VC : Nat := 0x22c
/-- THM CHk_T. -/
abbrev thmC_T : Nat := 0x230
/-- THM CHk_R_MEAS. -/
abbrev thmC_R_MEAS : Nat := 0x234
/-- THM CHk_GAIN. -/
abbrev thmC_GAIN : Nat := 0x238
/-- THM CHk_STAT. -/
abbrev thmC_STAT : Nat := 0x23c
/-- REF CTL. -/
abbrev refCTL : Nat := 0x100
/-- REF SEL. -/
abbrev refSEL : Nat := 0x104
/-- REF HOLD_LIMIT. -/
abbrev refHOLD_LIMIT : Nat := 0x108
/-- REF QUAL_STAT. -/
abbrev refQUAL_STAT : Nat := 0x10c
/-- REF DRIFT_PPB. -/
abbrev refDRIFT_PPB : Nat := 0x110
/-- REF CONFLICT_PPB. -/
abbrev refCONFLICT_PPB : Nat := 0x114
/-- REF CONFLICT_PAIR. -/
abbrev refCONFLICT_PAIR : Nat := 0x118
/-- REF REVERT_WAIT. -/
abbrev refREVERT_WAIT : Nat := 0x11c
/-- REF REFn_CFG. -/
abbrev refR_CFG : Nat := 0x200
/-- REF REFn_ACCEPT. -/
abbrev refR_ACCEPT : Nat := 0x204
/-- REF REFn_REJECT. -/
abbrev refR_REJECT : Nat := 0x208
/-- REF REFn_TIMES. -/
abbrev refR_TIMES : Nat := 0x20c
/-- REF REFn_DLY. -/
abbrev refR_DLY : Nat := 0x210
/-- REF REFn_OFFSET. -/
abbrev refR_OFFSET : Nat := 0x214
/-- REF REFn_LOCK_OFS. -/
abbrev refR_LOCK_OFS : Nat := 0x218
/-- REF REFn_STAT. -/
abbrev refR_STAT : Nat := 0x21c
/-- REF REFn_DISQ_CNT. -/
abbrev refR_DISQ_CNT : Nat := 0x220
/-- DPLL CTL. -/
abbrev dpllCTL : Nat := 0x100
/-- DPLL STATE. -/
abbrev dpllSTATE : Nat := 0x104
/-- DPLL PHASE_SLEW. -/
abbrev dpllPHASE_SLEW : Nat := 0x108
/-- DPLL FREQ_RAMP. -/
abbrev dpllFREQ_RAMP : Nat := 0x10c
/-- DPLL LOCK_PHASE. -/
abbrev dpllLOCK_PHASE : Nat := 0x110
/-- DPLL LOCK_FREQ. -/
abbrev dpllLOCK_FREQ : Nat := 0x114
/-- DPLL LOCK_TIME. -/
abbrev dpllLOCK_TIME : Nat := 0x118
/-- DPLL UNLOCK_PHASE. -/
abbrev dpllUNLOCK_PHASE : Nat := 0x11c
/-- DPLL STEP. -/
abbrev dpllSTEP : Nat := 0x120
/-- DPLL STEP_MAX. -/
abbrev dpllSTEP_MAX : Nat := 0x124
/-- DPLL PHASE_OFS. -/
abbrev dpllPHASE_OFS : Nat := 0x128
/-- DPLL PHASE_ERR. -/
abbrev dpllPHASE_ERR : Nat := 0x12c
/-- DPLL FREQ_OUT. -/
abbrev dpllFREQ_OUT : Nat := 0x130
/-- DPLL HOLD_FREQ. -/
abbrev dpllHOLD_FREQ : Nat := 0x134
/-- DPLL HOLD_LEFT. -/
abbrev dpllHOLD_LEFT : Nat := 0x138
/-- DPLL SWITCH_CNT. -/
abbrev dpllSWITCH_CNT : Nat := 0x13c
/-- DPLL PNT_CFG. -/
abbrev dpllPNT_CFG : Nat := 0x140
/-- PTP CTL. -/
abbrev ptpCTL : Nat := 0x100
/-- PTP STAT. -/
abbrev ptpSTAT : Nat := 0x104
/-- PTP TIME_NS. -/
abbrev ptpTIME_NS : Nat := 0x108
/-- PTP TIME_S_LO. -/
abbrev ptpTIME_S_LO : Nat := 0x10c
/-- PTP TIME_S_HI. -/
abbrev ptpTIME_S_HI : Nat := 0x110
/-- PTP RAW_LO. -/
abbrev ptpRAW_LO : Nat := 0x114
/-- PTP RAW_HI. -/
abbrev ptpRAW_HI : Nat := 0x118
/-- PTP RATE_LO. -/
abbrev ptpRATE_LO : Nat := 0x11c
/-- PTP RATE_HI. -/
abbrev ptpRATE_HI : Nat := 0x120
/-- PTP STEP_LO. -/
abbrev ptpSTEP_LO : Nat := 0x124
/-- PTP STEP_HI. -/
abbrev ptpSTEP_HI : Nat := 0x128
/-- PTP STEP_CTL. -/
abbrev ptpSTEP_CTL : Nat := 0x12c
/-- PTP STEP_CNT. -/
abbrev ptpSTEP_CNT : Nat := 0x130
/-- PTP SYNC_WD. -/
abbrev ptpSYNC_WD : Nat := 0x134
/-- PTP RTC_TOL. -/
abbrev ptpRTC_TOL : Nat := 0x138
/-- PTP UNC. -/
abbrev ptpUNC : Nat := 0x13c
/-- PTP SLEEP_LO. -/
abbrev ptpSLEEP_LO : Nat := 0x140
/-- PTP SLEEP_HI. -/
abbrev ptpSLEEP_HI : Nat := 0x144
/-- PTP MEDIA_OFS. -/
abbrev ptpMEDIA_OFS : Nat := 0x148
/-- PTP ANCHOR_LO. -/
abbrev ptpANCHOR_LO : Nat := 0x14c
/-- PTP ANCHOR_HI. -/
abbrev ptpANCHOR_HI : Nat := 0x150
/-- MAC CFG. -/
abbrev macCFG : Nat := 0x100
/-- MAC CTL. -/
abbrev macCTL : Nat := 0x104
/-- MAC MAX_FRAME. -/
abbrev macMAX_FRAME : Nat := 0x108
/-- MAC ADDR_LO. -/
abbrev macADDR_LO : Nat := 0x10c
/-- MAC ADDR_HI. -/
abbrev macADDR_HI : Nat := 0x110
/-- MAC IPV4. -/
abbrev macIPV4 : Nat := 0x114
/-- MAC PAUSE_WD. -/
abbrev macPAUSE_WD : Nat := 0x118
/-- MAC PAUSE_HOLDOFF. -/
abbrev macPAUSE_HOLDOFF : Nat := 0x11c
/-- MAC EEE_IDLE. -/
abbrev macEEE_IDLE : Nat := 0x120
/-- MAC EEE_TW. -/
abbrev macEEE_TW : Nat := 0x124
/-- MAC EEE_GUARD. -/
abbrev macEEE_GUARD : Nat := 0x128
/-- MAC STAT. -/
abbrev macSTAT : Nat := 0x12c
/-- MAC TS_LAT_RX. -/
abbrev macTS_LAT_RX : Nat := 0x130
/-- MAC TS_LAT_TX. -/
abbrev macTS_LAT_TX : Nat := 0x134
/-- MAC RXR. -/
abbrev macRXR : Nat := 0x140
/-- MAC TXQ0–TXQ6. -/
abbrev macTXQ : Nat := 0x180
/-- MAC Counters. -/
abbrev macCounters : Nat := 0x200
/-- STRM SEL. -/
abbrev strmSEL : Nat := 0x100
/-- STRM MC_CFG. -/
abbrev strmMC_CFG : Nat := 0x104
/-- STRM MC_OFS_LO. -/
abbrev strmMC_OFS_LO : Nat := 0x108
/-- STRM MC_OFS_HI. -/
abbrev strmMC_OFS_HI : Nat := 0x10c
/-- STRM TERM_CFG. -/
abbrev strmTERM_CFG : Nat := 0x110
/-- STRM HOLD_LEN. -/
abbrev strmHOLD_LEN : Nat := 0x114
/-- STRM JB_BASE. -/
abbrev strmJB_BASE : Nat := 0x118
/-- STRM JB_SIZE. -/
abbrev strmJB_SIZE : Nat := 0x11c
/-- STRM RX_EN_NX0–7. -/
abbrev strmRX_EN_NX : Nat := 0x140
/-- STRM RX_EN0–7. -/
abbrev strmRX_EN : Nat := 0x160
/-- STRM TX_EN_NX0–7. -/
abbrev strmTX_EN_NX : Nat := 0x180
/-- STRM TX_EN0–7. -/
abbrev strmTX_EN : Nat := 0x1a0
/-- STRM PGRP0–15_LINK. -/
abbrev strmPGRP : Nat := 0x1c0
/-- STRM DESC0–9. -/
abbrev strmDESC : Nat := 0x200
/-- STRM CNT0–9. -/
abbrev strmCNT : Nat := 0x240
/-- TSN Pp_CTL. -/
abbrev tsnP_CTL : Nat := 0x100
/-- TSN Pp_BASE_NS. -/
abbrev tsnP_BASE_NS : Nat := 0x104
/-- TSN Pp_BASE_S_LO. -/
abbrev tsnP_BASE_S_LO : Nat := 0x108
/-- TSN Pp_BASE_S_HI. -/
abbrev tsnP_BASE_S_HI : Nat := 0x10c
/-- TSN Pp_CYCLE. -/
abbrev tsnP_CYCLE : Nat := 0x110
/-- TSN Pp_LEN. -/
abbrev tsnP_LEN : Nat := 0x114
/-- TSN Pp_CHG_NS. -/
abbrev tsnP_CHG_NS : Nat := 0x118
/-- TSN Pp_CHG_S_LO. -/
abbrev tsnP_CHG_S_LO : Nat := 0x11c
/-- TSN Pp_CHG_S_HI. -/
abbrev tsnP_CHG_S_HI : Nat := 0x120
/-- TSN Pp_OPER. -/
abbrev tsnP_OPER : Nat := 0x124
/-- TSN Pp_CBS5. -/
abbrev tsnP_CBS5 : Nat := 0x128
/-- TSN Pp_CBS6. -/
abbrev tsnP_CBS6 : Nat := 0x12c
/-- TSN GCL_ADDR. -/
abbrev tsnGCL_ADDR : Nat := 0x300
/-- TSN GCL_DATA. -/
abbrev tsnGCL_DATA : Nat := 0x304
/-- CRX CTL_NX. -/
abbrev crxCTL_NX : Nat := 0x100
/-- CRX CTL. -/
abbrev crxCTL : Nat := 0x104
/-- CRX CFG. -/
abbrev crxCFG : Nat := 0x108
/-- CRX DLY_MAX. -/
abbrev crxDLY_MAX : Nat := 0x10c
/-- CRX ASYM. -/
abbrev crxASYM : Nat := 0x110
/-- CRX HOLD_LEN. -/
abbrev crxHOLD_LEN : Nat := 0x114
/-- CRX TUN_MAX. -/
abbrev crxTUN_MAX : Nat := 0x118
/-- CRX STAT. -/
abbrev crxSTAT : Nat := 0x11c
/-- CRX DLY. -/
abbrev crxDLY : Nat := 0x120
/-- CRX RA_TIMEOUT. -/
abbrev crxRA_TIMEOUT : Nat := 0x124
/-- CRX RA_ADDR_LO. -/
abbrev crxRA_ADDR_LO : Nat := 0x128
/-- CRX RA_ADDR_HI. -/
abbrev crxRA_ADDR_HI : Nat := 0x12c
/-- CRX RA_CTL. -/
abbrev crxRA_CTL : Nat := 0x130
/-- CRX RA_STAT. -/
abbrev crxRA_STAT : Nat := 0x134
/-- CRX WIN0, WIN1. -/
abbrev crxWIN : Nat := 0x140
/-- CRX MTX. -/
abbrev crxMTX : Nat := 0x150
/-- CRX MRX. -/
abbrev crxMRX : Nat := 0x160
/-- CRX RA_DATA0–63. -/
abbrev crxRA_DATA : Nat := 0x180
/-- CRX Counters. -/
abbrev crxCounters : Nat := 0x300
/-- STACK ROLE. -/
abbrev stackROLE : Nat := 0x100
/-- STACK ID. -/
abbrev stackID : Nat := 0x104
/-- STACK ADV. -/
abbrev stackADV : Nat := 0x108
/-- STACK STAT. -/
abbrev stackSTAT : Nat := 0x10c
/-- STACK CONFLICT_ID. -/
abbrev stackCONFLICT_ID : Nat := 0x110
/-- STACK CLR. -/
abbrev stackCLR : Nat := 0x114
/-- STACK TICK_ADOPT_CNT. -/
abbrev stackTICK_ADOPT_CNT : Nat := 0x118
/-- PAIR CTL_NX. -/
abbrev pairCTL_NX : Nat := 0x100
/-- PAIR CTL. -/
abbrev pairCTL : Nat := 0x104
/-- PAIR CFG. -/
abbrev pairCFG : Nat := 0x108
/-- PAIR STATE. -/
abbrev pairSTATE : Nat := 0x10c
/-- PAIR TERM. -/
abbrev pairTERM : Nat := 0x110
/-- PAIR PEER_TERM. -/
abbrev pairPEER_TERM : Nat := 0x114
/-- PAIR TALLY_K. -/
abbrev pairTALLY_K : Nat := 0x118
/-- PAIR SILENCE_TIME. -/
abbrev pairSILENCE_TIME : Nat := 0x11c
/-- PAIR CONV_TICKS. -/
abbrev pairCONV_TICKS : Nat := 0x120
/-- PAIR CONV_LIMIT. -/
abbrev pairCONV_LIMIT : Nat := 0x124
/-- PAIR ELECT_TIME. -/
abbrev pairELECT_TIME : Nat := 0x128
/-- PAIR STRIKE_CAUSE. -/
abbrev pairSTRIKE_CAUSE : Nat := 0x12c
/-- PAIR TALLY_LO. -/
abbrev pairTALLY_LO : Nat := 0x130
/-- PAIR TALLY_HI. -/
abbrev pairTALLY_HI : Nat := 0x134
/-- PAIR PEER_TALLY_LO. -/
abbrev pairPEER_TALLY_LO : Nat := 0x138
/-- PAIR PEER_TALLY_HI. -/
abbrev pairPEER_TALLY_HI : Nat := 0x13c
/-- PAIR MATCH_RUN. -/
abbrev pairMATCH_RUN : Nat := 0x140
/-- PAIR MISS_CNT. -/
abbrev pairMISS_CNT : Nat := 0x144
/-- PAIR MARK_CNT. -/
abbrev pairMARK_CNT : Nat := 0x148
/-- PAIR NOCMP_CNT. -/
abbrev pairNOCMP_CNT : Nat := 0x14c
/-- PAIR TAKEOVER_CNT. -/
abbrev pairTAKEOVER_CNT : Nat := 0x150
/-- PAIR STRIKE_CNT. -/
abbrev pairSTRIKE_CNT : Nat := 0x154
/-- PAIR HEALTH_LO. -/
abbrev pairHEALTH_LO : Nat := 0x158
/-- PAIR HEALTH_HI. -/
abbrev pairHEALTH_HI : Nat := 0x15c
/-- PAIR PEER_HEALTH_LO. -/
abbrev pairPEER_HEALTH_LO : Nat := 0x160
/-- PAIR PEER_HEALTH_HI. -/
abbrev pairPEER_HEALTH_HI : Nat := 0x164
/-- PAIR BIST_FAIL. -/
abbrev pairBIST_FAIL : Nat := 0x168
/-- PAIR BIST_SLICES. -/
abbrev pairBIST_SLICES : Nat := 0x16c
/-- ENG CTL_NX. -/
abbrev engCTL_NX : Nat := 0x100
/-- ENG CTL. -/
abbrev engCTL : Nat := 0x104
/-- ENG STATE. -/
abbrev engSTATE : Nat := 0x108
/-- ENG STAT. -/
abbrev engSTAT : Nat := 0x10c
/-- ENG PC_START. -/
abbrev engPC_START : Nat := 0x110
/-- ENG STEPS_PROOF. -/
abbrev engSTEPS_PROOF : Nat := 0x114
/-- ENG STEPS_LAST. -/
abbrev engSTEPS_LAST : Nat := 0x118
/-- ENG BUSY_LAST. -/
abbrev engBUSY_LAST : Nat := 0x11c
/-- ENG ECC_CE_CNT. -/
abbrev engECC_CE_CNT : Nat := 0x120
/-- ENG ECC_UE_CNT. -/
abbrev engECC_UE_CNT : Nat := 0x124
/-- ENG PAR_BASE. -/
abbrev engPAR_BASE : Nat := 0x128
/-- ENG PAR_LEN. -/
abbrev engPAR_LEN : Nat := 0x12c
/-- ENG PAR_SEL_LO. -/
abbrev engPAR_SEL_LO : Nat := 0x130
/-- ENG PAR_SEL_HI. -/
abbrev engPAR_SEL_HI : Nat := 0x134
/-- ENG MP_CNT. -/
abbrev engMP_CNT : Nat := 0x138
/-- ENG MP_WAIT_MAX. -/
abbrev engMP_WAIT_MAX : Nat := 0x13c
/-- ENG GBIND0–7. -/
abbrev engGBIND : Nat := 0x140
/-- ENG MB0–MB7. -/
abbrev engMB : Nat := 0x180
/-- ENG PAR_GRP0–63. -/
abbrev engPAR_GRP : Nat := 0x200
/-- ENG D0–D15. -/
abbrev engD : Nat := 0x400
/-- ENG ACC0–ACC7. -/
abbrev engACC : Nat := 0x440
/-- ENG P0–P7. -/
abbrev engP : Nat := 0x4c0
/-- ENG N0–N7. -/
abbrev engN : Nat := 0x4e0
/-- ENG W0–W7. -/
abbrev engW : Nat := 0x500
/-- ENG G0–G7. -/
abbrev engG : Nat := 0x520

end Sys2Proof.Machine.Off
end

