-- ==== Sys2Proof/Machine/RegTable.lean ====
section
/-! DEFINITION. The register pages: the page directory (R495 to R497) and the register tables of every page, written
from the register tables of the chapters. A row is (offset, count, stride, access, reset, retention class, writable
bits, limits of fields). Reserved bits are stored as 0 (DESIGN CHOICE, log entry 6). -/

namespace Sys2Proof.Machine

/-- The access codes of R3. -/
inductive Access
  | rw | ro | wo | w1c | w1s | rwh | nx
  deriving DecidableEq, Repr

/-- The retention classes of R6 and R455. -/
inductive RetClass
  | a | b | c | d
  deriving DecidableEq, Repr

/-- A field [lo + width - 1 : lo] that stores a value outside mn to mx as the nearer limit. -/
structure FieldLimit where
  lo : Nat
  width : Nat
  mn : Nat
  mx : Nat
  deriving DecidableEq, Repr

/-- One row of a register table. -/
structure RegRow where
  off : Nat
  count : Nat
  stride : Nat
  acc : Access
  reset : Nat
  ret : RetClass
  mask : Nat
  limits : List FieldLimit
  deriving DecidableEq, Repr

/-- The block types of the page directory, and no page (R496, R497). -/
inductive PageKind
  | sys | pwr | rst | avs | sens | fuse | boot | gpio | cpu | aoc | mtx | pcie | twb | drc | dphy | esc | sched
  | store | rtr | gain | tdmg | tdm | dec | mod | rail | thm | ref | dpll | ptp | mac | macm | strm | tsn | crx
  | stack | pair | eng | none
  deriving DecidableEq, Repr

/-- The page number of SYS (R496). -/
abbrev pgSys : Nat := 0
/-- The page number of PWR (R496). -/
abbrev pgPwr : Nat := 1
/-- The page number of RST (R496). -/
abbrev pgRst : Nat := 2
/-- The page number of AVS (R496). -/
abbrev pgAvs : Nat := 3
/-- The page number of SENS (R496). -/
abbrev pgSens : Nat := 4
/-- The page number of FUSE (R496). -/
abbrev pgFuse : Nat := 5
/-- The page number of BOOT (R496). -/
abbrev pgBoot : Nat := 6
/-- The page number of GPIO (R496). -/
abbrev pgGpio : Nat := 7
/-- The page number of CPU instance 0 (R496). -/
abbrev pgCpu : Nat := 8
/-- The page number of AOC (R496). -/
abbrev pgAoc : Nat := 0xa
/-- The page number of MTX (R496). -/
abbrev pgMtx : Nat := 0xb
/-- The page number of PCIE (R496). -/
abbrev pgPcie : Nat := 0xc
/-- The page number of TWB (R496). -/
abbrev pgTwb : Nat := 0xd
/-- The page number of DRC (R496). -/
abbrev pgDrc : Nat := 0xe
/-- The page number of DPHY (R496). -/
abbrev pgDphy : Nat := 0xf
/-- The page number of ESC (R496). -/
abbrev pgEsc : Nat := 0x10
/-- The page number of SCHED (R496). -/
abbrev pgSched : Nat := 0x11
/-- The page number of STORE (R496). -/
abbrev pgStore : Nat := 0x12
/-- The page number of RTR (R496). -/
abbrev pgRtr : Nat := 0x13
/-- The page number of GAIN (R496). -/
abbrev pgGain : Nat := 0x14
/-- The page number of TDMG (R496). -/
abbrev pgTdmg : Nat := 0x15
/-- The page number of TDM instance 0 (R496). -/
abbrev pgTdm : Nat := 0x20
/-- The page number of DEC instance 0 (R496). -/
abbrev pgDec : Nat := 0x30
/-- The page number of MOD instance 0 (R496). -/
abbrev pgMod : Nat := 0x36
/-- The page number of RAIL (R496). -/
abbrev pgRail : Nat := 0x3a
/-- The page number of THM instance 0 (R496). -/
abbrev pgThm : Nat := 0x3b
/-- The page number of REF (R496). -/
abbrev pgRef : Nat := 0x40
/-- The page number of DPLL (R496). -/
abbrev pgDpll : Nat := 0x41
/-- The page number of PTP (R496). -/
abbrev pgPtp : Nat := 0x42
/-- The page number of MAC instance 0 (R496). -/
abbrev pgMac : Nat := 0x44
/-- The page number of MACM (R496). -/
abbrev pgMacm : Nat := 0x48
/-- The page number of STRM (R496). -/
abbrev pgStrm : Nat := 0x49
/-- The page number of TSN (R496). -/
abbrev pgTsn : Nat := 0x4a
/-- The page number of CRX instance 0 (R496). -/
abbrev pgCrx : Nat := 0x50
/-- The page number of STACK (R496). -/
abbrev pgStack : Nat := 0x52
/-- The page number of PAIR (R496). -/
abbrev pgPair : Nat := 0x53
/-- The page number of ENG instance 0 (R496). -/
abbrev pgEng : Nat := 0x80

/-- The kind of page n (R496, R497). -/
def pageKind (n : Nat) : PageKind :=
  if n = 0 then .sys else
  if n = 1 then .pwr else
  if n = 2 then .rst else
  if n = 3 then .avs else
  if n = 4 then .sens else
  if n = 5 then .fuse else
  if n = 6 then .boot else
  if n = 7 then .gpio else
  if 8 ≤ n ∧ n < 10 then .cpu else
  if n = 10 then .aoc else
  if n = 11 then .mtx else
  if n = 12 then .pcie else
  if n = 13 then .twb else
  if n = 14 then .drc else
  if n = 15 then .dphy else
  if n = 16 then .esc else
  if n = 17 then .sched else
  if n = 18 then .store else
  if n = 19 then .rtr else
  if n = 20 then .gain else
  if n = 21 then .tdmg else
  if 32 ≤ n ∧ n < 48 then .tdm else
  if 48 ≤ n ∧ n < 54 then .dec else
  if 54 ≤ n ∧ n < 58 then .mod else
  if n = 58 then .rail else
  if 59 ≤ n ∧ n < 63 then .thm else
  if n = 64 then .ref else
  if n = 65 then .dpll else
  if n = 66 then .ptp else
  if 68 ≤ n ∧ n < 72 then .mac else
  if n = 72 then .macm else
  if n = 73 then .strm else
  if n = 74 then .tsn else
  if 80 ≤ n ∧ n < 82 then .crx else
  if n = 82 then .stack else
  if n = 83 then .pair else
  if 128 ≤ n ∧ n < 160 then .eng else
  .none

/-- The page number of instance 0 of a kind, the type code of R495. -/
def kindBase : PageKind → Nat
  | .sys => pgSys
  | .pwr => pgPwr
  | .rst => pgRst
  | .avs => pgAvs
  | .sens => pgSens
  | .fuse => pgFuse
  | .boot => pgBoot
  | .gpio => pgGpio
  | .cpu => pgCpu
  | .aoc => pgAoc
  | .mtx => pgMtx
  | .pcie => pgPcie
  | .twb => pgTwb
  | .drc => pgDrc
  | .dphy => pgDphy
  | .esc => pgEsc
  | .sched => pgSched
  | .store => pgStore
  | .rtr => pgRtr
  | .gain => pgGain
  | .tdmg => pgTdmg
  | .tdm => pgTdm
  | .dec => pgDec
  | .mod => pgMod
  | .rail => pgRail
  | .thm => pgThm
  | .ref => pgRef
  | .dpll => pgDpll
  | .ptp => pgPtp
  | .mac => pgMac
  | .macm => pgMacm
  | .strm => pgStrm
  | .tsn => pgTsn
  | .crx => pgCrx
  | .stack => pgStack
  | .pair => pgPair
  | .eng => pgEng
  | .none => 0

/-- The instance number of page n within its kind (R495). -/
def pageInst (n : Nat) : Nat := n - kindBase (pageKind n)

/-- The 99 pages that exist (R496). -/
def allPages : List Nat := (List.range 0xA0).filter (fun n => pageKind n ≠ .none)

/-- The register table of R396. -/
def regsHead : List RegRow :=
  [ ⟨0, 1, 4, .ro, 0, .a, 0xFFFFFFFF, []⟩ /- PAGE_ID -/
  , ⟨4, 1, 4, .ro, 0x100, .a, 0xFFFFFFFF, []⟩ /- PAGE_VER -/
  , ⟨8, 1, 4, .rwh, 1, .c, 5, []⟩ /- PAGE_CTL -/
  , ⟨0xC, 1, 4, .ro, 1, .d, 0xFFFFFFFF, []⟩ /- PAGE_STAT -/
  , ⟨0x10, 1, 4, .w1c, 0, .d, 0xFFFFFFFF, []⟩ /- INT_RAW -/
  , ⟨0x14, 1, 4, .rw, 0, .c, 0xFFFFFFFF, []⟩ /- INT_EN -/
  , ⟨0x18, 1, 4, .ro, 0, .d, 0xFFFFFFFF, []⟩ /- INT_STAT -/
  , ⟨0x20, 1, 4, .rwh, 0, .d, 3, []⟩ /- ERR_CLASS -/
  , ⟨0x24, 1, 4, .ro, 0, .d, 0xFFFFFFFF, []⟩ /- ERR_ADDR_LO -/
  , ⟨0x28, 1, 4, .ro, 0, .d, 0xFFFFFFFF, []⟩ /- ERR_ADDR_HI -/
  , ⟨0x2C, 1, 4, .ro, 0, .d, 0xFFFFFFFF, []⟩ /- ERR_MASTER -/
  , ⟨0x30, 1, 4, .ro, 0, .d, 0xFFFFFFFF, []⟩ /- ERR_TYPE -/
  , ⟨0x34, 1, 4, .ro, 0, .d, 0xFFFFFFFF, []⟩ /- ERR_TIME_LO -/
  , ⟨0x38, 1, 4, .ro, 0, .d, 0xFFFFFFFF, []⟩ /- ERR_TIME_HI -/
  , ⟨0x3C, 1, 4, .ro, 0, .d, 0xFFFFFFFF, []⟩ /- ERR_MERGED -/ ]

/-- The register table of R418. -/
def regsSys : List RegRow :=
  [ ⟨0x100, 1, 4, .ro, 0x19640, .a, 0xFFFFFFFF, []⟩ /- ID -/
  , ⟨0x104, 1, 4, .ro, 2, .c, 0xFFFFFFFF, []⟩ /- STRAPS -/
  , ⟨0x108, 1, 4, .wo, 0, .d, 0xFFFFFFFF, []⟩ /- SOFT_RST -/
  , ⟨0x10C, 1, 4, .rw, 0x803E800, .c, 0xFFFFF01, [⟨8, 16, 1, 65535⟩]⟩ /- WDOG_CTL -/
  , ⟨0x110, 1, 4, .wo, 0, .d, 0xFFFFFFFF, []⟩ /- WDOG_KICK -/
  , ⟨0x114, 1, 4, .ro, 0, .d, 0xFFFFFFFF, []⟩ /- WDOG_LEFT -/
  , ⟨0x120, 5, 4, .rw, 0, .c, 0xFFFFFFFF, []⟩ /- IRQ0_MASK0–4 -/
  , ⟨0x140, 5, 4, .rw, 0, .c, 0xFFFFFFFF, []⟩ /- IRQ1_MASK0–4 -/
  , ⟨0x160, 1, 4, .ro, 0, .a, 0xFFFFFFFF, []⟩ /- DBG_STAT -/
  , ⟨0x164, 1, 4, .wo, 0, .d, 0xFFFFFFFF, []⟩ /- DBG_CTL -/
  , ⟨0x200, 12, 4, .ro, 0, .d, 0xFFFFFFFF, []⟩ /- DBG_CHAL0–11 -/
  , ⟨0x300, 49, 4, .rw, 0, .d, 0xFFFFFFFF, []⟩ /- DBG_RESP0–48 -/ ]

/-- The register table of R457. -/
def regsPwr : List RegRow :=
  [ ⟨0x100, 1, 4, .rw, 0, .d, 7, []⟩ /- MODE_REQ -/
  , ⟨0x104, 1, 4, .ro, 0xF0, .d, 0xFFFFFFFF, []⟩ /- MODE -/
  , ⟨0x108, 1, 4, .ro, 0, .d, 0xFFFFFFFF, []⟩ /- STAT -/
  , ⟨0x10C, 1, 4, .ro, 0, .d, 0xFFFFFFFF, []⟩ /- REFUSE -/
  , ⟨0x110, 1, 4, .ro, 0, .d, 0xFFFFFFFF, []⟩ /- REFUSE_CNT -/
  , ⟨0x114, 1, 4, .ro, 0, .d, 0xFFFFFFFF, []⟩ /- ABORT_CNT -/
  , ⟨0x118, 1, 4, .ro, 0x1F, .d, 0xFFFFFFFF, []⟩ /- DOMAINS -/
  , ⟨0x11C, 1, 4, .rw, 0xF, .c, 0xF, []⟩ /- FAB_EN -/
  , ⟨0x120, 1, 4, .rw, 0x64, .c, 0xFFFF, []⟩ /- NET_GUARD -/
  , ⟨0x124, 1, 4, .rw, 0xF, .b, 0xF, []⟩ /- WAKE_EN -/
  , ⟨0x128, 1, 4, .w1c, 0, .b, 0xFFFFFFFF, []⟩ /- WAKE_CAUSE -/
  , ⟨0x12C, 1, 4, .w1s, 0, .d, 0xFFFFFFFF, []⟩ /- WAKE_SW -/
  , ⟨0x130, 1, 4, .ro, 0, .a, 0xFFFFFFFF, []⟩ /- LEDGER_LO -/
  , ⟨0x134, 1, 4, .ro, 0, .a, 0xFFFFFFFF, []⟩ /- LEDGER_HI -/
  , ⟨0x138, 1, 4, .rw, 0, .b, 0xFFFFFFFF, []⟩ /- ALARM_LO -/
  , ⟨0x13C, 1, 4, .rw, 0, .b, 0x8000FFFF, []⟩ /- ALARM_HI -/
  , ⟨0x140, 1, 4, .rw, 0x32, .b, 0xFFFF, [⟨0, 16, 1, 65535⟩]⟩ /- WAKE_TO -/
  , ⟨0x144, 1, 4, .ro, 0, .d, 0xFFFFFFFF, []⟩ /- RESUME_LAST -/
  , ⟨0x148, 1, 4, .ro, 0, .d, 0xFFFFFFFF, []⟩ /- RTC_STAT -/ ]

/-- The register table of R459. -/
def regsRst : List RegRow :=
  [ ⟨0x100, 1, 4, .w1c, 1, .a, 0xFFFFFFFF, []⟩ /- CAUSE -/
  , ⟨0x104, 1, 4, .ro, 1, .a, 0xFFFFFFFF, []⟩ /- LAST -/
  , ⟨0x108, 1, 4, .ro, 0, .a, 0xFFFFFFFF, []⟩ /- BOR_CNT -/
  , ⟨0x10C, 1, 4, .ro, 0, .a, 0xFFFFFFFF, []⟩ /- PIN_CNT -/
  , ⟨0x110, 1, 4, .ro, 0, .a, 0xFFFFFFFF, []⟩ /- WDOG_CNT -/
  , ⟨0x114, 1, 4, .ro, 0, .a, 0xFFFFFFFF, []⟩ /- SOFT_CNT -/
  , ⟨0x118, 1, 4, .ro, 0, .a, 0xFFFFFFFF, []⟩ /- WAKE_CNT -/
  , ⟨0x11C, 1, 4, .ro, 0, .d, 0xFFFFFFFF, []⟩ /- BLOCK_LAST -/ ]

/-- The register table of R49. -/
def regsAvs : List RegRow :=
  [ ⟨0x100, 1, 4, .rw, 0, .c, 3, []⟩ /- CTL -/
  , ⟨0x104, 1, 4, .ro, 0, .d, 0xFFFFFFFF, []⟩ /- STAT -/
  , ⟨0x108, 1, 4, .rwh, 0x2EE, .c, 0xFFFF, []⟩ /- V_CMD -/
  , ⟨0x10C, 1, 4, .rw, 0x2D0, .c, 0xFFFF, [⟨0, 16, 600, 800⟩]⟩ /- V_MIN -/
  , ⟨0x110, 1, 4, .rw, 0x320, .c, 0xFFFF, [⟨0, 16, 600, 800⟩]⟩ /- V_MAX -/
  , ⟨0x114, 1, 4, .rw, 0x2EE, .c, 0xFFFF, []⟩ /- V_START -/
  , ⟨0x118, 1, 4, .rw, 0x80, .c, 0x3FF, []⟩ /- SLACK_TGT -/
  , ⟨0x11C, 1, 4, .rw, 0x20, .c, 0x3FF, []⟩ /- SLACK_HYST -/
  , ⟨0x120, 1, 4, .rw, 0x60, .c, 0xFFFF, [⟨0, 16, 1, 65535⟩]⟩ /- PERIOD -/
  , ⟨0x124, 1, 4, .rw, 0x140A05, .c, 0xFFFFFF, []⟩ /- STEP -/
  , ⟨0x128, 1, 4, .rw, 0x5DC0, .c, 0xFFFFFF, []⟩ /- HOLDOFF -/
  , ⟨0x12C, 1, 4, .rw, 0xC8, .c, 0xFFFF, []⟩ /- SETTLE -/
  , ⟨0x130, 1, 4, .ro, 0, .d, 0xFFFFFFFF, []⟩ /- V_READ -/
  , ⟨0x134, 1, 4, .rw, 0x313, .c, 0x33F, [⟨0, 6, 9, 49⟩]⟩ /- BUS_CFG -/
  , ⟨0x138, 1, 4, .ro, 0, .d, 0xFFFFFFFF, []⟩ /- FAIL_CNT -/ ]

/-- The register table of R474. -/
def regsSens : List RegRow :=
  [ ⟨0x100, 1, 4, .rw, 1, .c, 1, []⟩ /- CTL -/
  , ⟨0x104, 1, 4, .ro, 0, .d, 0xFFFFFFFF, []⟩ /- STAT -/
  , ⟨0x108, 1, 4, .ro, 0, .d, 0xFFFFFFFF, []⟩ /- HOTTEST -/
  , ⟨0x10C, 1, 4, .rw, 0x640, .c, 0xFFFF, []⟩ /- TEMP_WARN -/
  , ⟨0x110, 1, 4, .rw, 0x7D0, .c, 0xFFFF, []⟩ /- TEMP_CRIT -/
  , ⟨0x114, 1, 4, .rw, 0x8C0, .c, 0xFFFF, []⟩ /- TEMP_SHUT -/
  , ⟨0x118, 1, 4, .rwh, 0, .d, 0xFFFFFFFF, []⟩ /- TEMP_MAX -/
  , ⟨0x120, 8, 4, .ro, 0, .d, 0xFFFFFFFF, []⟩ /- TEMP0–7 -/
  , ⟨0x140, 8, 4, .ro, 0, .d, 0xFFFFFFFF, []⟩ /- SUP0–7 -/
  , ⟨0x160, 1, 4, .rw, 0x33E023A, .c, 0xFFFFFFFF, []⟩ /- SUP0_WIN -/
  , ⟨0x164, 1, 4, .rw, 0x37D0328, .c, 0xFFFFFFFF, []⟩ /- SUP1_WIN -/
  , ⟨0x168, 1, 4, .rw, 0x37D0328, .c, 0xFFFFFFFF, []⟩ /- SUP2_WIN -/
  , ⟨0x16C, 1, 4, .rw, 0x4EC0474, .c, 0xFFFFFFFF, []⟩ /- SUP3_WIN -/
  , ⟨0x170, 1, 4, .rw, 0x44F03E6, .c, 0xFFFFFFFF, []⟩ /- SUP4_WIN -/
  , ⟨0x174, 1, 4, .rw, 0x20D01DB, .c, 0xFFFFFFFF, []⟩ /- SUP5_WIN -/
  , ⟨0x178, 1, 4, .rw, 0x76206AE, .c, 0xFFFFFFFF, []⟩ /- SUP6_WIN -/
  , ⟨0x17C, 1, 4, .rw, 0xE2E0654, .c, 0xFFFFFFFF, []⟩ /- SUP7_WIN -/ ]

/-- The register table of R423. -/
def regsFuse : List RegRow :=
  [ ⟨0x100, 64, 4, .ro, 0, .a, 0xFFFFFFFF, []⟩ /- WORD0–63 -/
  , ⟨0x200, 1, 4, .wo, 0, .d, 0xFFFFFFFF, []⟩ /- PROG_KEY -/
  , ⟨0x204, 1, 4, .rw, 0, .d, 0x3F, []⟩ /- PROG_ADDR -/
  , ⟨0x208, 1, 4, .rw, 0, .d, 0xFFFFFFFF, []⟩ /- PROG_DATA -/
  , ⟨0x20C, 1, 4, .wo, 0, .d, 0xFFFFFFFF, []⟩ /- PROG_CTL -/
  , ⟨0x210, 1, 4, .ro, 0, .d, 0xFFFFFFFF, []⟩ /- PROG_STAT -/ ]

/-- The register table of R419. -/
def regsBoot : List RegRow :=
  [ ⟨0x100, 1, 4, .rw, 0x90, .c, 0x1FF3, [⟨4, 4, 1, 15⟩]⟩ /- CFG -/
  , ⟨0x104, 1, 4, .rw, 0, .d, 0xFF7FF, []⟩ /- CMD -/
  , ⟨0x108, 1, 4, .rw, 0, .d, 0xFFFFFFFF, []⟩ /- ADDR -/
  , ⟨0x10C, 1, 4, .rwh, 0, .d, 0xFFFFFFFF, []⟩ /- FIFO -/
  , ⟨0x110, 1, 4, .ro, 0, .d, 0xFFFFFFFF, []⟩ /- STAT -/
  , ⟨0x114, 1, 4, .ro, 0, .c, 0xFFFFFFFF, []⟩ /- RESULT -/
  , ⟨0x118, 1, 4, .ro, 0, .c, 0xFFFFFFFF, []⟩ /- SEQ -/
  , ⟨0x11C, 1, 4, .rw, 0, .d, 0xFFFFFFFF, []⟩ /- HOST_LEN -/
  , ⟨0x120, 1, 4, .wo, 0, .d, 0xFFFFFFFF, []⟩ /- HOST_GO -/
  , ⟨0x140, 12, 4, .ro, 0, .d, 0xFFFFFFFF, []⟩ /- HASH0–11 -/ ]

/-- The register table of R424. -/
def regsGpio : List RegRow :=
  [ ⟨0x100, 1, 4, .rw, 0, .c, 0xFFFF, []⟩ /- DIR -/
  , ⟨0x104, 1, 4, .rw, 0, .c, 0xFFFF, []⟩ /- OUT -/
  , ⟨0x108, 1, 4, .ro, 0, .d, 0xFFFFFFFF, []⟩ /- IN -/
  , ⟨0x10C, 1, 4, .rw, 0, .c, 0xFFFF, []⟩ /- PULL -/
  , ⟨0x110, 1, 4, .rw, 0, .c, 0xFFFF, []⟩ /- RISE -/
  , ⟨0x114, 1, 4, .rw, 0, .c, 0xFFFF, []⟩ /- FALL -/ ]

/-- The register table of R420. -/
def regsCpu : List RegRow :=
  [ ⟨0x100, 1, 4, .rw, 0, .c, 3, []⟩ /- CTL -/
  , ⟨0x104, 1, 4, .rw, 0x8000000, .c, 0xFFFFFFFF, []⟩ /- RESET_VEC -/
  , ⟨0x108, 1, 4, .ro, 0, .d, 0xFFFFFFFF, []⟩ /- STAT -/
  , ⟨0x110, 5, 4, .rw, 0, .c, 0xFFFFFFFF, []⟩ /- IE0–4 -/
  , ⟨0x124, 1, 4, .ro, 0, .d, 0xFFFFFFFF, []⟩ /- CLAIM -/
  , ⟨0x128, 1, 4, .ro, 0, .d, 0xFFFFFFFF, []⟩ /- ECC_CE_CNT -/
  , ⟨0x12C, 1, 4, .ro, 0, .d, 0xFFFFFFFF, []⟩ /- ECC_UE_CNT -/ ]

/-- The register table of R421. -/
def regsAoc : List RegRow :=
  [ ⟨0x100, 8, 4, .rw, 0, .d, 0xFFFFFFFF, []⟩ /- MBOX_H2A0–7 -/
  , ⟨0x120, 8, 4, .rw, 0, .d, 0xFFFFFFFF, []⟩ /- MBOX_A2H0–7 -/
  , ⟨0x140, 1, 4, .w1s, 0, .d, 0xFFFFFFFF, []⟩ /- DOORBELL -/
  , ⟨0x144, 1, 4, .ro, 1, .d, 0xFFFFFFFF, []⟩ /- STAT -/
  , ⟨0x148, 1, 4, .ro, 0, .d, 0xFFFFFFFF, []⟩ /- ECC_CE_CNT -/
  , ⟨0x14C, 1, 4, .ro, 0, .d, 0xFFFFFFFF, []⟩ /- ECC_UE_CNT -/ ]

/-- The register table of R390. -/
def regsMtx : List RegRow :=
  [ ⟨0x100, 1, 4, .rw, 0x224A66, .c, 0xFFFFFF, []⟩ /- QOS -/
  , ⟨0x104, 1, 4, .ro, 0, .d, 0xFFFFFFFF, []⟩ /- STAT -/
  , ⟨0x108, 1, 4, .ro, 0, .d, 0xFFFFFFFF, []⟩ /- DEF_CNT -/
  , ⟨0x10C, 1, 4, .ro, 0, .d, 0xFFFFFFFF, []⟩ /- LOCK_REF_CNT -/
  , ⟨0x110, 1, 4, .ro, 0, .d, 0xFFFFFFFF, []⟩ /- LOCK_TO_CNT -/
  , ⟨0x114, 1, 4, .ro, 0, .d, 0xFFFFFFFF, []⟩ /- HOLD_CNT -/
  , ⟨0x118, 1, 4, .rwh, 0, .d, 0xFFFFFFFF, []⟩ /- HOLD_MAX -/ ]

/-- The register table of R422. -/
def regsPcie : List RegRow :=
  [ ⟨0x100, 1, 4, .rw, 0, .c, 1, []⟩ /- CTL -/
  , ⟨0x104, 1, 4, .rw, 0, .c, 0xFFFFFFFF, []⟩ /- IDS -/
  , ⟨0x108, 1, 4, .rw, 0, .c, 0xFFFFFFFF, []⟩ /- SUBSYS -/
  , ⟨0x10C, 1, 4, .ro, 0, .d, 0xFFFFFFFF, []⟩ /- STAT -/
  , ⟨0x110, 1, 4, .rw, 0, .c, 0x1F, []⟩ /- AP_BASE -/
  , ⟨0x114, 1, 4, .ro, 0, .d, 0xFFFFFFFF, []⟩ /- WR_ERR_CNT -/
  , ⟨0x118, 1, 4, .ro, 0, .d, 0xFFFFFFFF, []⟩ /- RD_ERR_CNT -/
  , ⟨0x11C, 1, 4, .ro, 0, .d, 0xFFFFFFFF, []⟩ /- FLR_CNT -/
  , ⟨0x700, 4, 4, .ro, 0, .c, 0xFFFFFFFF, []⟩ /- PBA -/
  , ⟨0x800, 512, 4, .rw, 0, .c, 0xFFFFFFFF, []⟩ /- MSIX -/ ]

/-- The register table of R439. -/
def regsTwb : List RegRow :=
  [ ⟨0x100, 1, 4, .rw, 0x34, .c, 0x77, []⟩ /- CTL -/
  , ⟨0x104, 1, 4, .rw, 0x48, .b, 0x7F, []⟩ /- ADDR -/
  , ⟨0x108, 1, 4, .rw, 1, .b, 1, []⟩ /- WAKE_CFG -/
  , ⟨0x10C, 1, 4, .rw, 0x1D22, .c, 0xFFFF, [⟨0, 8, 10, 255⟩, ⟨8, 8, 10, 255⟩]⟩ /- TIMING -/
  , ⟨0x110, 1, 4, .rw, 0x19, .c, 0xFFFF, []⟩ /- SCL_TO -/
  , ⟨0x114, 1, 4, .rw, 0, .d, 0x3FFFF, []⟩ /- CMD -/
  , ⟨0x118, 1, 4, .rwh, 0, .d, 0xFF, []⟩ /- FIFO -/
  , ⟨0x11C, 1, 4, .ro, 0, .d, 0xFFFFFFFF, []⟩ /- STAT -/
  , ⟨0x120, 1, 4, .ro, 0, .d, 0xFFFFFFFF, []⟩ /- ARB_LOST -/
  , ⟨0x124, 1, 4, .ro, 0, .d, 0xFFFFFFFF, []⟩ /- TGT_PTR -/
  , ⟨0x128, 1, 4, .ro, 0, .d, 0xFFFFFFFF, []⟩ /- NAK_BUSY_CNT -/
  , ⟨0x12C, 1, 4, .ro, 0, .d, 0xFFFFFFFF, []⟩ /- RD_LATE_CNT -/
  , ⟨0x130, 1, 4, .ro, 0, .d, 0xFFFFFFFF, []⟩ /- TGT_BUS_ERR_CNT -/
  , ⟨0x134, 1, 4, .ro, 0, .d, 0xFFFFFFFF, []⟩ /- BUS_ERR_CNT -/
  , ⟨0x138, 1, 4, .ro, 0, .d, 0xFFFFFFFF, []⟩ /- ARB_LOST_CNT -/
  , ⟨0x13C, 1, 4, .ro, 0, .d, 0xFFFFFFFF, []⟩ /- REC_CNT -/
  , ⟨0x140, 1, 4, .ro, 0, .b, 0xFFFFFFFF, []⟩ /- WAKE_CNT -/ ]

/-- The register table of R376, piece 0. -/
def regsDrc0 : List RegRow :=
  [ ⟨0x100, 1, 4, .rw, 0, .c, 0x1E, []⟩ /- CTL -/
  , ⟨0x104, 1, 4, .ro, 0, .d, 0xFFFFFFFF, []⟩ /- STAT -/
  , ⟨0x108, 1, 4, .rw, 0xE, .c, 0x7F, []⟩ /- CFG -/
  , ⟨0x10C, 1, 4, .ro, 0, .c, 0xFFFFFFFF, []⟩ /- CAP -/
  , ⟨0x110, 1, 4, .rw, 0xC8, .c, 0xFFFF, []⟩ /- PAGE_IDLE -/
  , ⟨0x114, 1, 4, .rw, 0x3E8, .c, 0xFFFFFF, []⟩ /- SR_IDLE -/
  , ⟨0x118, 1, 4, .rw, 0x10, .c, 0xFFFF, [⟨0, 16, 1, 65535⟩]⟩ /- TEMP_POLL -/
  , ⟨0x11C, 1, 4, .rw, 0x64, .c, 0xFFFF, []⟩ /- SLEEP_DRAIN -/
  , ⟨0x120, 1, 4, .rw, 0, .d, 1, []⟩ /- FC_CTL -/
  , ⟨0x124, 1, 4, .ro, 0, .d, 0xFFFFFFFF, []⟩ /- FC_STAT -/
  , ⟨0x128, 1, 4, .ro, 0, .d, 0xFFFFFFFF, []⟩ /- FC_CNT -/
  , ⟨0x140, 2, 0x40, .rw, 0, .c, 0x80000007, []⟩ /- TSET RATE, VALID -/
  , ⟨0x144, 11, 4, .rw, 0, .c, 0xFFFF, []⟩ /- TSETA timings -/
  , ⟨0x184, 11, 4, .rw, 0, .c, 0xFFFF, []⟩ /- TSETB timings -/
  , ⟨0x170, 2, 0x40, .rw, 0, .c, 0xFFFFFFFF, []⟩ /- TSET tRFC -/
  , ⟨0x174, 2, 0x40, .rw, 0, .c, 0xFFFFFF, []⟩ /- TSET tREFI -/
  , ⟨0x178, 2, 4, .rw, 0, .c, 0xFFFFFFFF, []⟩ /- TSETA MR values -/
  , ⟨0x1B8, 2, 4, .rw, 0, .c, 0xFFFFFFFF, []⟩ /- TSETB MR values -/
  , ⟨0x1C0, 8, 4, .rw, 0x3E8, .c, 0xFFFF, [⟨0, 16, 1, 65535⟩]⟩ /- LAT_TGT0–7 -/
  , ⟨0x1E0, 8, 4, .rwh, 0, .d, 0xFFFFFFFF, []⟩ /- MAX_WAIT0–7 -/
  , ⟨0x200, 1, 4, .rw, 0, .d, 0xFFFF1F, []⟩ /- PROBE_CTL -/
  , ⟨0x204, 1, 4, .rw, 0, .d, 0xFFFFFFE0, []⟩ /- PROBE_ADDR -/
  , ⟨0x208, 1, 4, .ro, 0, .d, 0xFFFFFFFF, []⟩ /- PROBE_RES -/
  , ⟨0x20C, 1, 4, .ro, 0, .d, 0xFFFFFFFF, []⟩ /- PROBE_ERRS -/
  , ⟨0x240, 16, 4, .rw, 0, .d, 0xFFFFFFFF, []⟩ /- PROBE_PAT0–15 -/
  , ⟨0x280, 1, 4, .rw, 0, .d, 0x7FFFF, []⟩ /- MR_CMD -/ ]

/-- The register table of R376, piece 1. -/
def regsDrc1 : List RegRow :=
  [ ⟨0x284, 1, 4, .ro, 0, .d, 0xFFFFFFFF, []⟩ /- MR_DATA -/
  , ⟨0x2C0, 1, 4, .rw, 0, .d, 0xFFF00000, []⟩ /- FILL_LO -/
  , ⟨0x2C4, 1, 4, .rw, 0, .d, 1, []⟩ /- FILL_HI -/
  , ⟨0x2C8, 1, 4, .rw, 0, .d, 0x3FFF, []⟩ /- FILL_LEN -/
  , ⟨0x2CC, 1, 4, .rw, 0, .d, 0, []⟩ /- FILL_CTL -/
  , ⟨0x300, 1, 4, .ro, 0, .d, 0xFFFFFFFF, []⟩ /- ECC_CE_CNT -/
  , ⟨0x304, 1, 4, .ro, 0, .d, 0xFFFFFFFF, []⟩ /- ECC_UE_CNT -/
  , ⟨0x308, 1, 4, .ro, 0, .d, 0xFFFFFFFF, []⟩ /- URG3_CNT -/ ]

/-- The whole register table of the page. -/
def regsDrc : List RegRow := regsDrc0 ++ regsDrc1

/-- The register table of R378, piece 0. -/
def regsDphy0 : List RegRow :=
  [ ⟨0x100, 1, 4, .rw, 0x101, .c, 0xFF01, []⟩ /- CTL -/
  , ⟨0x104, 1, 4, .ro, 0, .d, 0xFFFFFFFF, []⟩ /- STAT -/
  , ⟨0x108, 1, 4, .rw, 0x33, .c, 0xFF, []⟩ /- IO_CFG -/
  , ⟨0x400, 18, 4, .rw, 0, .c, 0x73F, []⟩ /- S0C0_RD_DQ0–17 -/
  , ⟨0x480, 18, 4, .rw, 0, .c, 0x73F, []⟩ /- S0C0_WR_DQ0–17 -/
  , ⟨0x500, 7, 4, .rw, 0, .c, 0x73F, []⟩ /- S0C0_CA0–6 -/
  , ⟨0x520, 2, 4, .rw, 0, .c, 0x73F, []⟩ /- S0C0_CS0–1 -/
  , ⟨0x540, 4, 4, .rw, 0, .c, 0x73F, []⟩ /- S0C0_GATE -/
  , ⟨0x560, 2, 4, .rw, 0, .c, 0x73F, []⟩ /- S0C0_WCK0–1 -/
  , ⟨0x580, 1, 4, .rw, 0x40, .c, 0x7F, []⟩ /- S0C0_RD_VREF -/
  , ⟨0x600, 18, 4, .rw, 0, .c, 0x73F, []⟩ /- S0C1_RD_DQ0–17 -/
  , ⟨0x680, 18, 4, .rw, 0, .c, 0x73F, []⟩ /- S0C1_WR_DQ0–17 -/
  , ⟨0x700, 7, 4, .rw, 0, .c, 0x73F, []⟩ /- S0C1_CA0–6 -/
  , ⟨0x720, 2, 4, .rw, 0, .c, 0x73F, []⟩ /- S0C1_CS0–1 -/
  , ⟨0x740, 4, 4, .rw, 0, .c, 0x73F, []⟩ /- S0C1_GATE -/
  , ⟨0x760, 2, 4, .rw, 0, .c, 0x73F, []⟩ /- S0C1_WCK0–1 -/
  , ⟨0x780, 1, 4, .rw, 0x40, .c, 0x7F, []⟩ /- S0C1_RD_VREF -/
  , ⟨0x800, 18, 4, .rw, 0, .c, 0x73F, []⟩ /- S1C0_RD_DQ0–17 -/
  , ⟨0x880, 18, 4, .rw, 0, .c, 0x73F, []⟩ /- S1C0_WR_DQ0–17 -/
  , ⟨0x900, 7, 4, .rw, 0, .c, 0x73F, []⟩ /- S1C0_CA0–6 -/ ]

/-- The register table of R378, piece 1. -/
def regsDphy1 : List RegRow :=
  [ ⟨0x920, 2, 4, .rw, 0, .c, 0x73F, []⟩ /- S1C0_CS0–1 -/
  , ⟨0x940, 4, 4, .rw, 0, .c, 0x73F, []⟩ /- S1C0_GATE -/
  , ⟨0x960, 2, 4, .rw, 0, .c, 0x73F, []⟩ /- S1C0_WCK0–1 -/
  , ⟨0x980, 1, 4, .rw, 0x40, .c, 0x7F, []⟩ /- S1C0_RD_VREF -/
  , ⟨0xA00, 18, 4, .rw, 0, .c, 0x73F, []⟩ /- S1C1_RD_DQ0–17 -/
  , ⟨0xA80, 18, 4, .rw, 0, .c, 0x73F, []⟩ /- S1C1_WR_DQ0–17 -/
  , ⟨0xB00, 7, 4, .rw, 0, .c, 0x73F, []⟩ /- S1C1_CA0–6 -/
  , ⟨0xB20, 2, 4, .rw, 0, .c, 0x73F, []⟩ /- S1C1_CS0–1 -/
  , ⟨0xB40, 4, 4, .rw, 0, .c, 0x73F, []⟩ /- S1C1_GATE -/
  , ⟨0xB60, 2, 4, .rw, 0, .c, 0x73F, []⟩ /- S1C1_WCK0–1 -/
  , ⟨0xB80, 1, 4, .rw, 0x40, .c, 0x7F, []⟩ /- S1C1_RD_VREF -/ ]

/-- The whole register table of the page. -/
def regsDphy : List RegRow := regsDphy0 ++ regsDphy1

/-- The register table of R47. -/
def regsEsc : List RegRow :=
  [ ⟨0x100, 1, 4, .rw, 0, .c, 0, []⟩ /- CTL -/
  , ⟨0x104, 1, 4, .ro, 0, .d, 0xFFFFFFFF, []⟩ /- STAT -/
  , ⟨0x108, 1, 4, .ro, 0, .c, 0xFFFFFFFF, []⟩ /- TICK_LO -/
  , ⟨0x10C, 1, 4, .ro, 0, .c, 0xFFFFFFFF, []⟩ /- TICK_HI -/
  , ⟨0x110, 1, 4, .ro, 0, .d, 0xFFFFFFFF, []⟩ /- TICK_PERIOD -/
  , ⟨0x114, 1, 4, .ro, 0, .c, 0xFFFFFFFF, []⟩ /- MARGIN -/
  , ⟨0x118, 1, 4, .ro, 0, .d, 0xFFFFFFFF, []⟩ /- SLACK_LAST -/
  , ⟨0x11C, 1, 4, .ro, 0xFFFFFFFF, .d, 0xFFFFFFFF, []⟩ /- SLACK_MIN -/
  , ⟨0x120, 1, 4, .ro, 0, .d, 0xFFFFFFFF, []⟩ /- SLACK_MAX -/
  , ⟨0x124, 1, 4, .rw, 5, .c, 7, []⟩ /- HIST_CFG -/
  , ⟨0x128, 1, 4, .rw, 0x40, .c, 0x3FF, []⟩ /- SLACK_WARN -/
  , ⟨0x12C, 1, 4, .ro, 0, .d, 0xFFFFFFFF, []⟩ /- OVR_CNT -/
  , ⟨0x130, 1, 4, .ro, 0, .d, 0xFFFFFFFF, []⟩ /- FAB_OVR_CNT -/
  , ⟨0x134, 1, 4, .ro, 0, .d, 0xFFFFFFFF, []⟩ /- OVR_LAST -/
  , ⟨0x138, 1, 4, .ro, 0, .d, 0xFFFFFFFF, []⟩ /- DETACHED -/
  , ⟨0x13C, 1, 4, .ro, 0, .d, 0xFFFFFFFF, []⟩ /- RATE_LAST -/
  , ⟨0x140, 8, 4, .ro, 0, .c, 0xFFFFFFFF, []⟩ /- BEAT_DL0–7 -/
  , ⟨0x180, 16, 4, .ro, 0, .d, 0xFFFFFFFF, []⟩ /- HIST0–15 -/
  , ⟨0x1C0, 8, 4, .ro, 0, .d, 0xFFFFFFFF, []⟩ /- OVR_ENG0–7 -/ ]

/-- The register table of R146, piece 0. -/
def regsSched0 : List RegRow :=
  [ ⟨0x100, 1, 4, .rw, 0, .c, 0, []⟩ /- CTL -/
  , ⟨0x104, 1, 4, .ro, 0, .d, 0xFFFFFFFF, []⟩ /- STAT -/
  , ⟨0x108, 1, 4, .rw, 0x13, .c, 0x3F, []⟩ /- RATE -/
  , ⟨0x10C, 1, 4, .rw, 0, .c, 0xFFFFFFF8, []⟩ /- SRC_LO -/
  , ⟨0x110, 1, 4, .rw, 0, .c, 0xFF, []⟩ /- SRC_HI -/
  , ⟨0x114, 1, 4, .rw, 0, .c, 0xFFFFFFFF, []⟩ /- SRC_LEN -/
  , ⟨0x118, 1, 4, .wo, 0, .d, 0xFFFFFFFF, []⟩ /- LOAD -/
  , ⟨0x11C, 1, 4, .ro, 0, .d, 0xFFFFFFFF, []⟩ /- LOAD_CODE -/
  , ⟨0x120, 1, 4, .rw, 0, .d, 0xF, []⟩ /- HOIST -/
  , ⟨0x124, 1, 4, .rw, 0, .d, 0xFFFFFFFF, []⟩ /- HOIST_TICK_LO -/
  , ⟨0x128, 1, 4, .rw, 0, .d, 0xFFFFFFFF, []⟩ /- HOIST_TICK_HI -/
  , ⟨0x12C, 1, 4, .ro, 0, .d, 0xFFFFFFFF, []⟩ /- HOIST_STAT -/
  , ⟨0x130, 1, 4, .ro, 0, .c, 0xFFFFFFFF, []⟩ /- LAST_TICK_LO -/
  , ⟨0x134, 1, 4, .ro, 0, .c, 0xFFFFFFFF, []⟩ /- LAST_TICK_HI -/
  , ⟨0x138, 1, 4, .ro, 0, .d, 0xFFFFFFFF, []⟩ /- HOIST_CNT -/
  , ⟨0x13C, 1, 4, .ro, 0, .d, 0xFFFFFFFF, []⟩ /- SWAP_DEFER_CNT -/
  , ⟨0x140, 1, 4, .ro, 0, .d, 0xFFFFFFFF, []⟩ /- REFUSE_CNT -/
  , ⟨0x144, 1, 4, .ro, 0, .c, 0xFFFFFFFF, []⟩ /- IMG_A_LO -/
  , ⟨0x148, 1, 4, .ro, 0, .c, 0xFFFFFFFF, []⟩ /- IMG_A_HI -/
  , ⟨0x14C, 1, 4, .ro, 0, .c, 0xFFFFFFFF, []⟩ /- IMG_B_LO -/ ]

/-- The register table of R146, piece 1. -/
def regsSched1 : List RegRow :=
  [ ⟨0x150, 1, 4, .ro, 0, .c, 0xFFFFFFFF, []⟩ /- IMG_B_HI -/
  , ⟨0x154, 1, 4, .ro, 0, .c, 0xFFFFFFFF, []⟩ /- BUDGET -/
  , ⟨0x158, 1, 4, .w1c, 0, .d, 0xFFFFFFFF, []⟩ /- MISMATCH -/
  , ⟨0x400, 64, 4, .w1s, 0, .d, 0xFFFFFFFF, []⟩ /- PGP0–PGP63 -/ ]

/-- The whole register table of the page. -/
def regsSched : List RegRow := regsSched0 ++ regsSched1

/-- The register table of R476. -/
def regsStore : List RegRow :=
  [ ⟨0x100, 1, 4, .rw, 0x1F, .c, 0x1F, []⟩ /- SCRUB_CTL -/
  , ⟨0x104, 1, 4, .rw, 0xA, .c, 0xFFFF, [⟨0, 16, 1, 65535⟩]⟩ /- SCRUB_PER_STORE -/
  , ⟨0x108, 1, 4, .rw, 0xE10, .c, 0xFFFF, [⟨0, 16, 1, 65535⟩]⟩ /- SCRUB_PER_DRAM -/
  , ⟨0x10C, 1, 4, .ro, 0, .d, 0xFFFFFFFF, []⟩ /- ECC_CE_CNT -/
  , ⟨0x110, 1, 4, .ro, 0, .d, 0xFFFFFFFF, []⟩ /- ECC_UE_CNT -/
  , ⟨0x114, 1, 4, .ro, 0, .d, 0xFFFFFFFF, []⟩ /- PASS_CNT -/
  , ⟨0x118, 1, 4, .ro, 0, .d, 0xFFFFFFFF, []⟩ /- DRAM_PASS_CNT -/ ]

/-- The register table of R169. -/
def regsRtr : List RegRow :=
  [ ⟨0x100, 1, 4, .rw, 0, .c, 0x133FFF, []⟩ /- RT_ADDR -/
  , ⟨0x104, 1, 4, .rwh, 0, .d, 0xFFFFFFFF, []⟩ /- RT_DATA -/
  , ⟨0x108, 1, 4, .ro, 0, .d, 0xFFFFFFFF, []⟩ /- STAT -/
  , ⟨0x10C, 1, 4, .ro, 0, .c, 0xFFFFFFFF, []⟩ /- LIVE_CNT -/
  , ⟨0x110, 1, 4, .ro, 0, .c, 0xFFFFFFFF, []⟩ /- BYP_CNT -/
  , ⟨0x114, 1, 4, .ro, 0, .d, 0xFFFFFFFF, []⟩ /- REFUSE_CNT -/
  , ⟨0x118, 1, 4, .ro, 0, .d, 0xFFFFFFFF, []⟩ /- REFUSE_LAST -/
  , ⟨0x11C, 1, 4, .ro, 0, .d, 0xFFFFFFFF, []⟩ /- ECC_CE_CNT -/
  , ⟨0x120, 1, 4, .ro, 0, .d, 0xFFFFFFFF, []⟩ /- ECC_UE_CNT -/
  , ⟨0x124, 1, 4, .ro, 0, .d, 0xFFFFFFFF, []⟩ /- SRC_ERR_CNT -/
  , ⟨0x128, 1, 4, .ro, 0, .d, 0xFFFFFFFF, []⟩ /- XFER_NS_LAST -/
  , ⟨0x800, 64, 0x10, .nx, 0, .c, 0x107, []⟩ /- GENg_MODE_NX -/
  , ⟨0x804, 64, 0x10, .nx, 0, .c, 0xFFFFFFFF, []⟩ /- GENg_LEVEL_NX -/
  , ⟨0x808, 64, 0x10, .nx, 0, .c, 0xFFFFFFFF, []⟩ /- GENg_FREQ_NX -/
  , ⟨0x80C, 64, 0x10, .nx, 0, .c, 0xFFFFFFFF, []⟩ /- GENg_SEED_NX -/ ]

/-- The register table of R171. -/
def regsGain : List RegRow :=
  [ ⟨0x100, 1, 4, .nx, 0x20C49C, .c, 0x7FFFFFFF, []⟩ /- ZC_THRESH_NX -/
  , ⟨0x104, 1, 4, .ro, 0x20C49C, .c, 0xFFFFFFFF, []⟩ /- ZC_THRESH -/
  , ⟨0x108, 1, 4, .nx, 0x4B0, .c, 0xFFFF, [⟨0, 16, 1, 65535⟩]⟩ /- ZC_TIMEOUT_NX -/
  , ⟨0x10C, 1, 4, .ro, 0x4B0, .c, 0xFFFFFFFF, []⟩ /- ZC_TIMEOUT -/
  , ⟨0x110, 1, 4, .ro, 0, .d, 0xFFFFFFFF, []⟩ /- PENDING -/
  , ⟨0x114, 1, 4, .ro, 0, .d, 0xFFFFFFFF, []⟩ /- SOFT_CNT -/
  , ⟨0x118, 1, 4, .ro, 0, .d, 0xFFFFFFFF, []⟩ /- TIMEOUT_CNT -/
  , ⟨0x11C, 1, 4, .ro, 0, .d, 0xFFFFFFFF, []⟩ /- SUPERSEDE_CNT -/
  , ⟨0x120, 1, 4, .ro, 0, .d, 0xFFFFFFFF, []⟩ /- SOFT_OVF_CNT -/
  , ⟨0x124, 1, 4, .ro, 0, .d, 0xFFFFFFFF, []⟩ /- LAST -/ ]

/-- The register table of R193. -/
def regsTdmg : List RegRow :=
  [ ⟨0x100, 4, 0x40, .rw, 0, .c, 0xF3C, []⟩ /- GRPg_CTL -/
  , ⟨0x104, 4, 0x40, .ro, 0, .c, 0xFFFFFFFF, []⟩ /- GRPg_MEMBERS -/
  , ⟨0x108, 4, 0x40, .rw, 0, .c, 0xFFFFFFFF, []⟩ /- GRPg_TRIG_LO -/
  , ⟨0x10C, 4, 0x40, .rw, 0, .c, 0xFFFFFFFF, []⟩ /- GRPg_TRIG_HI -/
  , ⟨0x110, 4, 0x40, .rw, 0, .c, 0xFFFF, []⟩ /- GRPg_TRIG_X -/
  , ⟨0x114, 4, 0x40, .ro, 0, .c, 0xFFFFFFFF, []⟩ /- GRPg_STAT -/
  , ⟨0x118, 4, 0x40, .ro, 0, .c, 0xFFFFFFFF, []⟩ /- GRPg_PHASE -/
  , ⟨0x11C, 4, 0x40, .rw, 0x40, .c, 0xFF, []⟩ /- GRPg_LOCK_TOL -/
  , ⟨0x120, 4, 0x40, .ro, 0, .c, 0xFFFFFFFF, []⟩ /- GRPg_SLIP_FAST_CNT -/
  , ⟨0x124, 4, 0x40, .ro, 0, .c, 0xFFFFFFFF, []⟩ /- GRPg_SLIP_SLOW_CNT -/
  , ⟨0x128, 4, 0x40, .ro, 0, .c, 0xFFFFFFFF, []⟩ /- GRPg_START_TICK_LO -/
  , ⟨0x12C, 4, 0x40, .ro, 0, .c, 0xFFFFFFFF, []⟩ /- GRPg_START_TICK_HI -/
  , ⟨0x130, 4, 0x40, .ro, 0, .c, 0xFFFFFFFF, []⟩ /- GRPg_FRAME_LO -/
  , ⟨0x134, 4, 0x40, .ro, 0, .c, 0xFFFFFFFF, []⟩ /- GRPg_FRAME_HI -/
  , ⟨0x200, 1, 4, .rw, 0, .c, 3, []⟩ /- START_CFG -/
  , ⟨0x204, 1, 4, .ro, 0, .c, 0xFFFFFFFF, []⟩ /- START_TS_LO -/
  , ⟨0x208, 1, 4, .ro, 0, .c, 0xFFFFFFFF, []⟩ /- START_TS_HI -/ ]

/-- The register table of R191, piece 0. -/
def regsTdm0 : List RegRow :=
  [ ⟨0x100, 1, 4, .nx, 0, .c, 3, []⟩ /- CTL_NX -/
  , ⟨0x104, 1, 4, .ro, 0, .c, 0xFFFFFFFF, []⟩ /- CTL -/
  , ⟨0x108, 1, 4, .w1s, 0, .d, 0xFFFFFFFF, []⟩ /- MUTE_NOW -/
  , ⟨0x10C, 1, 4, .rw, 7, .c, 7, []⟩ /- CFG -/
  , ⟨0x110, 1, 4, .rw, 0x831C, .c, 0x3FFFF, []⟩ /- FMT -/
  , ⟨0x114, 1, 4, .rw, 0xFFFFFFFF, .c, 0xFFFFFFFF, []⟩ /- TX_EN -/
  , ⟨0x118, 1, 4, .nx, 0x20, .c, 0xFFFF, [⟨0, 16, 1, 65535⟩]⟩ /- HOLD_FRAMES_NX -/
  , ⟨0x11C, 1, 4, .ro, 0x20, .c, 0xFFFFFFFF, []⟩ /- HOLD_FRAMES -/
  , ⟨0x120, 1, 4, .nx, 0x7D0, .c, 0xFFFF, [⟨0, 16, 100, 20000⟩]⟩ /- RATE_TOL_NX -/
  , ⟨0x124, 1, 4, .ro, 0x7D0, .c, 0xFFFFFFFF, []⟩ /- RATE_TOL -/
  , ⟨0x128, 1, 4, .ro, 0, .c, 0xFFFFFFFF, []⟩ /- STATE -/
  , ⟨0x12C, 1, 4, .w1c, 0, .d, 0xFFFFFFFF, []⟩ /- STAT -/
  , ⟨0x130, 1, 4, .ro, 0, .c, 0xFFFFFFFF, []⟩ /- BCLK_ERR_CNT -/
  , ⟨0x134, 1, 4, .ro, 0, .c, 0xFFFFFFFF, []⟩ /- RATE_DEV_CNT -/
  , ⟨0x138, 1, 4, .ro, 0, .c, 0xFFFFFFFF, []⟩ /- IN_UND_CNT -/
  , ⟨0x13C, 1, 4, .ro, 0, .c, 0xFFFFFFFF, []⟩ /- IN_OVR_CNT -/
  , ⟨0x140, 1, 4, .ro, 0, .c, 0xFFFFFFFF, []⟩ /- OUT_UND_CNT -/
  , ⟨0x144, 1, 4, .ro, 0, .c, 0xFFFFFFFF, []⟩ /- OUT_OVR_CNT -/
  , ⟨0x148, 1, 4, .ro, 0, .c, 0xFFFFFFFF, []⟩ /- HOLD_CNT -/
  , ⟨0x14C, 1, 4, .ro, 0, .c, 0xFFFFFFFF, []⟩ /- RATE_FAULT_CNT -/ ]

/-- The register table of R191, piece 1. -/
def regsTdm1 : List RegRow :=
  [ ⟨0x150, 1, 4, .ro, 0, .d, 0xFFFFFFFF, []⟩ /- FS_PERIOD -/
  , ⟨0x154, 1, 4, .ro, 0, .d, 0xFFFFFFFF, []⟩ /- BCLK_LAST -/ ]

/-- The whole register table of the page. -/
def regsTdm : List RegRow := regsTdm0 ++ regsTdm1

/-- The register table of R208. -/
def regsDec : List RegRow :=
  [ ⟨0x100, 1, 4, .nx, 0, .c, 0xFFFF, []⟩ /- RUN_NX -/
  , ⟨0x104, 1, 4, .ro, 0, .c, 0xFFFFFFFF, []⟩ /- RUN -/
  , ⟨0x108, 1, 4, .w1c, 0, .d, 0xFFFFFFFF, []⟩ /- CFG_ERR -/
  , ⟨0x10C, 1, 4, .w1c, 0, .d, 0xFFFFFFFF, []⟩ /- STUCK -/
  , ⟨0x110, 1, 4, .w1c, 0, .d, 0xFFFFFFFF, []⟩ /- CLIP -/
  , ⟨0x114, 1, 4, .w1c, 0, .d, 0xFFFFFFFF, []⟩ /- WR_REFUSED -/
  , ⟨0x118, 1, 4, .ro, 0, .c, 0xFFFFFFFF, []⟩ /- SETTLED -/
  , ⟨0x11C, 1, 4, .rw, 0x100, .c, 0xFFFF, [⟨0, 16, 16, 65535⟩]⟩ /- STUCK_LEN -/
  , ⟨0x120, 4, 4, .rw, 0, .c, 7, []⟩ /- CLK0–CLK3 -/
  , ⟨0x200, 16, 0x10, .rw, 1, .c, 0x3FFF, []⟩ /- INSTi_CFG -/
  , ⟨0x204, 16, 0x10, .rw, 0x100, .c, 0xFF1FFF, []⟩ /- INSTi_RATIO -/
  , ⟨0x208, 16, 0x10, .ro, 0, .c, 0xFFFFFFFF, []⟩ /- INSTi_STUCK_CNT -/
  , ⟨0x20C, 16, 0x10, .ro, 0, .c, 0xFFFFFFFF, []⟩ /- INSTi_CLIP_CNT -/ ]

/-- The register table of R236, piece 0. -/
def regsMod0 : List RegRow :=
  [ ⟨0x100, 1, 4, .nx, 0, .c, 0xFF, []⟩ /- CTL_NX -/
  , ⟨0x104, 1, 4, .ro, 0, .c, 0xFFFFFFFF, []⟩ /- CTL -/
  , ⟨0x108, 1, 4, .w1s, 0, .d, 0xFFFFFFFF, []⟩ /- FORCE_OFF -/
  , ⟨0x10C, 1, 4, .w1s, 0, .d, 0xFFFFFFFF, []⟩ /- CLR -/
  , ⟨0x110, 1, 4, .rw, 0x800, .c, 0x1FFF, []⟩ /- PER -/
  , ⟨0x114, 1, 4, .rw, 0x18, .c, 0xFF, []⟩ /- MIN_PULSE -/
  , ⟨0x118, 1, 4, .rw, 0x32, .c, 0xFF, [⟨0, 8, 10, 200⟩]⟩ /- CM_RAMP -/
  , ⟨0x11C, 1, 4, .rw, 0x780, .c, 0xFFFF, [⟨0, 16, 1, 65535⟩]⟩ /- FADE -/
  , ⟨0x200, 8, 0x40, .rw, 0x100006, .c, 0x3F3F07, []⟩ /- CHk_CFG -/
  , ⟨0x204, 8, 0x40, .rw, 0x1008, .c, 0x3F3F, []⟩ /- CHk_OC -/
  , ⟨0x208, 8, 0x40, .rw, 0x500C8, .c, 0x7FFFF, []⟩ /- CHk_RETRY -/
  , ⟨0x20C, 8, 0x40, .rw, 0x2710, .c, 0xFFFF, []⟩ /- CHk_RETRY_CLR -/
  , ⟨0x210, 8, 0x40, .rw, 0x186A0, .c, 0xFFFFF, []⟩ /- CHk_VPK -/
  , ⟨0x214, 8, 0x40, .rw, 0x2000, .c, 0x7F7F, []⟩ /- CHk_SNS -/
  , ⟨0x218, 8, 0x40, .rw, 0x30D40, .c, 0xFFFFF, []⟩ /- CHk_VFS -/
  , ⟨0x21C, 8, 0x40, .rw, 0xC350, .c, 0xFFFFF, []⟩ /- CHk_IFS -/
  , ⟨0x220, 8, 0x40, .rw, 0x3E80028, .c, 0xFFFF00FF, [⟨0, 8, 1, 255⟩]⟩ /- CHk_Z_CFG -/
  , ⟨0x224, 8, 0x40, .rw, 0x1F4, .c, 0xFFFF, []⟩ /- CHk_Z_IMIN -/
  , ⟨0x228, 8, 0x40, .ro, 0, .d, 0xFFFFFFFF, []⟩ /- CHk_STAT -/
  , ⟨0x22C, 8, 0x40, .ro, 0, .d, 0xFFFFFFFF, []⟩ /- CHk_OC_CNT -/ ]

/-- The register table of R236, piece 1. -/
def regsMod1 : List RegRow :=
  [ ⟨0x230, 8, 0x40, .ro, 0, .d, 0xFFFFFFFF, []⟩ /- CHk_SHUT_CNT -/
  , ⟨0x234, 8, 0x40, .ro, 0, .d, 0xFFFFFFFF, []⟩ /- CHk_CLIP_CNT -/
  , ⟨0x238, 8, 0x40, .ro, 0, .d, 0xFFFFFFFF, []⟩ /- CHk_Z_LAST -/ ]

/-- The whole register table of the page. -/
def regsMod : List RegRow := regsMod0 ++ regsMod1

/-- The register table of R238. -/
def regsRail : List RegRow :=
  [ ⟨0x100, 1, 4, .nx, 0, .c, 0xFF, []⟩ /- CTL_NX -/
  , ⟨0x104, 1, 4, .ro, 0, .c, 0xFFFFFFFF, []⟩ /- CTL -/
  , ⟨0x108, 1, 4, .w1s, 0, .d, 0xFFFFFFFF, []⟩ /- CLR -/
  , ⟨0x200, 8, 0x40, .rw, 0x4001, .c, 0xFFFF7F01, []⟩ /- GRPg_CFG -/
  , ⟨0x204, 8, 0x40, .rw, 0x4E20, .c, 0xFFFFF, []⟩ /- GRPg_V_MIN -/
  , ⟨0x208, 8, 0x40, .rw, 0x249F0, .c, 0xFFFFF, []⟩ /- GRPg_V_MAX -/
  , ⟨0x20C, 8, 0x40, .rw, 0x1D4C0, .c, 0xFFFFF, []⟩ /- GRPg_V_FIX -/
  , ⟨0x210, 8, 0x40, .rw, 0xBB8, .c, 0xFFFFF, []⟩ /- GRPg_V_DROP -/
  , ⟨0x214, 8, 0x40, .rw, 0x2BF20, .c, 0xFFFFF, []⟩ /- GRPg_VFS -/
  , ⟨0x218, 8, 0x40, .rw, 0x186A0, .c, 0xFFFFF, []⟩ /- GRPg_SLEW_UP -/
  , ⟨0x21C, 8, 0x40, .rw, 0x2710, .c, 0xFFFFF, []⟩ /- GRPg_SLEW_DN -/
  , ⟨0x220, 8, 0x40, .rw, 0x800, .c, 0x7FFF, []⟩ /- GRPg_RPER -/
  , ⟨0x224, 8, 0x40, .rw, 0x1388, .c, 0xFFFFF, []⟩ /- GRPg_TOL -/
  , ⟨0x228, 8, 0x40, .rw, 0x60, .c, 0xFFFF, []⟩ /- GRPg_TIME -/
  , ⟨0x22C, 8, 0x40, .ro, 0, .d, 0xFFFFFFFF, []⟩ /- GRPg_CMD -/
  , ⟨0x230, 8, 0x40, .ro, 0, .d, 0xFFFFFFFF, []⟩ /- GRPg_V_MEAS -/
  , ⟨0x234, 8, 0x40, .ro, 0, .d, 0xFFFFFFFF, []⟩ /- GRPg_LATE_CNT -/
  , ⟨0x238, 8, 0x40, .ro, 0, .d, 0xFFFFFFFF, []⟩ /- GRPg_LOW_CNT -/
  , ⟨0x23C, 8, 0x40, .ro, 0, .d, 0xFFFFFFFF, []⟩ /- GRPg_STAT -/
  , ⟨0x800, 32, 4, .rw, 0, .c, 0x1FFBFFF, []⟩ /- CHm_ENV -/ ]

/-- The register table of R240. -/
def regsThm : List RegRow :=
  [ ⟨0x100, 1, 4, .nx, 0, .c, 0xFF, []⟩ /- CTL_NX -/
  , ⟨0x104, 1, 4, .ro, 0, .c, 0xFFFFFFFF, []⟩ /- CTL -/
  , ⟨0x108, 1, 4, .rw, 0x190, .c, 0xFFFF, []⟩ /- T_AMB -/
  , ⟨0x10C, 1, 4, .rw, 0, .c, 0xFFFFE0, []⟩ /- GAIN_BASE -/
  , ⟨0x200, 8, 0x40, .rw, 0x1800300, .c, 0xFFFFFFFF, []⟩ /- CHk_RTH -/
  , ⟨0x204, 8, 0x40, .rw, 0x5762, .c, 0xFFFFFFFF, []⟩ /- CHk_A_VC -/
  , ⟨0x208, 8, 0x40, .rw, 0x12A, .c, 0xFFFFFFFF, []⟩ /- CHk_A_M -/
  , ⟨0x20C, 8, 0x40, .rw, 0x1770, .c, 0xFFFFF, []⟩ /- CHk_R_REF -/
  , ⟨0x210, 8, 0x40, .rw, 0xF5A0190, .c, 0xFFFFFFFF, []⟩ /- CHk_REF -/
  , ⟨0x214, 8, 0x40, .rw, 0xB400A00, .c, 0xFFFFFFFF, []⟩ /- CHk_TW_TL -/
  , ⟨0x218, 8, 0x40, .rw, 0xDC0, .c, 0xFFFF, []⟩ /- CHk_TS -/
  , ⟨0x21C, 8, 0x40, .rw, 0x7028F, .c, 0xFFFFFFFF, []⟩ /- CHk_AR -/
  , ⟨0x220, 8, 0x40, .rw, 0xCCCCCCD, .c, 0xFFFFFFFF, []⟩ /- CHk_G_FLOOR -/
  , ⟨0x224, 8, 0x40, .rw, 0x9600020, .c, 0xFFFF00FF, []⟩ /- CHk_CORR -/
  , ⟨0x228, 8, 0x40, .rw, 0xC8, .c, 0xFFFF, []⟩ /- CHk_IMIN -/
  , ⟨0x22C, 8, 0x40, .rwh, 0, .c, 0xFFFFFFFF, []⟩ /- CHk_DT_VC -/
  , ⟨0x230, 8, 0x40, .ro, 0, .c, 0xFFFFFFFF, []⟩ /- CHk_T -/
  , ⟨0x234, 8, 0x40, .ro, 0, .c, 0xFFFFFFFF, []⟩ /- CHk_R_MEAS -/
  , ⟨0x238, 8, 0x40, .ro, 0x7FFFFFFF, .c, 0xFFFFFFFF, []⟩ /- CHk_GAIN -/
  , ⟨0x23C, 8, 0x40, .ro, 0, .c, 0xFFFFFFFF, []⟩ /- CHk_STAT -/ ]

/-- The register table of R260. -/
def regsRef : List RegRow :=
  [ ⟨0x100, 1, 4, .rwh, 0, .c, 0x73, []⟩ /- CTL -/
  , ⟨0x104, 1, 4, .ro, 7, .c, 0xFFFFFFFF, []⟩ /- SEL -/
  , ⟨0x108, 1, 4, .rw, 0xE10, .c, 0x1FFFF, [⟨0, 17, 0, 86400⟩]⟩ /- HOLD_LIMIT -/
  , ⟨0x10C, 1, 4, .ro, 0, .c, 0xFFFFFFFF, []⟩ /- QUAL_STAT -/
  , ⟨0x110, 1, 4, .rw, 0x7D0, .c, 0xFFFFF, []⟩ /- DRIFT_PPB -/
  , ⟨0x114, 1, 4, .rw, 0x3E8, .c, 0xFFFFF, []⟩ /- CONFLICT_PPB -/
  , ⟨0x118, 1, 4, .ro, 0, .c, 0xFFFFFFFF, []⟩ /- CONFLICT_PAIR -/
  , ⟨0x11C, 1, 4, .rw, 0x3C, .c, 0xFFFF, []⟩ /- REVERT_WAIT -/
  , ⟨0x200, 7, 0x40, .rw, 0x8030, .c, 0x1F777, []⟩ /- REFn_CFG -/
  , ⟨0x204, 7, 0x40, .rw, 0x186A0, .c, 0xFFFFFF, []⟩ /- REFn_ACCEPT -/
  , ⟨0x208, 7, 0x40, .rw, 0x1FBD0, .c, 0xFFFFFF, []⟩ /- REFn_REJECT -/
  , ⟨0x20C, 7, 0x40, .rw, 0x6400C8, .c, 0xFFFFFFFF, []⟩ /- REFn_TIMES -/
  , ⟨0x210, 7, 0x40, .rw, 0, .c, 0xFFFFFFFF, []⟩ /- REFn_DLY -/
  , ⟨0x214, 7, 0x40, .ro, 0, .c, 0xFFFFFFFF, []⟩ /- REFn_OFFSET -/
  , ⟨0x218, 7, 0x40, .ro, 0, .c, 0xFFFFFFFF, []⟩ /- REFn_LOCK_OFS -/
  , ⟨0x21C, 7, 0x40, .ro, 0, .c, 0xFFFFFFFF, []⟩ /- REFn_STAT -/
  , ⟨0x220, 7, 0x40, .ro, 0, .c, 0xFFFFFFFF, []⟩ /- REFn_DISQ_CNT -/ ]

/-- The register table of R262. -/
def regsDpll : List RegRow :=
  [ ⟨0x100, 1, 4, .rw, 2, .c, 3, []⟩ /- CTL -/
  , ⟨0x104, 1, 4, .ro, 0x70, .c, 0xFFFFFFFF, []⟩ /- STATE -/
  , ⟨0x108, 1, 4, .rw, 0x3E8, .c, 0x3FFF, [⟨0, 14, 10, 10000⟩]⟩ /- PHASE_SLEW -/
  , ⟨0x10C, 1, 4, .rw, 0x2710, .c, 0xFFFFF, [⟨0, 20, 1, 1048575⟩]⟩ /- FREQ_RAMP -/
  , ⟨0x110, 1, 4, .rw, 0x4E20, .c, 0xFFFFFF, []⟩ /- LOCK_PHASE -/
  , ⟨0x114, 1, 4, .rw, 0x64, .c, 0xFFFFF, []⟩ /- LOCK_FREQ -/
  , ⟨0x118, 1, 4, .rw, 0x3E8, .c, 0xFFFF, []⟩ /- LOCK_TIME -/
  , ⟨0x11C, 1, 4, .rw, 0x30D40, .c, 0xFFFFFF, []⟩ /- UNLOCK_PHASE -/
  , ⟨0x120, 1, 4, .wo, 0, .d, 0xFFFFFFFF, []⟩ /- STEP -/
  , ⟨0x124, 1, 4, .rw, 0x2710, .c, 0xFFFFFF, []⟩ /- STEP_MAX -/
  , ⟨0x128, 1, 4, .ro, 0, .c, 0xFFFFFFFF, []⟩ /- PHASE_OFS -/
  , ⟨0x12C, 1, 4, .ro, 0, .c, 0xFFFFFFFF, []⟩ /- PHASE_ERR -/
  , ⟨0x130, 1, 4, .ro, 0, .c, 0xFFFFFFFF, []⟩ /- FREQ_OUT -/
  , ⟨0x134, 1, 4, .ro, 0, .c, 0xFFFFFFFF, []⟩ /- HOLD_FREQ -/
  , ⟨0x138, 1, 4, .ro, 0, .c, 0xFFFFFFFF, []⟩ /- HOLD_LEFT -/
  , ⟨0x13C, 1, 4, .ro, 0, .c, 0xFFFFFFFF, []⟩ /- SWITCH_CNT -/
  , ⟨0x140, 1, 4, .rw, 0, .c, 0xF3, []⟩ /- PNT_CFG -/ ]

/-- The register table of R308, piece 0. -/
def regsPtp0 : List RegRow :=
  [ ⟨0x100, 1, 4, .rw, 0, .c, 0, []⟩ /- CTL -/
  , ⟨0x104, 1, 4, .ro, 4, .b, 0xFFFFFFFF, []⟩ /- STAT -/
  , ⟨0x108, 1, 4, .ro, 0, .d, 0xFFFFFFFF, []⟩ /- TIME_NS -/
  , ⟨0x10C, 1, 4, .ro, 0, .d, 0xFFFFFFFF, []⟩ /- TIME_S_LO -/
  , ⟨0x110, 1, 4, .ro, 0, .d, 0xFFFFFFFF, []⟩ /- TIME_S_HI -/
  , ⟨0x114, 1, 4, .ro, 0, .b, 0xFFFFFFFF, []⟩ /- RAW_LO -/
  , ⟨0x118, 1, 4, .ro, 0, .b, 0xFFFFFFFF, []⟩ /- RAW_HI -/
  , ⟨0x11C, 1, 4, .rwh, 0, .b, 0xFFFFFFFF, []⟩ /- RATE_LO -/
  , ⟨0x120, 1, 4, .rwh, 0x200, .b, 0xFFFF, []⟩ /- RATE_HI -/
  , ⟨0x124, 1, 4, .rw, 0, .d, 0xFFFFFFFF, []⟩ /- STEP_LO -/
  , ⟨0x128, 1, 4, .rw, 0, .d, 0xFFFFFFFF, []⟩ /- STEP_HI -/
  , ⟨0x12C, 1, 4, .rw, 0, .d, 0xFFFF, []⟩ /- STEP_CTL -/
  , ⟨0x130, 1, 4, .ro, 0, .b, 0xFFFFFFFF, []⟩ /- STEP_CNT -/
  , ⟨0x134, 1, 4, .rw, 0xBB8, .c, 0xFFFF, [⟨0, 16, 1, 65535⟩]⟩ /- SYNC_WD -/
  , ⟨0x138, 1, 4, .rw, 0x186A0, .b, 0xFFFFF, []⟩ /- RTC_TOL -/
  , ⟨0x13C, 1, 4, .ro, 0, .b, 0xFFFFFFFF, []⟩ /- UNC -/
  , ⟨0x140, 1, 4, .ro, 0, .b, 0xFFFFFFFF, []⟩ /- SLEEP_LO -/
  , ⟨0x144, 1, 4, .ro, 0, .b, 0xFFFFFFFF, []⟩ /- SLEEP_HI -/
  , ⟨0x148, 1, 4, .rw, 0, .c, 0xFFFFFFFF, []⟩ /- MEDIA_OFS -/
  , ⟨0x14C, 1, 4, .ro, 0, .c, 0xFFFFFFFF, []⟩ /- ANCHOR_LO -/ ]

/-- The register table of R308, piece 1. -/
def regsPtp1 : List RegRow :=
  [ ⟨0x150, 1, 4, .ro, 0, .c, 0xFFFFFFFF, []⟩ /- ANCHOR_HI -/ ]

/-- The whole register table of the page. -/
def regsPtp : List RegRow := regsPtp0 ++ regsPtp1

/-- The register table of R290. -/
def regsMac : List RegRow :=
  [ ⟨0x100, 1, 4, .rw, 4, .c, 0xF, []⟩ /- CFG -/
  , ⟨0x104, 1, 4, .rw, 0, .c, 1, []⟩ /- CTL -/
  , ⟨0x108, 1, 4, .rw, 0x5EE, .c, 0x3FFF, [⟨0, 14, 1518, 9212⟩]⟩ /- MAX_FRAME -/
  , ⟨0x10C, 1, 4, .rw, 0, .c, 0xFFFFFFFF, []⟩ /- ADDR_LO -/
  , ⟨0x110, 1, 4, .rw, 0, .c, 0xFFFF, []⟩ /- ADDR_HI -/
  , ⟨0x114, 1, 4, .rw, 0, .c, 0xFFFFFFFF, []⟩ /- IPV4 -/
  , ⟨0x118, 1, 4, .rw, 0x2710, .c, 0xFFFFFF, [⟨0, 24, 1, 16777215⟩]⟩ /- PAUSE_WD -/
  , ⟨0x11C, 1, 4, .rw, 0x186A0, .c, 0xFFFFFF, []⟩ /- PAUSE_HOLDOFF -/
  , ⟨0x120, 1, 4, .rw, 0x64, .c, 0xFFFF, []⟩ /- EEE_IDLE -/
  , ⟨0x124, 1, 4, .rw, 0x10, .c, 0xFFFF, []⟩ /- EEE_TW -/
  , ⟨0x128, 1, 4, .rw, 0xA, .c, 0xFFFF, []⟩ /- EEE_GUARD -/
  , ⟨0x12C, 1, 4, .ro, 0, .d, 0xFFFFFFFF, []⟩ /- STAT -/
  , ⟨0x130, 1, 4, .rw, 0, .c, 0xFFFFFFFF, []⟩ /- TS_LAT_RX -/
  , ⟨0x134, 1, 4, .rw, 0, .c, 0xFFFFFFFF, []⟩ /- TS_LAT_TX -/
  , ⟨0x140, 4, 4, .rwh, 0, .c, 0xFFFFFFFF, []⟩ /- RXR -/
  , ⟨0x180, 28, 4, .rwh, 0, .c, 0xFFFFFFFF, []⟩ /- TXQ0–TXQ6 -/
  , ⟨0x200, 28, 4, .ro, 0, .d, 0xFFFFFFFF, []⟩ /- Counters -/ ]

/-- The bits that INT_RAW defines in a page of each kind; the others are reserved (R48, R96, R148, R170, R172, R192,
R194, R209, R237, R239, R241, R261, R263, R291, R293, R294, R309, R331, R333, R357, R377, R379, R391, R440, R458,
R475, R501). -/
def intBits : PageKind → Nat
  | .sys => 0xF | .pwr => 0xF | .rst => 0 | .avs => 1 | .sens => 0xF | .fuse => 3 | .boot => 0 | .gpio => 0xFFFF
  | .cpu => 3 | .aoc => 1 | .mtx => 7 | .pcie => 0xF | .twb => 0xFFF | .drc => 0x7FF | .dphy => 7 | .esc => 0x1F
  | .sched => 0x3F | .store => 7 | .rtr => 0x1F | .gain => 7 | .tdmg => 0x3FFFF | .tdm => 0x7FF | .dec => 0x1F
  | .mod => 0x3FFFF | .rail => 0xFFFFFFFF | .thm => 0x1FFFFFF | .ref => 0x3FF7F | .dpll => 0x3F | .ptp => 0x3F
  | .mac => 0x3F | .macm => 0x3F | .strm => 0x7F | .tsn => 3 | .crx => 0x3FF | .stack => 0xF | .pair => 0x1FFF
  | .eng => 0x7FF0 | .none => 0

/-- The register table of MACM (R290): it has TXQ0 only, and EEE_EN, FEC and the EEE registers read 0. -/
def regsMacm : List RegRow :=
  regsMac.map (fun r =>
    if r.off = 0x100 then { r with mask := 5 }
    else if 0x120 ≤ r.off ∧ r.off ≤ 0x128 then { r with acc := .ro, reset := 0 }
    else if r.off = 0x180 then { r with count := 4 }
    else r)

/-- The register table of R292. -/
def regsStrm : List RegRow :=
  [ ⟨0x100, 1, 4, .rw, 0, .c, 0x1FF, []⟩ /- SEL -/
  , ⟨0x104, 1, 4, .rw, 1, .c, 1, []⟩ /- MC_CFG -/
  , ⟨0x108, 1, 4, .rwh, 0, .c, 0xFFFFFFFF, []⟩ /- MC_OFS_LO -/
  , ⟨0x10C, 1, 4, .rwh, 0, .c, 0xFFFFFFFF, []⟩ /- MC_OFS_HI -/
  , ⟨0x110, 1, 4, .rw, 1, .c, 0xF, []⟩ /- TERM_CFG -/
  , ⟨0x114, 1, 4, .rw, 0xC0, .c, 0xFFFF, [⟨0, 16, 1, 65535⟩]⟩ /- HOLD_LEN -/
  , ⟨0x118, 1, 4, .rw, 0, .c, 0xFFFFC0, []⟩ /- JB_BASE -/
  , ⟨0x11C, 1, 4, .rw, 0, .c, 0x1FFFFC0, []⟩ /- JB_SIZE -/
  , ⟨0x140, 8, 4, .nx, 0, .c, 0xFFFFFFFF, []⟩ /- RX_EN_NX0–7 -/
  , ⟨0x160, 8, 4, .ro, 0, .c, 0xFFFFFFFF, []⟩ /- RX_EN0–7 -/
  , ⟨0x180, 8, 4, .nx, 0, .c, 0xFFFFFFFF, []⟩ /- TX_EN_NX0–7 -/
  , ⟨0x1A0, 8, 4, .ro, 0, .c, 0xFFFFFFFF, []⟩ /- TX_EN0–7 -/
  , ⟨0x1C0, 16, 4, .rw, 8, .c, 0xFFFF, []⟩ /- PGRP0–15_LINK -/
  , ⟨0x200, 10, 4, .rw, 0, .c, 0xFFFFFFFF, []⟩ /- DESC0–9 -/
  , ⟨0x240, 10, 4, .ro, 0, .d, 0xFFFFFFFF, []⟩ /- CNT0–9 -/ ]

/-- The register table of R294. -/
def regsTsn : List RegRow :=
  [ ⟨0x100, 4, 0x40, .rw, 0, .c, 1, []⟩ /- Pp_CTL -/
  , ⟨0x104, 4, 0x40, .rw, 0, .c, 0x3FFFFFFF, []⟩ /- Pp_BASE_NS -/
  , ⟨0x108, 4, 0x40, .rw, 0, .c, 0xFFFFFFFF, []⟩ /- Pp_BASE_S_LO -/
  , ⟨0x10C, 4, 0x40, .rw, 0, .c, 0xFFFF, []⟩ /- Pp_BASE_S_HI -/
  , ⟨0x110, 4, 0x40, .rw, 0, .c, 0xFFFFFFFF, []⟩ /- Pp_CYCLE -/
  , ⟨0x114, 4, 0x40, .rw, 0, .c, 0x1FF, []⟩ /- Pp_LEN -/
  , ⟨0x118, 4, 0x40, .rw, 0, .c, 0xFFFFFFFF, []⟩ /- Pp_CHG_NS -/
  , ⟨0x11C, 4, 0x40, .rw, 0, .c, 0xFFFFFFFF, []⟩ /- Pp_CHG_S_LO -/
  , ⟨0x120, 4, 0x40, .rw, 0, .c, 0xFFFF, []⟩ /- Pp_CHG_S_HI -/
  , ⟨0x124, 4, 0x40, .ro, 0, .c, 0xFFFFFFFF, []⟩ /- Pp_OPER -/
  , ⟨0x128, 4, 0x40, .rw, 0, .c, 0xFFFFFFFF, []⟩ /- Pp_CBS5 -/
  , ⟨0x12C, 4, 0x40, .rw, 0, .c, 0xFFFFFFFF, []⟩ /- Pp_CBS6 -/
  , ⟨0x300, 1, 4, .rw, 0, .c, 0x7FF, []⟩ /- GCL_ADDR -/
  , ⟨0x304, 1, 4, .rw, 0, .c, 0xFFFFFFFF, []⟩ /- GCL_DATA -/ ]

/-- The register table of R330. -/
def regsCrx : List RegRow :=
  [ ⟨0x100, 1, 4, .nx, 0, .c, 1, []⟩ /- CTL_NX -/
  , ⟨0x104, 1, 4, .rwh, 0, .c, 4, []⟩ /- CTL -/
  , ⟨0x108, 1, 4, .rw, 0x800, .c, 0xFFE, []⟩ /- CFG -/
  , ⟨0x10C, 1, 4, .rw, 0x7D0, .c, 0x3FFF, []⟩ /- DLY_MAX -/
  , ⟨0x110, 1, 4, .rw, 0, .c, 0xFFFFFFFF, []⟩ /- ASYM -/
  , ⟨0x114, 1, 4, .rw, 0x20, .c, 0xFFFF, [⟨0, 16, 1, 65535⟩]⟩ /- HOLD_LEN -/
  , ⟨0x118, 1, 4, .rw, 0x800, .c, 0xFFFF, []⟩ /- TUN_MAX -/
  , ⟨0x11C, 1, 4, .ro, 0, .d, 0xFFFFFFFF, []⟩ /- STAT -/
  , ⟨0x120, 1, 4, .ro, 0, .d, 0xFFFFFFFF, []⟩ /- DLY -/
  , ⟨0x124, 1, 4, .rw, 0x64, .c, 0xFFFF, []⟩ /- RA_TIMEOUT -/
  , ⟨0x128, 1, 4, .rw, 0, .d, 0xFFFFFFFC, []⟩ /- RA_ADDR_LO -/
  , ⟨0x12C, 1, 4, .rw, 0, .d, 0xFF, []⟩ /- RA_ADDR_HI -/
  , ⟨0x130, 1, 4, .rw, 0, .d, 0x13F, []⟩ /- RA_CTL -/
  , ⟨0x134, 1, 4, .ro, 0, .d, 0xFFFFFFFF, []⟩ /- RA_STAT -/
  , ⟨0x140, 4, 4, .rw, 0, .c, 0xFFFFFFF, []⟩ /- WIN0, WIN1 -/
  , ⟨0x150, 4, 4, .rwh, 0, .c, 0xFFFFFFFF, []⟩ /- MTX -/
  , ⟨0x160, 4, 4, .rwh, 0, .c, 0xFFFFFFFF, []⟩ /- MRX -/
  , ⟨0x180, 64, 4, .rwh, 0, .d, 0xFFFFFFFF, []⟩ /- RA_DATA0–63 -/
  , ⟨0x300, 10, 4, .ro, 0, .d, 0xFFFFFFFF, []⟩ /- Counters -/ ]

/-- The register table of R332. -/
def regsStack : List RegRow :=
  [ ⟨0x100, 1, 4, .rw, 0, .c, 1, []⟩ /- ROLE -/
  , ⟨0x104, 1, 4, .rw, 0, .c, 0xF, []⟩ /- ID -/
  , ⟨0x108, 1, 4, .rw, 0xD, .c, 0xF, []⟩ /- ADV -/
  , ⟨0x10C, 1, 4, .ro, 0xF0, .d, 0xFFFFFFFF, []⟩ /- STAT -/
  , ⟨0x110, 1, 4, .ro, 0, .d, 0xFFFFFFFF, []⟩ /- CONFLICT_ID -/
  , ⟨0x114, 1, 4, .w1s, 0, .d, 0xFFFFFFFF, []⟩ /- CLR -/
  , ⟨0x118, 1, 4, .ro, 0, .d, 0xFFFFFFFF, []⟩ /- TICK_ADOPT_CNT -/ ]

/-- The register table of R356, piece 0. -/
def regsPair0 : List RegRow :=
  [ ⟨0x100, 1, 4, .nx, 0, .c, 1, []⟩ /- CTL_NX -/
  , ⟨0x104, 1, 4, .rwh, 0, .c, 0, []⟩ /- CTL -/
  , ⟨0x108, 1, 4, .rw, 0x14, .c, 0x1F, []⟩ /- CFG -/
  , ⟨0x10C, 1, 4, .ro, 0, .d, 0xFFFFFFFF, []⟩ /- STATE -/
  , ⟨0x110, 1, 4, .ro, 0, .a, 0xFFFFFFFF, []⟩ /- TERM -/
  , ⟨0x114, 1, 4, .ro, 0, .d, 0xFFFFFFFF, []⟩ /- PEER_TERM -/
  , ⟨0x118, 1, 4, .rw, 3, .c, 0xF, [⟨0, 4, 1, 15⟩]⟩ /- TALLY_K -/
  , ⟨0x11C, 1, 4, .rw, 2, .c, 0xFF, [⟨0, 8, 1, 255⟩]⟩ /- SILENCE_TIME -/
  , ⟨0x120, 1, 4, .rw, 0x5DC0, .c, 0xFFFFFF, [⟨0, 24, 1, 16777215⟩]⟩ /- CONV_TICKS -/
  , ⟨0x124, 1, 4, .rw, 0x15F900, .c, 0xFFFFFFF, []⟩ /- CONV_LIMIT -/
  , ⟨0x128, 1, 4, .rw, 0x7D0, .c, 0xFFFF, []⟩ /- ELECT_TIME -/
  , ⟨0x12C, 1, 4, .ro, 0, .b, 0xFFFFFFFF, []⟩ /- STRIKE_CAUSE -/
  , ⟨0x130, 1, 4, .ro, 0, .d, 0xFFFFFFFF, []⟩ /- TALLY_LO -/
  , ⟨0x134, 1, 4, .ro, 0, .d, 0xFFFFFFFF, []⟩ /- TALLY_HI -/
  , ⟨0x138, 1, 4, .ro, 0, .d, 0xFFFFFFFF, []⟩ /- PEER_TALLY_LO -/
  , ⟨0x13C, 1, 4, .ro, 0, .d, 0xFFFFFFFF, []⟩ /- PEER_TALLY_HI -/
  , ⟨0x140, 1, 4, .ro, 0, .d, 0xFFFFFFFF, []⟩ /- MATCH_RUN -/
  , ⟨0x144, 1, 4, .ro, 0, .d, 0xFFFFFFFF, []⟩ /- MISS_CNT -/
  , ⟨0x148, 1, 4, .ro, 0, .d, 0xFFFFFFFF, []⟩ /- MARK_CNT -/
  , ⟨0x14C, 1, 4, .ro, 0, .d, 0xFFFFFFFF, []⟩ /- NOCMP_CNT -/ ]

/-- The register table of R356, piece 1. -/
def regsPair1 : List RegRow :=
  [ ⟨0x150, 1, 4, .ro, 0, .b, 0xFFFFFFFF, []⟩ /- TAKEOVER_CNT -/
  , ⟨0x154, 1, 4, .ro, 0, .b, 0xFFFFFFFF, []⟩ /- STRIKE_CNT -/
  , ⟨0x158, 1, 4, .ro, 0, .d, 0xFFFFFFFF, []⟩ /- HEALTH_LO -/
  , ⟨0x15C, 1, 4, .ro, 0, .d, 0xFFFFFFFF, []⟩ /- HEALTH_HI -/
  , ⟨0x160, 1, 4, .ro, 0, .d, 0xFFFFFFFF, []⟩ /- PEER_HEALTH_LO -/
  , ⟨0x164, 1, 4, .ro, 0, .d, 0xFFFFFFFF, []⟩ /- PEER_HEALTH_HI -/
  , ⟨0x168, 1, 4, .w1c, 0, .d, 0xFFFFFFFF, []⟩ /- BIST_FAIL -/
  , ⟨0x16C, 1, 4, .ro, 0, .d, 0xFFFFFFFF, []⟩ /- BIST_SLICES -/ ]

/-- The whole register table of the page. -/
def regsPair : List RegRow := regsPair0 ++ regsPair1

/-- The register table of R94, piece 0. -/
def regsEng0 : List RegRow :=
  [ ⟨0x100, 1, 4, .nx, 0, .c, 1, []⟩ /- CTL_NX -/
  , ⟨0x104, 1, 4, .ro, 0, .c, 0xFFFFFFFF, []⟩ /- CTL -/
  , ⟨0x108, 1, 4, .ro, 0, .d, 0xFFFFFFFF, []⟩ /- STATE -/
  , ⟨0x10C, 1, 4, .w1c, 0, .d, 0xFFFFFFFF, []⟩ /- STAT -/
  , ⟨0x110, 1, 4, .rw, 0, .c, 0x3FFF, []⟩ /- PC_START -/
  , ⟨0x114, 1, 4, .ro, 0, .c, 0xFFFFFFFF, []⟩ /- STEPS_PROOF -/
  , ⟨0x118, 1, 4, .ro, 0, .d, 0xFFFFFFFF, []⟩ /- STEPS_LAST -/
  , ⟨0x11C, 1, 4, .ro, 0, .d, 0xFFFFFFFF, []⟩ /- BUSY_LAST -/
  , ⟨0x120, 1, 4, .ro, 0, .d, 0xFFFFFFFF, []⟩ /- ECC_CE_CNT -/
  , ⟨0x124, 1, 4, .ro, 0, .d, 0xFFFFFFFF, []⟩ /- ECC_UE_CNT -/
  , ⟨0x128, 1, 4, .ro, 0, .c, 0xFFFFFFFF, []⟩ /- PAR_BASE -/
  , ⟨0x12C, 1, 4, .ro, 0, .c, 0xFFFFFFFF, []⟩ /- PAR_LEN -/
  , ⟨0x130, 1, 4, .ro, 0, .c, 0xFFFFFFFF, []⟩ /- PAR_SEL_LO -/
  , ⟨0x134, 1, 4, .ro, 0, .c, 0xFFFFFFFF, []⟩ /- PAR_SEL_HI -/
  , ⟨0x138, 1, 4, .ro, 0, .d, 0xFFFFFFFF, []⟩ /- MP_CNT -/
  , ⟨0x13C, 1, 4, .rwh, 0, .d, 0xFFFFFFFF, []⟩ /- MP_WAIT_MAX -/
  , ⟨0x140, 8, 4, .ro, 0, .c, 0xFFFFFFFF, []⟩ /- GBIND0–7 -/
  , ⟨0x180, 8, 0x10, .rw, 0, .c, 0xFFFFFFFC, []⟩ /- MBk BASE_LO -/
  , ⟨0x184, 8, 0x10, .rw, 0, .c, 0xC30000FF, []⟩ /- MBk BASE_HI, QOS, RW, EN -/
  , ⟨0x188, 8, 0x10, .rw, 0, .c, 0xFFFFFF, []⟩ /- MBk LEN -/
  , ⟨0x18C, 8, 0x10, .rw, 0, .c, 0xFFFFFFFF, []⟩ /- MBk STRIDE, RINGS -/
  , ⟨0x200, 64, 4, .ro, 0, .c, 0xFFFFFFFF, []⟩ /- PAR_GRP0–63 -/
  , ⟨0x400, 16, 4, .rwh, 0, .c, 0xFFFFFFFF, []⟩ /- D0–D15 -/ ]

/-- The register table of R94, piece 1. -/
def regsEng1 : List RegRow :=
  [ ⟨0x440, 8, 0x10, .rwh, 0, .c, 0xFFFFFFFF, []⟩ /- ACCk [31:0] -/
  , ⟨0x444, 8, 0x10, .rwh, 0, .c, 0xFFFFFFFF, []⟩ /- ACCk [63:32] -/
  , ⟨0x448, 8, 0x10, .rwh, 0, .c, 0xFFFFFFFF, []⟩ /- ACCk [79:64] -/
  , ⟨0x4C0, 8, 4, .rwh, 0, .c, 0x1FFFF, []⟩ /- P0–P7 -/
  , ⟨0x4E0, 8, 4, .rwh, 0, .c, 0x1FFFF, []⟩ /- N0–N7 -/
  , ⟨0x500, 8, 4, .rwh, 0, .c, 0x7FFF, [⟨0, 15, 0, 16384⟩]⟩ /- W0–W7 -/
  , ⟨0x520, 8, 0x10, .rwh, 0, .c, 0xFFFFFFFF, []⟩ /- Gk GV -/
  , ⟨0x524, 8, 0x10, .rwh, 0, .c, 0xFFFFFFFF, []⟩ /- Gk GT -/
  , ⟨0x528, 8, 0x10, .rwh, 0, .c, 0xFFFFFFFF, []⟩ /- Gk GS -/
  , ⟨0x52C, 8, 0x10, .rwh, 0, .c, 0xFFFFFF, []⟩ /- Gk GC -/ ]

/-- The whole register table of the page. -/
def regsEng : List RegRow := regsEng0 ++ regsEng1

/-- The block registers of a kind of page; MACM is laid out as MACn (R290). -/
def regsOf : PageKind → List RegRow
  | .sys => regsSys
  | .pwr => regsPwr
  | .rst => regsRst
  | .avs => regsAvs
  | .sens => regsSens
  | .fuse => regsFuse
  | .boot => regsBoot
  | .gpio => regsGpio
  | .cpu => regsCpu
  | .aoc => regsAoc
  | .mtx => regsMtx
  | .pcie => regsPcie
  | .twb => regsTwb
  | .drc => regsDrc
  | .dphy => regsDphy
  | .esc => regsEsc
  | .sched => regsSched
  | .store => regsStore
  | .rtr => regsRtr
  | .gain => regsGain
  | .tdmg => regsTdmg
  | .tdm => regsTdm
  | .dec => regsDec
  | .mod => regsMod
  | .rail => regsRail
  | .thm => regsThm
  | .ref => regsRef
  | .dpll => regsDpll
  | .ptp => regsPtp
  | .mac => regsMac
  | .macm => regsMacm
  | .strm => regsStrm
  | .tsn => regsTsn
  | .crx => regsCrx
  | .stack => regsStack
  | .pair => regsPair
  | .eng => regsEng
  | .none => []

/-- Whether a row covers an offset. -/
def rowCovers (off : Nat) (r : RegRow) : Bool :=
  decide (r.off ≤ off) && (off - r.off) % r.stride == 0 && decide ((off - r.off) / r.stride < r.count)

/-- The row of an offset of a page: of the common head below 0x100, of the block above; none where reserved (R8). -/
def rowAt (page off : Nat) : Option RegRow :=
  if off < 0x100 then regsHead.find? (rowCovers off) else (regsOf (pageKind page)).find? (rowCovers off)

/-- The place of a register in the map: page and offset as in the register window (R380). -/
def rkey (page off : Nat) : Nat := page * 0x1000 + off

/-- The reset value of a register, with the values that depend on the page or the instance (R495, R208, R236, R238,
R260, R369, R420, R412). -/
def resetNat (page off : Nat) : Nat :=
  match rowAt page off with
  | none => 0
  | some r =>
    let i := (off - r.off) / r.stride
    match pageKind page with
    | .none => 0
    | k =>
      if off = 0 then page + kindBase k % 256 * 0x10000 + pageInst page * 0x1000000
      else if k = .cpu ∧ off = 0x104 then 0x8000000 + pageInst page * 0x100000
      else if k = .dec ∧ r.off = 0x200 then
        let n := pageInst page * 16 + i
        1 + 4 * (if n < 32 then 0 else if n < 64 then 1 else if n < 72 then 2 else 3)
      else if k = .mod ∧ r.off = 0x214 then
        let m := pageInst page * 8 + i
        m + 256 * (32 + m)
      else if k = .mod ∧ off = 0x110 ∧ pageInst page ≠ 0 then 0
      else if k = .rail ∧ r.off = 0x200 then 0x4001 + 0x100 * i
      else if k = .ref ∧ r.off = 0x200 then 0x8030 + 0x100 * i
      else if k = .drc ∧ r.off = 0x1C0 then
        (if i < 5 then 1000 else if i = 5 then 2000 else if i = 6 then 4000 else 8000)
      else if k = .pcie ∧ r.off = 0x800 ∧ i % 4 = 3 then 1
      else r.reset

/-- What an unlisted register reads as. -/
def resetWord (k : Nat) : Word := w32 (resetNat (k / 0x1000) (k % 0x1000))

/-- The retention class of a register; reserved offsets hold nothing and count as class A. -/
def retOf (k : Nat) : RetClass :=
  match rowAt (k / 0x1000) (k % 0x1000) with
  | some r => r.ret
  | none => .a

/-- A value after the limits of its fields (nearer limit stored). -/
def applyLimits : List FieldLimit → Nat → Nat
  | [], n => n
  | l :: ls, n =>
    applyLimits ls (putBits n (l.lo + l.width - 1) l.lo (clampN l.mn l.mx (bitsN n (l.lo + l.width - 1) l.lo)))

end Sys2Proof.Machine
end

