-- ==== Sys2Proof/Machine/SMap.lean ====
section
/-! DEFINITION. The operations of a sparse collection in canonical form. -/

namespace Sys2Proof.Machine

/-- What the key k reads as: its entry, or the default of an unlisted key. -/
def smapGet {α : Type} (d : Nat → α) : SMap α → Nat → α
  | [], k => d k
  | (i, v) :: m, k => if i = k then v else smapGet d m k

/-- Put an entry at its place in the rising order, over an entry of the same key. -/
def smapPut {α : Type} : SMap α → Nat → α → SMap α
  | [], k, v => [(k, v)]
  | (i, w) :: m, k, v =>
    if k < i then (k, v) :: (i, w) :: m
    else if k = i then (k, v) :: m
    else (i, w) :: smapPut m k v

/-- Remove the entry of a key. -/
def smapDel {α : Type} : SMap α → Nat → SMap α
  | [], _ => []
  | (i, w) :: m, k => if i = k then smapDel m k else (i, w) :: smapDel m k

/-- Write v at k. Writing what an unlisted key reads as removes the entry, so equal collections are equal data. -/
def smapSet {α : Type} [DecidableEq α] (d : Nat → α) (m : SMap α) (k : Nat) (v : α) : SMap α :=
  if v = d k then smapDel m k else smapPut m k v

/-- Keep the entries whose keys satisfy p. -/
def smapKeep {α : Type} (p : Nat → Bool) (m : SMap α) : SMap α := m.filter (fun e => p e.1)

/-- Every key of the list is above b, and the keys rise strictly. -/
def smapRising {α : Type} : Nat → SMap α → Bool
  | _, [] => true
  | b, (i, _) :: m => decide (b ≤ i) && smapRising (i + 1) m

/-- The canonical form: strictly rising keys and no entry equal to what an unlisted key reads as. -/
def smapWf {α : Type} [DecidableEq α] (d : Nat → α) (m : SMap α) : Bool :=
  smapRising 0 m && m.all (fun e => decide (e.2 ≠ d e.1))

/-- Apply f to the value at k. -/
def smapMod {α : Type} [DecidableEq α] (d : Nat → α) (m : SMap α) (k : Nat) (f : α → α) : SMap α :=
  smapSet d m k (f (smapGet d m k))

/-- The default of collections whose unlisted entries are zero words. -/
def zeroW : Nat → Word := fun _ => 0

/-- The default of collections whose unlisted entries are zero bytes. -/
def zeroB : Nat → Byte := fun _ => 0

/-- The default of collections of naturals. -/
def zeroN : Nat → Nat := fun _ => 0

end Sys2Proof.Machine
end

