-- ==== Sys2Proof/Machine/State.lean ====
section
/-! DEFINITION. The state of the TD9640 as plain data. Page registers are one map from a register's place (page and
offset) to its word; what no register shows is held in one structure per block. Collections are sparse maps in
canonical form. Each structure's defaults are its values at reset. -/

namespace Sys2Proof.Machine

/-- The last answer of the interconnect to a bus access: an error response or not (R7, R381, R499), and the bytes a
read delivered; or no answer yet, since the access waits (R143, R158, R368, R382, R385, R387). -/
structure Resp where
  err : Bool := false
  data : List Byte := []
  waits : Bool := false
  deriving DecidableEq, Repr

/-- The time base, chapter 12: the raw 500 MHz count (R295, modulo 2^64), OFFSET in units of 2^-16 ns (R296) and the
RATE in effect; a rate that takes effect at the next count, and the count of the last commit (R298, R307). -/
structure PtpSt where
  raw : Nat := 0
  offset : Int := 0
  rate : Nat := 2 ^ 41
  commit : Option Nat := none
  committed : Option Nat := none
  /-- An accepted step, which is applied at the next raw count (R299). -/
  step : Option Int := none
  deriving DecidableEq, Repr

/-- The pair unit (chapter 14) beside its page: ticks in CONVERGING (R344); compared ticks in a row that were misses
(R344); boundaries since the last frame with a valid header on the pair port, and whether one has arrived since the
unit was enabled (R339, R348); boundaries in a row at which PEER_ACT_IN was low, high, and at which pin and partner
disagreed; PIN_FAULT and LINK_LOST raised for the present spell. -/
structure PairSt where
  convTicks : Nat := 0
  missRun : Nat := 0
  silentTicks : Nat := 0
  heard : Bool := false
  actLowTicks : Nat := 0
  actHighTicks : Nat := 0
  pinBadTicks : Nat := 0
  pinTold : Bool := false
  linkLost : Bool := false
  /-- The sender ID of the partner's last header (R340). -/
  peerId : Nat := 0
  /-- A takeover, or an election win, that lands at the next release (R339, R349). -/
  takeoverDue : Bool := false
  /-- Own tallies not compared yet: tick, tally, own hold mark (R343). -/
  tallies : List (Nat × Nat × Nat) := []
  /-- The publication count, that a word has been published, and what was found in the health period (R345). -/
  healthSeq : Nat := 0
  healthSent : Bool := false
  failBist : Bool := false
  failMem : Bool := false
  /-- The outputs are dark behind the fence of R347 and R350. -/
  fenced : Bool := false
  /-- Later Carix frames carry STRIKE = 1 (R347). -/
  strikeSent : Bool := false
  /-- A BLOCK reset of the page holds ACT_OUT low until the unit enters a pair state again (R355). -/
  actHeld : Bool := false
  deriving DecidableEq, Repr

/-- The interconnect, chapter 16: the locked sequence that holds a target port (target index, master, word address),
and the reservation of each core (R382 to R384); the masters, or transaction IDs of a master, whose request is held
back, with the raw count at which it was (R385, R386). -/
structure MtxSt where
  lock : Option (Nat × Nat × Nat) := none
  resv0 : Option Nat := none
  resv1 : Option Nat := none
  held : List (Nat × Nat) := []
  deriving DecidableEq, Repr

/-- Control cores, boot, host port, fuses and debug lock, chapter 17, beside their pages' registers. -/
structure CtlSt where
  /-- The watchdog's TIME and WARN as loaded last, and whether WARN has been told since (R394, R395). -/
  wdTime : Nat := 0
  /-- What is left of it, in raw counts. -/
  wdLeft : Nat := 0
  wdWarn : Nat := 0
  wdWarned : Bool := false
  /-- The watchdog has expired and its reset is due (R394). -/
  wdExpired : Bool := false
  /-- The request count of debug challenges, class A (R416). -/
  dbgReqs : Nat := 0
  /-- The boot port: its data FIFO; bytes of a read that wait for room in it; bytes that a write still takes from it;
  what the last command sent to the flash; the bytes its hash unit has digested (R408). -/
  bootFifo : List Byte := []
  flashIn : List Byte := []
  flashOut : Nat := 0
  flashSent : List Byte := []
  hashBytes : List Byte := []
  /-- The ROM waits for HOST_GO (R405). -/
  hostWait : Bool := false
  /-- The physical fuse array (R414). -/
  fuses : SMap Word := []
  /-- PCIE_PERST_N is low (R477). -/
  perst : Bool := false
  /-- The MSI-X vectors a message was sent for, oldest first (R412). -/
  msixSent : List Nat := []
  /-- The levels that the outside drives on GPIO0 to GPIO15 (R424). -/
  gpioPins : Nat := 0
  /-- The level of the START pin after the edge that was captured last (R177, R193). -/
  startPin : Bool := false
  /-- Interrupts that DOORBELL has made to the AOC (R421). -/
  aocDoorbells : Nat := 0
  deriving DecidableEq, Repr

/-- An access that the two-wire target has issued and that is not complete: write or read, address, word written; the
word read goes nowhere, since its place on the bus has passed (R427 to R429). -/
structure TwbAcc where
  wr : Bool
  addr : Nat
  word : Nat
  dropped : Bool
  deriving DecidableEq, Repr

/-- The two-wire bus, chapter 18, beside page TWB: the controller's FIFO; the target's transaction: in progress, a
read, its pointer set in it, bytes NAKed up to its end; accesses issued, oldest first; words fetched and not sent; the
word sent last. The controller's command: 0 none, 1 waiting for the bus, 2 running, 3 waiting to retry; data bytes done
in a running one; retries left; the word of CMD that it was given with; the bytes it put on the bus. A match has asked for the wake in progress. -/
structure TwbSt where
  fifo : List Byte := []
  active : Bool := false
  rd : Bool := false
  ptrSet : Bool := false
  deaf : Bool := false
  acc : List TwbAcc := []
  ready : List Nat := []
  sent : Option Nat := none
  cmd : Nat := 0
  done : Nat := 0
  retries : Nat := 0
  op : Nat := 0
  bus : List Byte := []
  wakeMatch : Bool := false
  deriving DecidableEq, Repr

/-- The power sequencer, chapter 19, beside the registers of PWR and RST. -/
structure PwrSt where
  /-- The target mode of the sleep negotiation in progress (3 QUIET, 4 DORMANT), and the agents stopped so far. -/
  negTarget : Option Nat := none
  stopped : List Nat := []
  /-- Wake events pending or latched, as bits of WAKE_CAUSE (R448, R451). -/
  wakePending : Nat := 0
  /-- A resume from QUIET is in progress; a power-up from BOOT, and the mode it ends in, 1 or 5 (R444, R449). -/
  resuming : Bool := false
  powerUp : Option Nat := none
  /-- MAIN_EN as the sequencer drives it, and its supply VDDIO_TW is present; it has been low for 1 ms; a wake waits for
  the rails (R450, R451, R456, R481, R484). -/
  mainEn : Bool := true
  twUp : Bool := true
  lowTimeDone : Bool := false
  railWait : Bool := false
  /-- The ledger as DORMANT was entered, from which the sleep is counted (R306, R452). -/
  ledgerStop : Option Nat := none
  /-- Quadrants whose power-up has been asked for and is not complete, as a mask (R443). -/
  quadDue : Nat := 0
  /-- The AO domain, and the device, are released from a power-on reset (R483). -/
  aoReleased : Bool := true
  released : Bool := true
  deriving DecidableEq, Repr

/-- Monitors and scrubbers, chapter 20. -/
structure MonSt where
  /-- Sensors whose last reading was at or above TEMP_SHUT, rails whose last reading was outside, as masks (R471,
  R472). -/
  shutRun : Nat := 0
  supRun : Nat := 0
  /-- A temperature has been read since TEMP_MAX was cleared. -/
  tempSeen : Bool := false
  /-- The next word of the store and DRAM scrubbers, and of those of the AOC, CPU0 and CPU1 SRAMs (R468). -/
  storeScrub : Nat := 0
  dramScrub : Nat := 0
  aocScrub : Nat := 0
  cpu0Scrub : Nat := 0
  cpu1Scrub : Nat := 0
  deriving DecidableEq, Repr

/-- The states of an engine (R51), coded 0 to 6 in STATE. -/
inductive EngState
  | off | stopped | armed | running | detached | skipping | fault
  deriving DecidableEq, Repr

/-- One level of the loop stack: first and last instruction of the body, passes left (R69, R115). -/
structure Loop where
  start : Nat
  fin : Nat
  rem : Nat
  deriving DecidableEq, Repr

/-- One entry of the memory-port queue (R79, R82 to R87): direction, external byte address of each word, engine address
of each local word after redirection, due beat, the QoS at which its accesses are issued, and whether the transfer has
completed. -/
structure MpEntry where
  wr : Bool
  ext : List Nat
  loc : List Nat
  due : Nat
  qos : Nat := 12
  done : Bool
  deriving DecidableEq, Repr

/-- One Bareel engine: the architectural state of R50, its memories (R64: XM, YM, IB and OB by engine address, PM by
instruction), and where it stands in its tick. -/
structure Engine where
  st : EngState := .off
  d : SMap Word := []
  acc : SMap Int := []
  x0 : Word := 0
  x1 : Word := 0
  y0 : Word := 0
  y1 : Word := 0
  p : SMap Nat := []
  n : SMap Int := []
  w : SMap Nat := []
  sx : Nat := 0
  loops : List Loop := []
  gv : SMap Int := []
  gt : SMap Int := []
  gs : SMap Int := []
  gc : SMap Nat := []
  pc : Nat := 0
  mp : List MpEntry := []
  dm : SMap Word := []
  pm : SMap Nat := []
  /-- The low half of a PM word that waits for its high half (R93): the instruction and its half. -/
  pmLatch : Option (Nat × Nat) := none
  /-- Steps and END_BEATs executed in the tick; an END_BEAT that waits for its transfers (R54, R116). -/
  steps : Nat := 0
  ended : Nat := 0
  waiting : Bool := false
  /-- Ramp starts of GRAMP that wait for the end of the tick: unit, target, count (R74, R114). -/
  gramps : List (Nat × Int × Nat) := []
  /-- The block the router delivered for each output signal in the last tick without detachment (R32), those delivered
  in the tick in progress, and the output buffer as the previous tick left it (R156). -/
  hold : SMap (List Word) := []
  cand : SMap (List Word) := []
  obPrev : SMap Word := []
  /-- Started and not yet through a tick of its own: its outputs were 0 in the tick before (R32). -/
  fresh : Bool := false
  /-- Offsets of the parameter area written through the window since their group landed (R144), and the groups whose
  landing waits for the rejoin, as a mask (R15, R137). -/
  parWr : List Nat := []
  parDue : Nat := 0
  /-- The engine's last tick that it ran was an overrun (R35). -/
  ovrLast : Bool := false
  /-- The engine was armed from FAULT (R52). -/
  fromFault : Bool := false
  /-- A landed stop that takes effect at the next release, or at the rejoin (R53). -/
  stopDue : Bool := false
  /-- A landed start that takes effect at this release (R52). -/
  startDue : Bool := false
  /-- The scrubber's next word, and the next self-test slice (R346, R468). -/
  scrub : Nat := 0
  slice : Nat := 0
  deriving DecidableEq, Repr

/-- A region of a LAYOUT section (R126): base, length, writable, and the engine and slot it belongs to. -/
structure Region where
  base : Nat
  len : Nat
  wr : Bool
  owner : Option Nat
  slot : Nat
  deriving DecidableEq, Repr

/-- A schedule bank (R127): the image it holds, cold or seamless. B and the beat plan, the completion beat of each
engine output signal (R126), each engine's program, CONFIG words, register preset and proved steps, its claim map and
the layout. -/
structure Bank where
  valid : Bool := false
  id : Nat := 0
  kind : Nat := 0
  digest : List Byte := []
  fs : Nat := 0
  tcode : Nat := 0
  beats : Nat := 0
  margin : Nat := 0
  mask : Nat := 0
  dl : List Nat := []
  done : SMap Nat := []
  pm : SMap (SMap Nat) := []
  cfg : SMap (List Nat) := []
  preset : SMap (List (Nat × List Nat)) := []
  steps : SMap Nat := []
  claim : SMap (List Byte) := []
  layout : List Region := []
  deriving DecidableEq, Repr

/-- One entry of an image's section directory (R122). -/
structure Sect where
  type : Nat
  engine : Nat
  flags : Nat
  off : Nat
  len : Nat
  crc : Nat
  deriving DecidableEq, Repr

/-- A window write that is held for a hoisting group (R143, R387): engine, group, offset in the copy and word; the window
offset at which its access began, the master, the channel in which its response stays in order, whether another word of
the access was refused, and whether the response is discarded (R389). -/
structure HeldWrite where
  nn : Nat
  g : Nat
  o : Nat
  v : Word
  win : Nat
  mid : Nat
  chan : Option Nat
  err : Bool := false
  lost : Bool := false
  deriving DecidableEq, Repr

/-- A staged write of RT_DATA that is held (R158, R387): index, value, master, the channel of its response, and whether
the response is discarded. -/
structure HeldRt where
  d : Nat
  v : Nat
  mid : Nat
  chan : Option Nat
  lost : Bool := false
  deriving DecidableEq, Repr

/-- The schedule loader and the hoister (chapter 5) beside page SCHED: the banks; the source of the load in progress,
the image as pass 1 has read it, its directory and the next section of pass 2; the landing tick of the pending request
(R134); the staged registers as the request that carries REGS found them, and the staged values in effect (R5); groups
whose copy-forward runs (engine and group); window writes held for it (R143). -/
structure SchedSt where
  a : Bank := {}
  b : Bank := {}
  src : Nat := 0
  srcLen : Nat := 0
  img : List Byte := []
  dir : List Sect := []
  sec : Nat := 0
  landTick : Nat := 0
  snap : Option (SMap Word) := none
  eff : SMap Word := []
  copyFwd : List (Nat × Nat) := []
  held : List HeldWrite := []
  deriving DecidableEq, Repr

/-- A generator's state (R151): phase, noise register, impulse counter. -/
structure Gen where
  phase : Nat := 0
  noise : Nat := 0
  imp : Nat := 0
  deriving DecidableEq, Repr

/-- A pending soft switch (R160, R161): old and new source, ticks counted, the last samples searched. -/
structure SoftSw where
  old : Option Nat
  new : Option Nat
  count : Nat
  last : Option (Word × Word)
  deriving DecidableEq, Repr

/-- The router (chapter 6): three physical route banks in one map by bank and destination, which of them is L, S
and I; generators; pending soft switches by destination; staged writes held (R158), and how many of them were held when
the request that is pending was written; the scrubber's next entry. -/
structure RtrSt where
  tbl : SMap Nat := []
  live : Nat := 0
  staged : Nat := 1
  image : Nat := 2
  gens : SMap Gen := []
  sw : List (Nat × SoftSw) := []
  held : List HeldRt := []
  heldMark : Nat := 0
  scrub : Nat := 0
  deriving DecidableEq, Repr

/-- The sample blocks at the edge of the signal plane, by signal number x 32 + sample: port blocks being collected, the
blocks of the boundaries whose tick is not released yet, oldest first, the input blocks of the tick in the fabric, the
blocks delivered to output-port destinations in this tick, and the blocks the ports took at the last release (R25).
ahead: words that a target group hands over in a later tick (R180): absolute sample position, port, slots. -/
structure SigSt where
  next : SMap Word := []
  ahead : List (Nat × Nat × List Word) := []
  due : List (SMap Word) := []
  cur : SMap Word := []
  dest : SMap Word := []
  taken : SMap Word := []
  /-- The blocks taken at the last releases, by tick, latest first: the outputs present them a sample period later. -/
  hist : List (Nat × SMap Word) := []
  /-- The tick of the first release after the last QUIET: transmit streams form no packets of positions before it
  (R287). -/
  since : Nat := 0
  deriving DecidableEq, Repr

/-- One direction of a serial audio port (R186): state as coded in STATE, consecutive faulted frames, next ramp
sample, consecutive good frames, the sample v of each slot from which the ramp-out goes, and the samples delivered
last. -/
structure Dir where
  ph : Nat := 0
  run : Nat := 0
  i : Nat := 0
  good : Nat := 0
  v : List Word := []
  last : List Word := []
  deriving DecidableEq, Repr

/-- A serial audio port beside its page (chapter 7): both directions; the frame completed for the group frame in
progress; consecutive frames outside tolerance (R184); group frames without an FSYNC, and whether one was seen; the
last periods in units of 2 ns; the input frames delivered lately, by start, for the bypass (R165); the slots sent
last, absent where SDO floats (it floats whole while the port does not run); a stop at the end of the frame; the tick
after which a landed start begins; the tick of the first blocks taken after the start (R177); events of the ramps that
are due (direction x 4 + event); the bypass sources of the slots, and MUTE, as the frame in progress carries them
(R166, R189); the media-sample position of the next frame of an ungrouped port (R182). -/
structure TdmPort where
  inD : Dir := {}
  outD : Dir := {}
  got : Option (List Word) := none
  bad : Nat := 0
  miss : Nat := 0
  seen : Bool := false
  periods : List Nat := []
  hist : List (Nat × List Word) := []
  sdo : List (Option Nat) := []
  stopDue : Bool := false
  landTick : Nat := 0
  since : Nat := 0
  due : List Nat := []
  byps : List (Option Nat) := []
  muted : Bool := false
  next : Nat := 0
  deriving DecidableEq, Repr

/-- How a group frame acts on the members: normally, or with a slip (R181). -/
inductive Slip
  | none | fast | slow
  deriving DecidableEq, Repr

/-- An alignment group beside page TDMG: the media-sample position of its next frame, counted from boundary 0; the
tick of the arming; a START edge captured since (R177); the positions by which a target group hands over input later
and takes output earlier than a controller group (R180); a slip that is due with the next frame (R187). -/
structure TdmGrp where
  next : Nat := 0
  armTick : Nat := 0
  edge : Bool := false
  inOfs : Nat := 0
  outOfs : Nat := 0
  slip : Slip := .none
  deriving DecidableEq, Repr

/-- The Escapement (chapter 2) beside page ESC: a tick is in the fabric, and its number; transfers done in it; an
overrun in this tick, and that the loop has stepped for it; fabric overruns of the tick before and of this one; a
histogram clear that waits for the next boundary, and the first tick counted after the last one; the held engines of
the tick (R39). -/
structure EscSt where
  tickOpen : Bool := false
  running : Nat := 0
  xfers : Nat := 0
  ovrInTick : Bool := false
  stepInTick : Bool := false
  fabOvrPrev : Bool := false
  fabOvrNow : Bool := false
  histClr : Bool := false
  histFrom : Nat := 0
  holdMask : Nat := 0
  /-- The hold mark of the tick whose tally was computed last (R39). -/
  holdLast : Nat := 0
  /-- The raw count at the last boundary. -/
  tickRaw : Option Nat := none
  deriving DecidableEq, Repr

/-- The voltage loop (chapter 2) beside page AVS: started, armed for the next entry to RUN or SHADOW; ticks in the
window and its lowest slack fraction, a window open; a restart at the next boundary; ticks of holdoff left, and
that they have run out; the transaction in progress (value, retries left) and a newer value waiting behind it; SETTLE
after the last acknowledged command had not passed when that transaction began; the last acknowledged voltage and
the regulator's output, in mV. -/
structure AvsSt where
  started : Bool := false
  armed : Bool := false
  winCnt : Nat := 0
  winMin : Nat := 1024
  winOpen : Bool := false
  winAtBoundary : Bool := false
  holdoff : Nat := 0
  holdEnd : Bool := false
  txn : Option (Nat × Nat) := none
  queued : Option Nat := none
  settlePrev : Bool := false
  acked : Nat := 750
  regulator : Nat := 750
  deriving DecidableEq, Repr

/-- A decimation instance beside its registers (R198 to R205): captured bits, latest first; earlier values y, latest
first; outputs since the start; the value it delivers; in the stuck state. -/
structure DecSt where
  bits : List Bool := []
  ys : List Int := []
  outs : Nat := 0
  val : Word := 0
  stuck : Bool := false
  deriving DecidableEq, Repr

/-- A bridge channel beside its registers (R216 to R224): periods of the ramp done; the quantisers' errors in 2^-32
counts; over-current flags of the last periods, latest first; a shutdown in the present period; the fade (rising or
not, the sample index and fade count it started from); the last sample index used; sums of the impedance window, the
first position of the tick that is not in them, and whether the window counts; a retry that waits for the coil to cool;
the high counts of both pins in the present period, whether PWM_B is the complement of PWM_A in it, and whether
over-current has cut it short; CM_UP begins with the next switching period. -/
structure ModCh where
  i : Nat := 0
  eA : Int := 0
  eB : Int := 0
  oc : List Bool := []
  shutNow : Bool := false
  fadeUp : Bool := true
  fadeA : Int := 0
  fadeN : Nat := 0
  lastA : Int := 0
  zV : Nat := 0
  zI : Nat := 0
  zFrom : Nat := 0
  zOn : Bool := false
  cool : Bool := false
  wA : Nat := 0
  wB : Nat := 0
  compl : Bool := false
  cut : Bool := false
  upDue : Bool := false
  deriving DecidableEq, Repr

/-- A rail group beside its registers (R228 to R230): consecutive samples below and above the limits, LOW reported,
the quantiser's error in counts, and the high count of the present period. -/
structure RailSt where
  low : Nat := 0
  above : Nat := 0
  lowSent : Bool := false
  e : Rat := 0
  high : Nat := 0
  deriving DecidableEq, Repr

/-- A thermal channel beside its registers (R231 to R233): the two rises in 2^-16 degrees, the sums of the window and
its ticks, and a gain write that got an error response. -/
structure ThmSt where
  dTvc : Int := 0
  dTm : Int := 0
  tc : Int := 0
  svi : Int := 0
  sii : Int := 0
  cnt : Nat := 0
  err : Bool := false
  deriving DecidableEq, Repr

/-- Sense and drive, chapters 8 and 9: decimation instances, bridge channels, rail groups and thermal channels by
number; the blocks of the envelope sources by channel, each tick's latest first (R227). -/
structure DriveSt where
  dec : SMap DecSt := []
  ch : SMap ModCh := []
  rail : SMap RailSt := []
  thm : SMap ThmSt := []
  env : SMap (List (Nat × List Word)) := []
  deriving DecidableEq, Repr

/-- The monitor of a reference (R243 to R247): windows outside the reject limit in a row, and within the accept limit in
a row while active; the drift average in units of 2^-20 ppb; the signed difference from the output phase to the
reference, without REFn_DLY and PHASE_OFS, measured last, less the output's moves since (R255). -/
structure RefMon where
  bad : Nat := 0
  good : Nat := 0
  avg : Int := 0
  phase : Int := 0
  deriving DecidableEq, Repr

/-- References and DPLL (chapter 10) beside their pages: the monitors; evaluations with a conflict in a row, by pair
(8 x lower + higher); Carix ports whose reference is ineligible after a crown conflict, as a mask (R324); the valid
history belongs to the LOCK in progress; the output frequency in units of 2 x 10^-9 ppb, and its record in this LOCK,
by runs of raw counts, latest first (R253); the raw count at which the LOCK that gave the history ended; what is left
of the slew at the start of the tick in progress, and the part of it in that tick, in units of 1/28,224,000 ps (R255);
steps not completed, with the tick each is applied over (R256, R321); steps announced to the followers or relayed, by
port, crown, step and tick (R322); PNT3 is high; a change of the tick number due at the next boundary (R325). -/
structure DpllSt where
  mon : SMap RefMon := []
  conf : SMap Nat := []
  shut : Nat := 0
  histLive : Bool := false
  freq : Int := 0
  record : List (Int × Nat) := []
  histEnd : Nat := 0
  slew : Int := 0
  part : Int := 0
  steps : List (Int × Nat) := []
  announced : Bool := false
  sent : List (Nat × Nat × Int × Nat) := []
  pnt3 : Bool := false
  adopt : Option Int := none
  deriving DecidableEq, Repr

/-- A packet of a transmit stream (R280, R285): stream, queue, sequence number, timestamp, term, samples as sent, and
the frame with its FCS. -/
structure StrmPkt where
  strm : Nat
  queue : Nat
  seq : Nat
  stamp : Nat
  term : Option Nat
  samples : List Nat
  frame : List Byte
  deriving DecidableEq, Repr

/-- What a port is sending: the frame of a ring (ring and bytes, FCS included), or a stream's packet. -/
inductive TxItem
  | ring (q : Nat) (bytes : List Byte)
  | strm (p : StrmPkt)
  deriving DecidableEq, Repr

/-- A network port beside its page: stream packets queued, oldest first, and the frame in progress; no fault is
signalled (R265); LPI has ended and EEE_TW has not passed (R271); the credits of queues 5 and 6 in 10^-6 bit (R274). -/
structure MacSt where
  q : List StrmPkt := []
  tx : Option TxItem := none
  clean : Bool := false
  waking : Bool := false
  credit5 : Int := 0
  credit6 : Int := 0
  deriving DecidableEq, Repr

/-- The gate lists of a port (R273): admin and oper entries; base time in ns and cycle of the oper list. -/
structure GclSt where
  admin : SMap Word := []
  oper : SMap Word := []
  base : Nat := 0
  cycle : Nat := 0
  deriving DecidableEq, Repr

/-- A packet that belongs to a receive stream: sequence number, timestamp, term, samples by stream sample. -/
structure RxPkt where
  seq : Nat
  stamp : Nat
  term : Option Nat
  samples : List (List Nat)
  deriving DecidableEq, Repr

/-- A receive stream (R282 to R286): its sequence; packets accepted and not yet written, oldest first; positions held
in the buffer with the term of their packet; the next sequence number; ramp-outs and ramp-ins not reported. -/
structure RxStrm where
  d : Dir := {}
  pend : List RxPkt := []
  fill : List (Nat × Nat) := []
  seq : Option Nat := none
  outs : Nat := 0
  ins : Nat := 0
  deriving DecidableEq, Repr

/-- A transmit stream: packets formed, and the last position they cover, plus one (R280). -/
structure TxStrm where
  count : Nat := 0
  next : Nat := 0
  deriving DecidableEq, Repr

/-- The network (chapter 11): ports 0 to 3 and MACM as 4; gate lists by port; streams by number; descriptor words and
counters by (256 x direction + stream) x 16 + word. -/
structure NetSt where
  mac : SMap MacSt := []
  gcl : SMap GclSt := []
  rx : SMap RxStrm := []
  tx : SMap TxStrm := []
  desc : SMap Word := []
  cnt : SMap Word := []
  deriving DecidableEq, Repr

/-- A frame that a Carix port sent last (R312, R313): header, audio words, tunnel blocks, trailer CRC. -/
structure CrxSent where
  hdr : List Byte
  audio : List Word
  tun : List Nat
  crc : Nat
  deriving DecidableEq, Repr

/-- A Carix port (chapter 13) beside its page: its receive sequence; aligned frames in the buffer (TICK, CH, audio);
round trips of the last frames in ps, latest first; own departures by TICK, and the last arrival (TICK), in sixteenths
of the raw count; what the last valid header said: marker valid, TICK minus own tick number, HOPS, PATH, crown ID;
tunnel packets that wait to be sent, and received ones that wait, oldest first; the frame sent last; ramp-outs not
reported. -/
structure CrxPort where
  d : Dir := {}
  frames : List (Nat × Nat × List Word) := []
  rts : List Int := []
  dep : List (Nat × Nat) := []
  arr : Option (Nat × Nat) := none
  mark : Bool := false
  diff : Int := 0
  hops : Nat := 0
  path : Nat := 0
  crown : Nat := 0
  txq : List (List Nat) := []
  inbox : List (List Nat) := []
  sent : Option CrxSent := none
  outs : Nat := 0
  /-- RA_CTL as it was when the outstanding remote access was sent (R326). -/
  req : Nat := 0
  deriving DecidableEq, Repr

/-- The memory controller (chapter 15) beside its page: the state a frequency change returns to; the memory was put into
self-refresh by a reset and keeps its content; the INIT in progress exits self-refresh (R374); the probe in progress
(mode, first offset of its burst); the range being filled; requests waiting at the ports, oldest first, with their
urgency; open rows by bank; postponed refreshes by bank; the mode registers of the memory's two frequency set points, by
set, rank, channel and number (R367). -/
structure DrcSt where
  prev : Nat := 0
  retained : Bool := false
  keep : Bool := false
  probe : Option (Nat × Nat) := none
  fill : Option (Nat × Nat) := none
  reqs : List (DramReq × Nat) := []
  rows : SMap Nat := []
  postponed : SMap Nat := []
  mr : SMap Nat := []
  deriving DecidableEq, Repr

/-- The machine. -/
structure State where
  /-- The commands that wait, first in, first out. -/
  pending : List Instr := []
  /-- The page registers: an unlisted one reads as its reset value (R6). -/
  regs : SMap Word := []
  /-- The values latched for _HI reads (R9), by the _HI register's place. -/
  hiLatch : SMap Word := []
  /-- The byte memories of the system address space (R380). -/
  mem : List Host.Cell := []
  /-- Memory words with bit errors, by system address: 1 correctable, 2 uncorrectable (R89, R90, R372, R469). -/
  ecc : SMap Nat := []
  resp : Resp := {}
  /-- The engines: an unlisted one is as its reset leaves it. -/
  eng : SMap Engine := []
  sched : SchedSt := {}
  rtr : RtrSt := {}
  sig : SigSt := {}
  tdm : SMap TdmPort := []
  grp : SMap TdmGrp := []
  esc : EscSt := {}
  avs : AvsSt := {}
  drive : DriveSt := {}
  dpll : DpllSt := {}
  net : NetSt := {}
  /-- The Carix ports: an unlisted one is as its reset leaves it. -/
  crx : SMap CrxPort := []
  dram : DrcSt := {}
  ptp : PtpSt := {}
  pair : PairSt := {}
  mtx : MtxSt := {}
  ctl : CtlSt := {}
  pwr : PwrSt := {}
  mon : MonSt := {}
  twb : TwbSt := {}
  /-- The number of free values used so far: the model's own field, not the specification's. -/
  freeCtr : Nat := 0
  deriving DecidableEq, Repr

/-- No command of the block ends in a fault: refused accesses and errors are effects on the state. -/
inductive Fault
  /-- Raised by no command. Safe: it stops the machine where nothing is known. -/
  | unreachable
  deriving DecidableEq, Repr

/-- Why a command is turned away by the model itself. -/
inductive Refusal
  /-- Raised by Dispatch alone, for a command without a meaning yet. Safe: nothing happens. -/
  | notModelled (mnemonic : String)
  deriving DecidableEq, Repr

/-- The machine right after reset: every register at its reset value, nothing queued, memories empty. -/
def State.reset : State := {}

end Sys2Proof.Machine
end

