-- ==== Sys2Proof/Machine/Ops.lean ====
section
/-! DEFINITION. The named operations over registers, latches, memory and time that every family shares. -/

namespace Sys2Proof.Machine

/-- The outcome of a command: always a next state in this block. -/
abbrev Out := Host.Outcome State Fault Refusal

/-- Apply f where the event's condition holds; otherwise no such event, and nothing changes (log entry 7).
DESIGN CHOICE. -/
def onlyIf (c : Bool) (f : State → State) (s : State) : State := if c then f s else s

/-- Apply f for each element in turn. -/
def forEach {α : Type} (l : List α) (f : α → State → State) (s : State) : State :=
  l.foldl (fun st a => f a st) s

/-! ## Registers -/

/-- The value a register holds. -/
def State.rg (s : State) (page off : Nat) : Nat := (smapGet resetWord s.regs (rkey page off)).toNat

/-- A register set by hardware. -/
def State.setRg (s : State) (page off v : Nat) : State :=
  { s with regs := smapSet resetWord s.regs (rkey page off) (w32 v) }

/-- A field [hi:lo] of a register. -/
def State.fld (s : State) (page off hi lo : Nat) : Nat := bitsN (s.rg page off) hi lo

/-- A bit of a register. -/
def State.bit (s : State) (page off i : Nat) : Bool := s.fld page off i i == 1

/-- A field set by hardware. -/
def State.setFld (s : State) (page off hi lo v : Nat) : State := s.setRg page off (putBits (s.rg page off) hi lo v)

/-- A bit set or cleared by hardware. -/
def State.setBit (s : State) (page off i : Nat) (b : Bool) : State := s.setFld page off i i (b2n b)

/-- Bits set in a register, others kept. -/
def State.orRg (s : State) (page off m : Nat) : State := s.setRg page off (s.rg page off ||| m)

/-- A 32-bit counter that saturates, raised by k. -/
def State.addSat (s : State) (page off k : Nat) : State := s.setRg page off (satAdd32 (s.rg page off) k)

/-- A counter that saturates, raised by one. -/
def State.inc (s : State) (page off : Nat) : State := s.addSat page off 1

/-- The 64-bit value of a pair of registers. -/
def State.rg64 (s : State) (page lo hi : Nat) : Nat := s.rg page lo + 2 ^ 32 * s.rg page hi

/-- A pair of registers set by hardware; the latch of R9 is not loaded. -/
def State.setRg64 (s : State) (page lo hi v : Nat) : State := (s.setRg page lo v).setRg page hi (v / 2 ^ 32)

/-- A register read as a signed word. -/
def State.rgS (s : State) (page off : Nat) : Int := toSigned 32 (s.rg page off)

/-- A register set to a signed value in two's complement. -/
def State.setRgS (s : State) (page off : Nat) (i : Int) : State := s.setRg page off (ofSigned 32 i)

/-- A value as a register stores it: its reserved bits 0, its limited fields at the nearer limit. -/
def regValue (page off v : Nat) : Nat :=
  match rowAt page off with
  | some r => applyLimits r.limits (v &&& r.mask)
  | none => 0

/-- A value stored in a register without a behaviour of its own. -/
def State.putReg (s : State) (page off v : Nat) : State := s.setRg page off (regValue page off v)

/-- The reset value of every register of a page that satisfies p is restored. -/
def State.clearRegs (s : State) (p : Nat → Bool) : State :=
  { s with regs := smapKeep (fun k => !p k) s.regs, hiLatch := smapKeep (fun k => !p k) s.hiLatch }

/-! ## The bus response -/

/-- The access completes with a normal response. -/
def State.ok (s : State) : State := { s with resp := { err := false, data := [] } }

/-- The access completes with an error response; a read delivers 0. -/
def State.errResp (s : State) : State := { s with resp := { err := true, data := [] } }

/-- The access has no answer yet (R387). -/
def State.wait (s : State) : State := { s with resp := { waits := true } }

/-- A read completes and delivers bytes. -/
def State.deliver (s : State) (bs : List Byte) : State := { s with resp := { err := false, data := bs } }

/-- The word that a core's reservation holds (R384). -/
def State.resv (s : State) (core : Nat) : Option Nat := if core = 0 then s.mtx.resv0 else s.mtx.resv1
def State.setResv (s : State) (core : Nat) (r : Option Nat) : State :=
  { s with mtx := if core = 0 then { s.mtx with resv0 := r } else { s.mtx with resv1 := r } }

/-- An access of a master ends with an error response: on a core that is an exception, which clears its reservation
(R384). -/
def State.errFor (s : State) (mid : Nat) : State := if mid < 2 then (s.setResv mid none).errResp else s.errResp

/-! ## Byte memories -/

/-- The byte at a system address. -/
def State.byte (s : State) (a : Nat) : Byte := smapGet zeroB s.mem a

/-- A byte stored at a system address. -/
def State.setByte (s : State) (a : Nat) (b : Byte) : State := { s with mem := smapSet zeroB s.mem a b }

/-- The n bytes from a system address on. -/
def State.bytes (s : State) (a n : Nat) : List Byte := (List.range n).map (fun i => s.byte (a + i))

/-- The little-endian value of the n bytes from a system address on (log entry 3). DEDUCED. -/
def State.le (s : State) (a n : Nat) : Nat := ofLE (s.bytes a n)

/-- Bytes stored from a system address on. -/
def State.store (s : State) (a : Nat) (bs : List Byte) : State :=
  { s with mem := (List.range bs.length).foldl (fun m i => smapSet zeroB m (a + i) (bs.getD i 0)) s.mem }

/-- A value stored in n bytes, least significant first. -/
def State.storeLE (s : State) (a n v : Nat) : State := s.store a (toLE n v)

/-- The bytes of a range of system addresses are removed: they read as 0 again. -/
def State.eraseMem (s : State) (p : Nat → Bool) : State :=
  { s with mem := smapKeep (fun k => !p k) s.mem, ecc := smapKeep (fun k => !p k) s.ecc }

/-- The error mark of the memory word that holds an address, words being g bytes: 0, 1 correctable,
2 uncorrectable. -/
def State.eccAt (s : State) (g a : Nat) : Nat := smapGet zeroN s.ecc (a - a % g)

/-- The error mark of a memory word set. -/
def State.setEcc (s : State) (g a k : Nat) : State := { s with ecc := smapSet zeroN s.ecc (a - a % g) k }

/-- Bit errors that memories have taken since the last command, by word address (the outside world's part). -/
def State.upset (s : State) (us : List (Nat × Nat)) : State :=
  { s with ecc := us.foldl (fun m u => smapSet zeroN m u.1 (u.2 % 3)) s.ecc }

/-! ## Free values -/

/-- The next free word (R416 and the values the specification leaves open). -/
def State.fresh (s : State) : Word × State := (Config.freeWord s.freeCtr, { s with freeCtr := s.freeCtr + 1 })

/-! ## Time -/

/-- The time in units of 2^-16 ns (R296), at the raw count r. -/
def tqAt (p : PtpSt) (r : Nat) : Int := p.offset + ((r * p.rate / 2 ^ 24 : Nat) : Int)

/-- The present time in units of 2^-16 ns (R296). -/
def State.tq (s : State) : Int := tqAt s.ptp s.ptp.raw

/-- The quality code of the time (R300). -/
def State.timeQual (s : State) : Nat := s.fld pgPtp Off.ptpSTAT 1 0

/-- Seconds, nanoseconds and the fraction of a time (R296). -/
def tqSec (t : Int) : Nat := (t / (10 ^ 9 * 2 ^ 16)).toNat % 2 ^ 48
def tqNs (t : Int) : Nat := (t / 2 ^ 16 % 10 ^ 9).toNat
def tqFrac (t : Int) : Nat := (t % 2 ^ 16).toNat

/-- The capture form of a time with its quality (R297). -/
def captureForm (t : Int) (q : Nat) : Nat := (tqSec t * 10 ^ 9 + tqNs t) % 2 ^ 62 + q * 2 ^ 62

/-- The tick number (R26). -/
def State.tick (s : State) : Nat := s.rg64 pgEsc Off.escTICK_LO Off.escTICK_HI

/-- A boundary has been placed whose tick is not released yet. -/
def State.boundaryDue (s : State) : Bool := !s.sig.due.isEmpty

/-- The tick that is released next: that of the oldest boundary not released yet, or of the next boundary. -/
def State.relTick (s : State) : Nat := s.tick + 1 - s.sig.due.length

/-- T, the samples of a tick (R122: TCODE). -/
def State.T (s : State) : Nat := 2 ^ s.fld pgSched Off.schedRATE 5 3

/-- Fs in Hz (R122: FS). -/
def fsHz : Nat → Nat
  | 0 => 44100 | 1 => 48000 | 2 => 88200 | 3 => 96000 | 4 => 176400 | _ => 192000

/-- The sample rate in effect. -/
def State.fs (s : State) : Nat := fsHz (s.fld pgSched Off.schedRATE 2 0)

/-! ## Modes and domains -/

/-- The mode in effect, coded as PWR.MODE (R457). -/
def State.mode (s : State) : Nat := s.fld pgPwr Off.pwrMODE 2 0

/-- The modes in which the fabric runs. -/
def State.running (s : State) : Bool := s.mode == 1 || s.mode == 2 || s.mode == 5

/-- Bit i of PWR.DOMAINS: the domain is powered (R457). -/
def State.domain (s : State) (i : Nat) : Bool := s.bit pgPwr Off.pwrDOMAINS i

/-- The bit of PWR.DOMAINS of a page's own domain (R442, R496). -/
def domainOf (page : Nat) : Nat :=
  match pageKind page with
  | .pwr | .rst | .aoc => 0
  | .mac | .macm | .strm | .tsn => 2
  | .crx => 3
  | .drc | .dphy => 4
  | .rtr | .gain => 5
  | .eng => 6 + pageInst page / 8
  | .mod | .rail | .thm => 10
  | _ => 1

/-- Sleep agent a has stopped its domain in the negotiation in progress (R447). -/
def State.agentStopped (s : State) (a : Nat) : Bool := s.pwr.stopped.contains a

/-- The sleep agent of a domain, by its bit of PWR.DOMAINS (R447). -/
def agentOf (d : Nat) : Nat :=
  match d with
  | 10 => 0 | 9 => 1 | 8 => 2 | 7 => 3 | 6 => 4 | 5 => 5 | 4 => 6 | 2 => 7 | 3 => 8 | _ => 9

/-- Agent a stops its domain for a target mode: NET and CRX do so for DORMANT alone (R448). -/
def State.agentOff (s : State) (a : Nat) : Bool :=
  s.agentStopped a && (!(a == 7 || a == 8) || s.pwr.negTarget == some 4)

/-- A domain works: it is powered, and its agent has not stopped it (R442, R447, R453). -/
def State.works (s : State) (d : Nat) : Bool := s.domain d && !s.agentOff (agentOf d)

/-- The page's block is enabled (R397). -/
def State.pageEn (s : State) (page : Nat) : Bool := s.bit page Off.headPAGE_CTL 0

/-- The latch of a register. -/
def State.latch (s : State) (page off : Nat) : Nat := (smapGet resetWord s.hiLatch (rkey page off)).toNat
def State.setLatch (s : State) (page off v : Nat) : State :=
  { s with hiLatch := smapSet resetWord s.hiLatch (rkey page off) (w32 v) }

/-- The page is locked (R399). -/
def State.pageLocked (s : State) (page : Nat) : Bool := s.bit page Off.headPAGE_CTL 2

/-- The Escapement places boundaries and releases no tick: in BOOT, where the fabric is not powered (R26, R442), in
QUIET, and once a fabric agent has stopped in the negotiation of a sleep (R45, R448). -/
def State.fabStopped (s : State) : Bool := s.mode == 0 || s.mode == 3 || s.pwr.stopped.any (fun a => decide (1 ≤ a) && decide (a ≤ 4))

/-! ## Bus addresses and types -/

/-- The system address of a register (R380). -/
def regAddr (page off : Nat) : Nat := 0x40000000 + page * 0x1000 + off

/-- The size code of ERR_TYPE (R463). -/
def sizeCode (n : Nat) : Nat := if n = 1 then 0 else if n = 2 then 1 else if n = 4 then 2 else 3

/-- ERR_TYPE of an access (R463). -/
def accType (write fetch locked : Bool) (size : Nat) : Nat :=
  b2n write + 2 * b2n fetch + 4 * b2n locked + 16 * sizeCode size

/-- Master IDs of R464. -/
abbrev midLoader : Nat := 0x06
abbrev midRouter : Nat := 0x30
abbrev midStream : Nat := 0x31
abbrev midNone : Nat := 0xFF

/-- The master ID of an engine's memory port (R464). -/
def midEng (nn : Nat) : Nat := 0x10 + nn

end Sys2Proof.Machine
end

