-- ==== Sys2Proof/Machine/IntErr.lean ====
section
/-! DEFINITION. Interrupt flags and lines, MSI-X messages, and the error capture. -/

namespace Sys2Proof.Machine

/-- The domain of a page's block is gated in QUIET (R442, R498): RTR, GAIN, the engines, MOD, RAIL, THM, DRC, DPHY. -/
def State.gated (s : State) (page : Nat) : Bool :=
  s.mode == 3 && decide (4 ≤ domainOf page) && !s.domain (domainOf page)

/-- The block of a page raises events: it is neither held in reset (R397) nor gated (R498). -/
def State.raises (s : State) (page : Nat) : Bool := s.pageEn page && !s.gated page

/-! ## Interrupt lines (R400, R412) -/

/-- INT_STAT: INT_RAW AND INT_EN (R396). -/
def State.intStat (s : State) (page : Nat) : Nat := s.rg page Off.headINT_RAW &&& s.rg page Off.headINT_EN

/-- The page's interrupt line (R400). -/
def State.line (s : State) (page : Nat) : Bool := s.intStat page != 0

/-- The MSI-X vector of a page (R400). -/
def msixVector (page : Nat) : Nat := if 0x80 ≤ page then page - 0x80 + 0x60 else page

/-- One message of a vector, or its pending bit while the vector is masked (R412). A PCIE page held in reset has
neither (R397). -/
def State.msix (s : State) (v : Nat) : State :=
  if !s.pageEn pgPcie then s
  else if s.bit pgPcie (Off.pcieMSIX + 16 * v + 12) 0 then s.setBit pgPcie (Off.pciePBA + 4 * (v / 32)) (v % 32) true
  else { s with ctl := { s.ctl with msixSent := s.ctl.msixSent ++ [v] } }

/-- Hardware sets bits of INT_RAW; a line that rises sends a message (R412). A block held in reset or gated raises no
event (R397, R498). -/
def State.setInt (s : State) (page bits : Nat) : State :=
  if !s.raises page then s else
  let s' := s.orRg page Off.headINT_RAW bits
  if !s.line page && s'.line page then s'.msix (msixVector page) else s'

/-- Bit i of INT_RAW set by hardware. -/
def State.intBit (s : State) (page i : Nat) : State := s.setInt page (2 ^ i)

/-- A write of INT_RAW or INT_EN that leaves INT_STAT not 0 sends one message, also where it raises the line (R412). -/
def State.afterIntWrite (s : State) (page : Nat) : State :=
  if s.line page then s.msix (msixVector page) else s

/-! ## The pair state and pairing (R338, R339) -/

/-- The pair state (R338). -/
def State.pairState (s : State) : Nat := s.fld pgPair Off.pairSTATE 2 0

/-- Pairing is enabled (R339). -/
def State.pairEn (s : State) : Bool := s.bit pgPair Off.pairCTL 0

/-! ## The error capture (R463 to R466) -/

/-- The page's capture takes an error, or merges it (R463, R465). An error of a page that is held in reset is
discarded (R473), except that of a refused access, which enters through `captureAccess`. -/
def State.captureErr (s : State) (page cls addr master ty : Nat) : State :=
  let held := s.fld page Off.headERR_CLASS 1 0
  if held = 0 then
    let s := s.setRg page Off.headERR_CLASS cls
    let s := s.setRg page Off.headERR_ADDR_LO addr
    let s := s.setRg page Off.headERR_ADDR_HI (addr / 2 ^ 32 % 256)
    let s := s.setRg page Off.headERR_MASTER master
    let s := s.setRg page Off.headERR_TYPE ty
    let s := s.setRg64 page Off.headERR_TIME_LO Off.headERR_TIME_HI (captureForm s.tq s.timeQual)
    s.setRg page Off.headERR_MERGED 0
  else
    let s := s.setRg page Off.headERR_MERGED (min 15 (s.rg page Off.headERR_MERGED + 1))
    if held < cls then s.setRg page Off.headERR_CLASS cls else s

/-- An error of a page that is not Fatal: its INT_RAW bits and the capture (R462). A block held in reset or gated
raises no event (R397, R498). -/
def State.raise0 (s : State) (page cls bits addr master ty : Nat) : State :=
  if !s.raises page then s else (s.captureErr page cls addr master ty).setInt page bits

end Sys2Proof.Machine
end

