-- ==== Sys2Proof/Machine/RefSel.lean ====
section
/-! DEFINITION. References and their selection, the DPLL's states, and the media anchor (R242 to R253, R304, R323,
R324, R336). -/

namespace Sys2Proof.Machine

def monReset : Nat → RefMon := fun _ => {}
def State.refMon (s : State) (n : Nat) : RefMon := smapGet monReset s.dpll.mon n
def State.setRefMon (s : State) (n : Nat) (m : RefMon) : State :=
  { s with dpll := { s.dpll with mon := smapSet monReset s.dpll.mon n m } }

/-- A register of reference n. -/
def refOff (n o : Nat) : Nat := o + 0x40 * n
def State.refFld (s : State) (n o hi lo : Nat) : Nat := s.fld pgRef (refOff n o) hi lo

/-- Qualified, active, and the selected index (R260). -/
def State.refQual (s : State) (n : Nat) : Bool := s.bit pgRef Off.refQUAL_STAT n
def State.refActive (s : State) (n : Nat) : Bool := s.bit pgRef Off.refQUAL_STAT (8 + n)
def State.refSel (s : State) : Nat := s.fld pgRef Off.refSEL 2 0
def State.forced (s : State) : Bool := s.bit pgRef Off.refCTL 1

/-- Quality, in REFn_CFG.QUAL, and rank: quality before priority, lower is better (R249). -/
def State.refQuality (s : State) (n : Nat) : Nat := s.refFld n Off.refR_CFG 15 12
def State.refRank (s : State) (n : Nat) : Nat := 8 * s.refQuality n + s.refFld n Off.refR_CFG 10 8

/-- The device is a crown (R323). -/
def State.crown (s : State) : Bool := s.bit pgStack Off.stackROLE 0

/-- The pair port, 0 A or 1 B, and its reference (R334, R336). -/
def State.pairPort (s : State) : Nat := s.fld pgPair Off.pairCFG 0 0
def State.pairRef (s : State) : Nat := 5 + s.pairPort

/-- The device's ID. -/
def State.stackId (s : State) : Nat := s.fld pgStack Off.stackID 3 0

/-- The Carix ports beside their pages. -/
def crxReset : Nat → CrxPort := fun _ => {}
def State.crxPort (s : State) (n : Nat) : CrxPort := smapGet crxReset s.crx n
def State.setCrx (s : State) (n : Nat) (c : CrxPort) : State := { s with crx := smapSet crxReset s.crx n c }

/-- The unit is in CONVERGING, STANDBY, SUSPECT or STRUCK, in which it follows the pair port (R336). -/
def State.followsPair (s : State) : Bool := s.pairEn && decide (3 ≤ s.pairState)

/-- The device sends as a crown (R320, R336). -/
def State.sendsCrown (s : State) : Bool := s.crown && !s.followsPair

/-- The port that the device follows (R320, R332, R336). -/
def State.follows (s : State) : Option Nat :=
  if s.followsPair then some s.pairPort
  else if !s.crown && (s.refSel == 5 || s.refSel == 6) then some (s.refSel - 5)
  else none

/-- The crown ID that the device sends and follows: its own on a crown (R320). Without a followed port it sends 0 (log
entry 29). DESIGN CHOICE. -/
def State.crownId (s : State) : Nat :=
  if s.sendsCrown then s.stackId
  else match s.follows with
    | some p => (s.crxPort p).crown
    | none => 0

/-- Reference n may be selected: by the role and without a crown conflict on its port (R323, R324), or by the pair
state (R336). A reference that is selected stays through a conflict. -/
def State.eligible (s : State) (n : Nat) : Bool :=
  let byRole := if s.crown then decide (n < 5) else decide (5 ≤ n) && (!bitN s.dpll.shut (n - 5) || s.refSel == n)
  if s.pairEn then
    (if 3 ≤ s.pairState then n == s.pairRef else byRole && n != s.pairRef)
  else byRole

/-- The references that can be selected, and the best of them; 7 none (R250). -/
def State.candidates (s : State) : List Nat := (List.range 7).filter (fun n => s.refQual n && s.eligible n)
def State.bestRef (s : State) : Nat :=
  s.candidates.foldl (fun b n => if b = 7 ∨ s.refRank n < s.refRank b then n else b) 7

/-! ## Phase (R242, R255)

Phases are kept in units of 1/28,224,000 ps, in which the sample period is whole at every Fs. -/

def psUnit : Nat := 28224000

/-- The sample period. -/
def State.sampleU (s : State) : Nat := 10 ^ 12 * (psUnit / s.fs)

/-- What the difference to reference n is taken modulo on a switch; 0 where there is no modulo. -/
def State.phaseMod (s : State) (n : Nat) : Nat :=
  if n < 4 then (if s.refFld n Off.refR_CFG 2 1 = 1 then 100000 * psUnit else s.sampleU) else 0

/-- A difference reduced to the smallest magnitude; of two, the positive one (log entry 90). DESIGN CHOICE. -/
def reduceMod (m : Nat) (d : Int) : Int :=
  if m = 0 then d else let r := d % m; if m < 2 * r then r - m else r

/-- What the target of reference n lies from the phase that it gives, in ps: REFn_DLY at the balls (R242), and the
forward delay DLY + ASYM before the arrival of a marker (R318, R319). -/
def State.refShift (s : State) (n : Nat) : Int :=
  if n < 4 then s.rgS pgRef (refOff n Off.refR_DLY)
  else if n = 4 then 0
  else -(s.rgS (pgCrx + (n - 5)) Off.crxDLY + s.rgS (pgCrx + (n - 5)) Off.crxASYM)

/-- The signed difference from the output phase to the target of reference n: the phase measured last and the output's
moves since, the shift of its target, and PHASE_OFS with the steps whose tick has ended. -/
def State.phaseDiff (s : State) (n : Nat) : Int :=
  let done := s.dpll.steps.foldl (fun (x : Int) p => if p.2 < s.tick then x + p.1 else x) 0
  reduceMod (s.phaseMod n) ((s.refMon n).phase + (s.refShift n + s.rgS pgDpll Off.dpllPHASE_OFS + done) * psUnit)

/-- The output phase moves by d: every difference to a reference becomes smaller by d. -/
def State.movePhase (d : Int) (s : State) : State :=
  if d = 0 then s
  else forEach (List.range 7) (fun n s => s.setRefMon n { s.refMon n with phase := (s.refMon n).phase - d }) s

/-! ## The DPLL's states (R251 to R253) -/

def State.dpllState (s : State) : Nat := s.fld pgDpll Off.dpllSTATE 2 0
def State.histValid (s : State) : Bool := s.bit pgDpll Off.dpllSTATE 8
def State.slewing (s : State) : Bool := s.bit pgDpll Off.dpllSTATE 9
def State.refInUse (s : State) : Nat := s.fld pgDpll Off.dpllSTATE 6 4

/-- The number of raw counts in n seconds. -/
def rawSec (n : Nat) : Nat := n * 500000000

/-- The sum of the frequency over the n latest counts of a record, and the number of counts of a record. -/
def recordSum : Nat → List (Int × Nat) → Int
  | _, [] => 0
  | n, e :: l => e.1 * (min e.2 n : Nat) + recordSum (n - e.2) l
def recordLen (l : List (Int × Nat)) : Nat := (l.map (fun e => e.2)).sum

/-- The mean, in ppb, over the 60 s that end 1 s before the end of a record. -/
def holdMean (l : List (Int × Nat)) : Int :=
  ((recordSum (rawSec 61) l - recordSum (rawSec 1) l).tdiv (rawSec 60)).tdiv 500000000

/-- A value that moves towards another by at most r. -/
def approach (r : Nat) (x want : Int) : Int := x + clampI (-(r : Int)) r (want - x)

/-- One count of a record in runs. -/
def recordPut (x : Int) : List (Int × Nat) → List (Int × Nat)
  | [] => [(x, 1)]
  | e :: l => if e.1 = x then (x, e.2 + 1) :: l else (x, 1) :: e :: l

/-- What the loop asks for on reference n, in units of 2 x 10^-9 ppb. The output then leaves the target's frequency, the
one measured last, by at most PHASE_SLEW, and not at all while a slew takes that bound up (R254; log entry 90). -/
def State.loopWant (s : State) (n : Nat) : Int :=
  let target := s.rgS pgRef (refOff n Off.refR_OFFSET) * 500000000
  let lim : Nat := if s.slewing then 0 else s.fld pgDpll Off.dpllPHASE_SLEW 13 0 * 10 * 500000000
  clampI (target - lim) (target + lim) (Config.loopFreq (s.fld pgDpll Off.dpllCTL 1 0) s.ptp.raw
    (s.rgS pgRef (refOff n Off.refR_OFFSET)) ((s.phaseDiff n).tdiv psUnit))

/-- One period of the raw counter in the DPLL: the output frequency moves, by at most FREQ_RAMP, to the nominal one in
FREE and LOST, to the hold frequency in HOLD, and to what the loop asks for in ACQ and LOCK; LOCK is recorded (R251,
R253, R254). -/
def State.dpllCount (s : State) : State :=
  let want : Int := match s.dpllState with
    | 1 | 2 => s.loopWant s.refInUse
    | 3 => s.rgS pgDpll Off.dpllHOLD_FREQ * 500000000
    | _ => 0
  let f := approach (s.fld pgDpll Off.dpllFREQ_RAMP 19 0) s.dpll.freq want
  { s with dpll := { s.dpll with
      freq := f
      record := if s.dpllState = 2 then recordPut f s.dpll.record else s.dpll.record } }

/-- LOCK ends: the history of this LOCK stands, with its mean. Where commands have let LOCK last 61 s in fewer counts of
the model's time base, the part of the record that is missing is open: the mean is a free value (log entry 91). -/
def State.endLock (s : State) : State :=
  if s.dpllState = 2 ∧ s.dpll.histLive then
    let full := decide (rawSec 61 ≤ recordLen s.dpll.record)
    let mean := if full then ofSigned 32 (holdMean s.dpll.record) else s.fresh.1.toNat
    let s := if full then s else s.fresh.2
    { s with dpll := { s.dpll with histLive := false, histEnd := s.ptp.raw } }.setRg pgDpll Off.dpllHOLD_FREQ mean
  else s

/-- Raw counts since the end of the LOCK that gave the history. -/
def State.histElapsed (s : State) : Nat := if s.dpll.histLive then 0 else s.ptp.raw - s.dpll.histEnd

/-- Whole seconds until the history expires (R253, R262, R500). -/
def State.histLeft (s : State) : Nat := (rawSec (s.rg pgRef Off.refHOLD_LIMIT) - s.histElapsed) / rawSec 1

/-- A transition (R252). Entry to LOST is a Contained error; the strike it makes is `withLost`. -/
def State.dpllTo (st : Nat) (s : State) : State :=
  let s := (s.endLock.setFld pgDpll Off.dpllSTATE 2 0 st).intBit pgDpll 0
  let s := { s with dpll := { s.dpll with record := [] } }
  if st = 4 then s.raise0 pgDpll 2 2 (regAddr pgDpll 0) midNone 0 else s

/-- No reference is selected any more (R252). -/
def State.dpllUnsel (s : State) : State :=
  let s := s.setBit pgDpll Off.dpllSTATE 9 false
  if s.dpllState = 1 ∨ s.dpllState = 2 then
    (if s.histValid ∧ s.rg pgRef Off.refHOLD_LIMIT ≠ 0 then State.dpllTo 3 s else State.dpllTo 4 s)
  else s

/-- Reference n is selected: ACQ, and the phase difference is passed through by a slew, from the present output phase
(R252, R255, R257). -/
def State.dpllSel (n : Nat) (s : State) : State :=
  let s := { s with dpll := { s.dpll with slew := s.phaseDiff n } }
  (State.dpllTo 1 s).setBit pgDpll Off.dpllSTATE 9 true

/-! ## The media anchor (R304) -/

/-- The anchor for position a at the time tq: the multiple of T that places the media count nearest, ties to the
smaller. -/
def State.anchorAt (s : State) (a : Nat) (tq : Int) : Int :=
  let x := (tq - toSigned 32 (s.rg pgPtp Off.ptpMEDIA_OFS) * 2 ^ 16) * s.fs - (a * 10 ^ 9 * 2 ^ 16 : Nat)
  let u : Int := (s.T * 10 ^ 9 * 2 ^ 16 : Nat)
  let below : Int := (u - 2 * x) / (2 * u)
  below * (-(s.T : Int))

/-- The position whose period began at the last boundary, and the time at which it did. -/
def State.presentPos (s : State) : Nat := (s.tick + 1) * s.T
def State.presentTq (s : State) : Int := tqAt s.ptp (s.esc.tickRaw.getD s.ptp.raw)

/-- K is set at the first selection of reference 4 without an anchor. The present position is that whose period began at
the last boundary, at its instant: boundary k completes position k x T + T - 1 (R25). Before any boundary it is taken at
the present time (log entry 92). -/
def State.anchorSet (s : State) : State :=
  if s.bit pgPtp Off.ptpSTAT 3 || !s.pageEn pgPtp then s
  else
    let k := s.anchorAt s.presentPos s.presentTq
    (s.setRg64 pgPtp Off.ptpANCHOR_LO Off.ptpANCHOR_HI (ofSigned 64 k)).setBit pgPtp Off.ptpSTAT 3 true

/-- The signed difference from the output phase to the target of reference 4: the instant t(a + K) against that of the
present position a. While no anchor is valid K is the one that a selection would set (log entry 92). -/
def State.mediaPhase (s : State) : Int :=
  let k := if s.bit pgPtp Off.ptpSTAT 3 then toSigned 64 (s.rg64 pgPtp Off.ptpANCHOR_LO Off.ptpANCHOR_HI)
    else s.anchorAt s.presentPos s.presentTq
  let late := ((s.presentPos : Int) + k) * 10 ^ 9 * 2 ^ 16
    + (toSigned 32 (s.rg pgPtp Off.ptpMEDIA_OFS) * 2 ^ 16 - s.presentTq) * s.fs
  late * (1000 * psUnit : Nat) / (2 ^ 16 * s.fs : Nat)

/-- The anchor is invalidated (R305). -/
def State.dropAnchor (s : State) : State :=
  (s.setRg64 pgPtp Off.ptpANCHOR_LO Off.ptpANCHOR_HI 0).setBit pgPtp Off.ptpSTAT 3 false

/-! ## Selection (R250) -/

/-- Reference 4 is selected: K is set where none is valid, and the difference that is passed through is that to t(a + K)
(R304). -/
def State.mediaSel (s : State) : State :=
  let s := s.anchorSet
  s.setRefMon 4 { s.refMon 4 with phase := s.mediaPhase }

/-- The selected reference becomes n; 7 none. The drift average of n begins with its latest window (log entry 90). -/
def State.selectRef (n : Nat) (s : State) : State :=
  let old := s.refSel
  if n = old then s
  else
    let s := s.setRg pgRef Off.refSEL (n + 16 * old + 256 * b2n (s.forced && s.fld pgRef Off.refCTL 6 4 == n))
    let s := if old < 7 then s.setBit pgRef (refOff old Off.refR_STAT) 4 false else s
    let s := if n < 7 then (s.setBit pgRef (refOff n Off.refR_STAT) 4 true).setRefMon n
        { s.refMon n with avg := s.rgS pgRef (refOff n Off.refR_OFFSET) * 2 ^ 20 } else s
    if s.pageEn pgDpll then
      let s := { s with dpll := { s.dpll with pnt3 := true } }
      let s := ((s.inc pgDpll Off.dpllSWITCH_CNT).intBit pgDpll 2).setFld pgDpll Off.dpllSTATE 6 4 n
      if n < 7 then State.dpllSel n (if n = 4 then s.mediaSel else s) else s.dpllUnsel
    else s

/-- Rule 1: with nothing selected, the best reference is. -/
def State.autoSelect (s : State) : State := if s.refSel = 7 then State.selectRef s.bestRef s else s

/-- Rule 4: the selected reference is no longer qualified or eligible; forcing ends. -/
def State.reselect (s : State) : State :=
  let s := (s.setBit pgRef Off.refCTL 1 false).setBit pgRef Off.refSEL 8 false
  State.selectRef s.bestRef s

/-! ## Qualification (R242 to R245) -/

/-- The measurement window of reference n in ms; 0 for the reserved type. -/
def State.refWindow (s : State) (n : Nat) : Nat :=
  if n = 4 then 1000
  else if n < 4 then
    (match s.refFld n Off.refR_CFG 2 1 with | 2 => 16000 | 3 => 0 | _ => 100)
  else 100

/-- A word clock qualifies only at a rate of the family of Fs (R242): the codes of both families alternate (R122). -/
def State.familyOk (s : State) (n : Nat) : Bool :=
  decide (4 ≤ n) || s.refFld n Off.refR_CFG 2 1 != 0
    || s.refFld n Off.refR_CFG 6 4 % 2 == s.fld pgSched Off.schedRATE 2 0 % 2

/-- Reference n may qualify when it has been active for less than ms: enabled, active, QUAL_T reached, and at least one
window has ended in it, every one of them within the accept limit (R244). -/
def State.refReadyIn (s : State) (n ms : Nat) : Bool :=
  !s.refQual n && s.refActive n && s.refFld n Off.refR_CFG 0 0 == 1 && decide (s.refQuality n < 15) && s.familyOk n
    && decide (1 ≤ (s.refMon n).good) && s.refWindow n != 0
    && decide (s.refFld n Off.refR_TIMES 15 0 * 10 < ms)

/-- Reference n may qualify. The last window that did not lie within the limit, or the start of its activity, lies less
than good + 1 windows back. -/
def State.refReady (s : State) (n : Nat) : Bool := s.refReadyIn n (((s.refMon n).good + 1) * s.refWindow n)

/-- Reference n qualifies. -/
def State.qualify (n : Nat) (s : State) : State :=
  ((s.setBit pgRef Off.refQUAL_STAT n true).setBit pgRef (refOff n Off.refR_STAT) 3 true).intBit pgRef n

/-- The references for which QUAL_T has certainly passed qualify: they do so at this moment at the latest (R257). -/
def State.qualifyDue (s : State) : State :=
  forEach ((List.range 7).filter (fun n => s.refReadyIn n ((s.refMon n).good * s.refWindow n + 1))) State.qualify s

/-- Reference n is disqualified (R245). Where it is selected, what qualifies at the same moment counts in the selection
that follows (R257). -/
def State.disqualify (n : Nat) (s : State) : State :=
  if s.refQual n then
    let s := (s.setBit pgRef Off.refQUAL_STAT n false).setBit pgRef (refOff n Off.refR_STAT) 3 false
    let s := (s.inc pgRef (refOff n Off.refR_DISQ_CNT)).intBit pgRef (8 + n)
    let s := { s with dpll := { s.dpll with conf := smapKeep (fun k => k / 8 != n && k % 8 != n) s.dpll.conf } }
    if s.refSel = n then s.qualifyDue.reselect else s
  else s

/-- Eligibility has changed: a selected reference that is no longer eligible counts as disqualified (R323, R336). -/
def State.recheckRef (s : State) : State :=
  if s.refSel < 7 ∧ ¬ s.eligible s.refSel then s.reselect else s.autoSelect

end Sys2Proof.Machine
end

