-- ==== Sys2Proof/Machine/Flags.lean ====
section
/-! DEFINITION. The strike a Fatal error makes, the errors of pages, and the guards of register accesses. -/

namespace Sys2Proof.Machine

/-! ## The pair state, the fence and the strike -/

/-- ACT_OUT: high in ACTIVE, and in RUN when pairing is off (R335). -/
def State.actOut (s : State) : Bool :=
  s.pairState == 2 || (s.pairState == 0 && !s.pairEn && s.mode == 1 && !s.pair.actHeld)

/-- The shadow states, in which a unit's outputs are fenced by the mux: ELECT, CONVERGING, STANDBY, SUSPECT and
STRUCK (R338). -/
def State.inShadow (s : State) : Bool := s.pairState == 1 || s.pairState ≥ 3

/-- The pair state changes: STATE_CHG, RECOVERY, and the mode that follows it (R338, R357). The matches that lead out
of CONVERGING are counted from its entry (log entry 30). DEDUCED. -/
def State.setPairState (s : State) (st : Nat) : State :=
  let chg := s.pairState != st
  let s := s.setFld pgPair Off.pairSTATE 2 0 st
  let s := s.setBit pgPair Off.pairSTATE 3 (st == 1 || st == 3 || st == 5 || st == 6)
  let s := if s.mode == 1 || s.mode == 2 then
      s.setFld pgPwr Off.pwrMODE 2 0 (if st == 0 || st == 2 then 1 else 2) else s
  let s := { s with pair := { s.pair with convTicks := 0, missRun := 0, fenced := st == 6 } }
  let s := if chg && st == 3 then s.setRg pgPair Off.pairMATCH_RUN 0 else s
  if chg then (s.intBit pgPair 0).recheckRef else s

/-- Stream packets that have not been sent are discarded (R347). -/
def State.dropStreams (s : State) : State :=
  { s with net := { s.net with mac := s.net.mac.map (fun e => (e.1, { e.2 with q := [] })) |>.filter (fun e => e.2 != {}) } }

/-- The outputs go dark behind the fence of R347. -/
def State.fence (s : State) : State := { s.dropStreams with pair := { s.pair with fenced := true } }

/-- A strike, or the entry to STRUCK without one, for a cause of R347 on a page. A unit in ACTIVE strikes; causes 1
and 2 make a unit in another pair state STRUCK; a unit that is not in a pair, or is STRUCK already, stays
(R347, R460; log entry 8). DEDUCED. -/
def State.strike (s : State) (cause page : Nat) : State :=
  if s.pairState == 2 then
    let s := s.setRg pgPair Off.pairSTRIKE_CAUSE (cause + (if cause = 1 then page % 256 * 2 ^ 8 else 0) + 2 ^ 16)
    let s := s.fence
    let s := { s with pair := { s.pair with strikeSent := true, takeoverDue := false } }
    ((s.setPairState 6).inc pgPair Off.pairSTRIKE_CNT).intBit pgPair 1
  else if (cause == 1 || cause == 2) && s.pairState != 0 && s.pairState != 6 then
    let s := s.setRg pgPair Off.pairSTRIKE_CAUSE (cause + (if cause = 1 then page % 256 * 2 ^ 8 else 0) + 2 ^ 16)
    let s := s.fence
    let s := { s with pair := { s.pair with takeoverDue := false } }
    (s.setPairState 6).intBit pgPair 1
  else s

/-- An error of a page: its INT_RAW bits, the capture, and the strike where it is Fatal (R462, R470). A block held
in reset or gated raises no event (R397, R498). -/
def State.raiseErr (s : State) (page cls bits addr master ty : Nat) : State :=
  if !s.raises page then s
  else
    let s := (s.captureErr page cls addr master ty).setInt page bits
    if cls = 3 then s.strike 1 page else s

/-- f, and the strike that an entry to LOST makes (R252, R347). -/
def State.withLost (f : State → State) (s : State) : State :=
  let t := f s
  if s.dpllState ≠ 4 ∧ t.dpllState = 4 then t.strike 2 pgDpll else t

/-- An error of a page without an access: its address is the page's base (R463). -/
def State.pageErr (s : State) (page cls bit : Nat) (master : Nat := midNone) : State :=
  s.raiseErr page cls (2 ^ bit) (regAddr page 0) master 0

/-- A Contained error of a page caused by a register write of a master: the write's address and type (R463). -/
def State.writeErr (s : State) (page off mid bit : Nat) : State :=
  s.raiseErr page 2 (2 ^ bit) (regAddr page off) mid (accType true false false 4)

/-- A refused register access: an error response, and a Contained error of the page without an INT_RAW bit
(R7, R12, R397, R399, R462). -/
def State.refuseAccess (s : State) (page off mid : Nat) (write : Bool) (size : Nat) : State :=
  (s.captureErr page 2 (regAddr page off) mid (accType write false false size)).errFor mid

/-- The default target answers (R381): an error response, DEF_CNT, DEFAULT and a Contained error of MTX. -/
def State.defaultTarget (s : State) (addr mid : Nat) (write fetch : Bool) (size : Nat) : State :=
  ((onlyIf (s.pageEn pgMtx) (fun s => s.inc pgMtx Off.mtxDEF_CNT) s).raiseErr pgMtx 2 1 addr mid (accType write fetch false size)).errFor mid

/-- Firmware releases a capture (R466). -/
def State.releaseCapture (s : State) (page : Nat) : State :=
  let s := s.setRg page Off.headERR_CLASS 0
  let s := s.setRg page Off.headERR_ADDR_LO 0
  let s := s.setRg page Off.headERR_ADDR_HI 0
  let s := s.setRg page Off.headERR_MASTER 0
  let s := s.setRg page Off.headERR_TYPE 0
  let s := s.setRg64 page Off.headERR_TIME_LO Off.headERR_TIME_HI 0
  s.setRg page Off.headERR_MERGED 0

/-! ## Masters whose responses come in order (R385, R390) -/

/-- CPU0, CPU1, the AOC, both Carix tunnels, the engines' memory ports, the router and the stream buffers. -/
def inOrder (mid : Nat) : Bool := decide (mid ≤ 2) || mid == 7 || mid == 8 || (decide (0x10 ≤ mid) && decide (mid ≤ 0x31))

/-- The channel in which responses stay in issue order: a master that is in order, or a transaction ID of PCIe, XFER0,
XFER1 or the loader (R385, R386). -/
def chanOf (mid id : Nat) : Option Nat :=
  if inOrder mid then some mid else if 3 ≤ mid ∧ mid ≤ 6 then some (mid + 256 * (id + 1)) else none

/-- The target ports at which requests of a channel are outstanding: requests that wait at DRC, and writes that an
engine window or page RTR holds (R143, R158, R380). -/
def State.outPorts (s : State) (c : Nat) : List Nat :=
  (s.dram.reqs.filter (fun r => chanOf r.1.mid r.1.id == some c)).map (fun _ => 5)
  ++ (s.sched.held.filter (fun h => h.chan == some c)).map (fun h => 6 + h.nn / 8)
  ++ (s.rtr.held.filter (fun h => h.chan == some c)).map (fun _ => 11)

/-- A request is held back: HOLD_CNT. It is not made yet, and has no answer. -/
def State.holdBack (c : Nat) (s : State) : State :=
  if s.mtx.held.any (fun h => h.1 == c) then s.wait
  else
    let t := onlyIf (s.pageEn pgMtx) (fun s => s.inc pgMtx Off.mtxHOLD_CNT) s
    { t with mtx := { s.mtx with held := (c, s.ptp.raw) :: s.mtx.held } }.wait

/-- A request that was held back issues: its wait in ns goes to HOLD_MAX. -/
def State.holdEnd (c : Nat) (s : State) : State :=
  match s.mtx.held.find? (fun h => h.1 == c) with
  | none => s
  | some h =>
    let ns := min (2 * ((s.ptp.raw + 2 ^ 64 - h.2) % 2 ^ 64)) 0xFFFFFFFF
    let t := onlyIf (s.pageEn pgMtx) (fun s => s.setRg pgMtx Off.mtxHOLD_MAX (max (s.rg pgMtx Off.mtxHOLD_MAX) ns)) s
    { t with mtx := { s.mtx with held := s.mtx.held.filter (fun h => h.1 != c) } }

/-- An access f of a master to a target port, in the order of R385: held back while an earlier request of its channel is
outstanding at another port. Behind one at the same port it is issued and waits there, for DRC orders its own (port 5),
and queue says that f only joins the queue there; else its turn comes when the earlier ones have completed (log
entry 93). DEDUCED. -/
def State.inTurn (mid id port : Nat) (queue : State → Bool) (f : State → State) (s : State) : State :=
  match chanOf mid id with
  | none => f s
  | some c =>
    if (s.outPorts c).any (fun p => p != port) then State.holdBack c s
    else
      let t := State.holdEnd c s
      if (s.outPorts c).isEmpty || port == 5 || queue t then f t else t.wait

/-- An error response to PCIe is counted (R411). -/
def State.pcieErr (wr : Bool) (s : State) : State :=
  if wr then (s.inc pgPcie Off.pcieWR_ERR_CNT).intBit pgPcie 2 else (s.inc pgPcie Off.pcieRD_ERR_CNT).intBit pgPcie 3

/-- The response that comes late, to a master whose access has waited: t is the state with it. One of a lost PCIe link is
discarded (R389). -/
def State.lateResp (mid : Nat) (wr lost : Bool) (s t : State) : State :=
  if lost then { t with resp := s.resp } else onlyIf (mid == 3 && t.resp.err) (State.pcieErr wr) t

/-- No access joins a queue. -/
def noQueue : State → Bool := fun _ => false

/-! ## Write guards of a page -/

/-- What a page does with a write before its block sees it. -/
inductive Guard
  | pass | refuse | default
  deriving DecidableEq, Repr

/-- Registers that bridge P0A serves on pages it serves in part: the class B registers of TWB and PTP
(R380, R442). -/
def aoHeld (page off : Nat) : Bool :=
  (page == pgTwb || page == pgPtp) && decide (0x100 ≤ off) && retOf (rkey page off) == .b

/-- The domain that holds a register: AO for those that bridge P0A serves on a page of another domain (R380, R442). -/
def regDomain (page off : Nat) : Nat := if aoHeld page off then 0 else domainOf page

/-- The target port of a register: bridge P0 to P3, or P0A (R380, R496). -/
def pagePort (page off : Nat) : Nat :=
  if pageKind page = .none then 15
  else if regDomain page off = 0 then 14
  else if page < 0x20 then 10 else if page < 0x40 then 11 else if page < 0x80 then 12 else 13

/-- Whether an access reaches the page at all (R8, R381, R497, R498). -/
def State.reachable (s : State) (page off : Nat) : Bool :=
  pageKind page != .none && (s.mode != 4 || regDomain page off == 0)

/-- The guard of a register write: EN (R397), WLOCK (R399), and the power of the page's domain (R498). A write that
only stops an output passes a lock (R399). -/
def State.guard (s : State) (page off : Nat) (stops : Bool) : Guard :=
  if !s.reachable page off then .default
  else if off < 0x100 then .pass
  else if !s.pageEn page then .refuse
  else if s.pageLocked page && !stops then .refuse
  else if !s.domain (regDomain page off) then .refuse
  else .pass

/-- A register write under its guard: f is what the block does with it. No master runs before the device is released
(R483). id: the transaction ID of a privileged master, 0 where the command carries none; queue: the write joins a queue
of its block (R385, R386). -/
def State.guarded (s : State) (page off mid : Nat) (stops : Bool) (f : State → State) (id : Nat := 0)
    (queue : State → Bool := noQueue) : State :=
  if !s.pwr.released then s
  else State.inTurn mid id (pagePort page off) queue (fun s =>
    match s.guard page off stops with
    | .pass => f s.ok
    | .refuse => s.refuseAccess page off mid true 4
    | .default => s.defaultTarget (regAddr page off) mid true false 4) s

/-- A register read under R381, R397 and R498: f answers it where the block runs; a block held in reset shows
the reset value, which r gives. -/
def State.guardRead (s : State) (page off mid : Nat) (r : State → Nat) (f : State → State) (id : Nat := 0) : State :=
  if !s.pwr.released then s
  else State.inTurn mid id (pagePort page off) noQueue (fun s =>
    if !s.reachable page off then s.defaultTarget (regAddr page off) mid false false 4
    else if !s.pageEn page then s.deliver (toLE 4 (r s))
    else f s) s

end Sys2Proof.Machine
end

