-- ==== Sys2Proof/Machine/Mem.lean ====
section
/-! DEFINITION. The memories behind the interconnect: targets of a system address, and reads and writes of the shared
store, DRAM and the local SRAMs with their error marks (R359 to R361, R372, R380, R381, R469). -/

namespace Sys2Proof.Machine

/-- The target ports of the matrix (R380), a window with its engine and a page with its number. -/
inductive Target
  | rom | aocSram | cpu0 | cpu1 | store | drc | win (nn : Nat) | page (p : Nat) | none
  deriving DecidableEq, Repr

/-- The target of a 40-bit system address (R380). -/
def targetOf (a : Nat) : Target :=
  if a < 0x10000 then .rom
  else if a < 0x20000 then .aocSram
  else if 0x08000000 ≤ a ∧ a < 0x08080000 then .cpu0
  else if 0x08100000 ≤ a ∧ a < 0x08180000 then .cpu1
  else if 0x10000000 ≤ a ∧ a < 0x11000000 then .store
  else if 0x40000000 ≤ a ∧ a < 0x40100000 then
    (if pageKind ((a - 0x40000000) / 0x1000) = .none then .none else .page ((a - 0x40000000) / 0x1000))
  else if 0x60000000 ≤ a ∧ a < 0x62000000 then .win ((a - 0x60000000) / 0x100000)
  else if 0x80000000 ≤ a ∧ a < 0x300000000 then .drc
  else .none

/-- The target port of a system address, by its index in MTX.STAT (R380). -/
def portOf (a : Nat) : Nat :=
  match targetOf a with
  | .rom => 0 | .aocSram => 1 | .cpu0 => 2 | .cpu1 => 3 | .store => 4 | .drc => 5
  | .win nn => 6 + nn / 8
  | .page p => pagePort p (a % 0x1000)
  | .none => 15

/-- A locked sequence that has stalled holds the target port of an address (R382). -/
def State.portLocked (s : State) (a : Nat) : Bool := s.mtx.lock.any (fun l => l.1 == portOf a)

/-- The offset of a DRAM address, through the alias or not (R359). -/
def dramOff (a : Nat) : Nat := if a < 0x100000000 then a - 0x80000000 else a - 0x100000000

/-- The address under which the model keeps a byte: an alias goes to the memory it names. -/
def memKey (a : Nat) : Nat := if targetOf a = .drc then 0x100000000 + dramOff a else a

/-- The width in bytes of a memory word that carries its own check bits: 8 in the shared store and DRAM (R372), 4 in
the SRAMs. -/
def eccGran (a : Nat) : Nat :=
  match targetOf a with
  | .store => 8 | .drc => 8 | _ => 4

/-- The state of DRC (R361). -/
def State.drcState (s : State) : Nat := s.fld pgDrc Off.drcSTAT 2 0

/-- DRC.STAT.STATE set by hardware. -/
def State.setDrcState (s : State) (st : Nat) : State := s.setFld pgDrc Off.drcSTAT 2 0 st

/-- The page that owns the error counters of a memory. -/
def eccPage (a : Nat) : Nat :=
  match targetOf a with
  | .store => pgStore | .drc => pgDrc | .cpu0 => pgCpu | .cpu1 => pgCpu + 1 | _ => pgAoc

/-- The place of the ECC_CE_CNT of a page; ECC_UE_CNT follows it. -/
def eccCeOff (page : Nat) : Nat :=
  match pageKind page with
  | .store => Off.storeECC_CE_CNT | .drc => Off.drcECC_CE_CNT | .cpu => Off.cpuECC_CE_CNT | _ => Off.aocECC_CE_CNT

/-- The INT_RAW bit of a corrected word of a memory, and of an uncorrectable one (R377, R393); page AOC defines none. -/
def eccInt (page : Nat) (ue : Bool) : Nat := if page = pgAoc then 0 else if ue then 2 else 1

/-- A corrected word of a memory (R372, R461, R469). A page held in reset counts nothing (R397). -/
def State.memCe (s : State) (a mid ty : Nat) : State :=
  let p := eccPage a
  (onlyIf (s.pageEn p) (fun s => s.inc p (eccCeOff p)) s).raiseErr p 1 (eccInt p false) a mid ty

/-- An uncorrectable word of a memory; one of the shared store shows in the next health word (R345, R372, R469). -/
def State.memUe (s : State) (a mid ty : Nat) : State :=
  let p := eccPage a
  let s := if targetOf a = .store then { s with pair := { s.pair with failMem := true } } else s
  (onlyIf (s.pageEn p) (fun s => s.inc p (eccCeOff p + 4)) s).raiseErr p 2 (eccInt p true) a mid ty

/-- Whether error marks act on an address: DRAM only with inline ECC active (R372). -/
def State.eccActive (s : State) (a : Nat) : Bool := targetOf a != .drc || s.bit pgDrc Off.drcSTAT 4

/-- Whether a memory answers at an address: DRAM in range and served (R360, R361, R366), and with its clock in lock
(R375: dead answers every request with an error response), the rest always. -/
inductive MemGate
  | ok | range | default | dead
  deriving DecidableEq, Repr

/-- Two half-open ranges overlap. -/
def rangesMeet (a b : Nat × Nat) : Bool := decide (a.1 < b.2) && decide (b.1 < a.2)

/-- DRC holds an access: in a frequency change every one, in a fill those of its range (R368, R372). -/
def State.drcHolds (s : State) (a n : Nat) : Bool :=
  targetOf a == .drc
  && (s.drcState == 5 || s.dram.fill.any (fun f => rangesMeet f (dramOff a, dramOff a + n)))

/-- The gate of an access of n bytes to a memory (R360, R361, R381). An access that a frequency change holds is served
in the state to which the change returns, with its clock in lock again (R368). -/
def State.memGate (s : State) (a n : Nat) (write : Bool) : MemGate :=
  match targetOf a with
  | .drc =>
    if s.mode == 4 || !s.works 4 then .default
    else if s.drcState < 3 || s.drcState == 5 && s.dram.prev == 2 then .range
    else if !s.bit pgDphy Off.dphySTAT 0 && s.drcState != 5 then .dead
    else if s.rg pgDrc Off.drcCAP * 2 ^ 20 < dramOff a + n then .range
    else .ok
  | .rom => if write then .default else .ok
  | .aocSram => .ok
  | .cpu0 => if s.mode == 4 then .default else .ok
  | .cpu1 => if s.mode == 4 then .default else .ok
  | .store => if s.mode == 4 then .default else .ok
  | _ => .default

/-! ## The rows of DRAM (R359, R364) -/

def State.drcCfg (s : State) (hi lo : Nat) : Nat := s.fld pgDrc Off.drcCFG hi lo

/-- MiB of one rank over both channels (R358). -/
def State.rankMib (s : State) : Nat := 512 * 2 ^ s.drcCfg 4 2

/-- The bank and the row of an offset, over ranks and channels (R359). -/
def State.dramBank (s : State) (o : Nat) : Nat :=
  let rank := o / (s.rankMib * 2 ^ 20)
  let b := if s.drcCfg 0 0 = 0 then bitsN o 12 9 else bitsN o 11 9
  (rank * 2 + bitsN o 8 8) * 16 + b
def State.dramRow (s : State) (o : Nat) : Nat :=
  o % (s.rankMib * 2 ^ 20) / (if s.drcCfg 0 0 = 0 then 2 ^ 16 else 2 ^ 15)

/-- An access to n bytes of DRAM opens the rows that it touches, in address order, and they stay open unless PAGE_IDLE is
0 (R364): a block of 256 bytes lies in one row. -/
def State.openRows (s : State) (a n : Nat) : State :=
  if targetOf a = .drc then
    let o := dramOff a
    let idle := s.fld pgDrc Off.drcPAGE_IDLE 15 0 == 0
    { s with dram := { s.dram with rows :=
        (List.range ((o + n - 1) / 256 + 1 - o / 256)).foldl (fun m i =>
          let b := (o / 256 + i) * 256
          smapSet zeroN m (s.dramBank b) (if idle then 0 else s.dramRow b + 1)) s.dram.rows } }
  else s

/-- A request that finds SR exits it (R366). -/
def State.srExit (s : State) (a : Nat) : State :=
  if targetOf a = .drc ∧ s.drcState = 4 then (s.setDrcState 3) else s

/-- A DRC error response (R360, R361). -/
def State.drcRange (s : State) (a mid ty : Nat) : State := s.raiseErr pgDrc 2 4 a mid ty

/-- An access that fails because the DPHY has lost lock is captured in the page of its target (R375, R467); DRC.INT_RAW
has no bit for it (R377). -/
def State.drcDead (s : State) (a mid ty : Nat) : State := s.raiseErr pgDrc 2 0 a mid ty

/-- The marks of the words that an access touches, where they act. -/
def State.marks (s : State) (a n : Nat) : List (Nat × Nat) :=
  if s.eccActive a then
    let k := memKey a
    s.ecc.filter (fun e => decide (k - k % eccGran a ≤ e.1) && decide (e.1 < k + n))
  else []

/-- The bytes of a memory; those of the AOC ROM are free values (log entry 4). -/
def State.memBytes (s : State) (a n : Nat) : List Byte :=
  if targetOf a = .rom then (List.range n).map (fun i => Config.romByte (a + i)) else s.bytes (memKey a) n

/-- The address of the access that finds the error mark of word w: an access of at most 8 bytes has its own address; a
longer transfer is read word by word (R463). -/
def accessAt (a n w : Nat) : Nat := if n ≤ 8 then a else a + (w - memKey a)

/-- A read of n bytes of a memory by a master: the bytes, or none where it gets an error response. -/
def State.memRead (s : State) (mid a n : Nat) (fetch : Bool := false) (locked : Bool := false) :
    Option (List Byte) × State :=
  let ty := accType false fetch locked n
  match s.memGate a n false with
  | .default => (none, s.defaultTarget a mid false fetch n)
  | .range => (none, s.drcRange a mid ty)
  | .dead => (none, s.drcDead a mid ty)
  | .ok =>
    let s := (s.srExit a).openRows a n
    let ms := s.marks a n
    let s' := ms.foldl (fun st m =>
      if m.2 = 1 then st.memCe (accessAt a n m.1) mid ty else st.memUe (accessAt a n m.1) mid ty) s
    (if ms.any (fun m => m.2 == 2) then none else some (s'.memBytes a n), s')

/-- The bytes of a read before its first uncorrectable word. -/
def State.readBefore (s : State) (a n : Nat) : List Byte :=
  if s.memGate a n false = .ok then
    s.memBytes a (((s.marks a n).filter (fun m => m.2 == 2)).foldl (fun k m => min k (m.1 - memKey a)) n)
  else []

/-- Reservations on a word that another master writes are lost (R384). -/
def State.dropResv (s : State) (mid a n : Nat) : State :=
  let hit (r : Option Nat) : Bool := r.any (fun w => decide (w < a + n) && decide (a < w + 4))
  let m := s.mtx
  { s with mtx := { m with
      resv0 := if mid != 0 && hit m.resv0 then none else m.resv0
      resv1 := if mid != 1 && hit m.resv1 then none else m.resv1 } }

/-- Bytes put into a memory: marks of the words that the write covers or repairs go (R90, R372). -/
def State.memPut (s : State) (mid a : Nat) (bs : List Byte) : State :=
  let k := memKey a
  let g := eccGran a
  let s := { s with ecc := s.ecc.filter (fun e =>
    !(decide (k - k % g ≤ e.1) && decide (e.1 < k + bs.length)
      && (e.2 == 1 || (decide (k ≤ e.1) && decide (e.1 + g ≤ k + bs.length))))) }
  (s.store k bs).dropResv mid k bs.length

/-- A write of a memory by a master; false where it gets an error response and writes nothing. A word of the shared
store or of DRAM that the write covers only in part is read first, and an error that this read meets is that of a read
(R372, R476). -/
def State.memWriteBus (s : State) (mid a : Nat) (bs : List Byte) (locked : Bool := false) : Bool × State :=
  let n := bs.length
  let ty := accType true false locked n
  match s.memGate a n true with
  | .default => (false, s.defaultTarget a mid true false n)
  | .range => (false, s.drcRange a mid ty)
  | .dead => (false, s.drcDead a mid ty)
  | .ok =>
    let s := (s.srExit a).openRows a n
    let k := memKey a
    let part := if targetOf a = .drc ∨ targetOf a = .store then
        (s.marks a n).filter (fun m => !(decide (k ≤ m.1) && decide (m.1 + 8 ≤ k + n)))
      else []
    let s := part.foldl (fun st m =>
      if m.2 = 1 then st.memCe (accessAt a n m.1) mid ty else st.memUe (accessAt a n m.1) mid ty) s
    if part.any (fun m => m.2 == 2) then (false, s) else (true, s.memPut mid a bs)

end Sys2Proof.Machine
end

