-- ==== Sys2Proof/Machine/EngCode.lean ====
section
/-! DEFINITION. The Bareel instruction word (R97 to R119): the decoded instruction, its word, and the decoder. A word
decodes only where it is exactly the word of the instruction read from it, so every reserved bit and every field that
must be 0 is checked at once (R98, R119). -/

namespace Sys2Proof.Machine

/-- Rounding of an accumulator store (R62, R97); 0b11 is illegal. -/
inductive Rnd
  | trunc | halfUp | conv
  deriving DecidableEq, Repr

/-- Post-modification of a pointer (R101); 0b111 is illegal. -/
inductive PMod
  | none | p1 | m1 | p2 | m2 | pN | mN
  deriving DecidableEq, Repr

/-- A bus read field (R100): off; one word at Pk to latch l; a pair at Pk; D register, ramp unit, D pair;
an indexed word at wrapadd(Pk, D_ix >> sh). -/
inductive BusRd
  | off
  | one (k : Fin 8) (md : PMod) (l : Bool)
  | pair (k : Fin 8) (md : PMod)
  | dreg (d : Fin 16) (l : Bool)
  | ramp (g : Fin 8) (l : Bool)
  | dpair (i : Fin 8)
  | idx (k : Fin 8) (ix : Fin 16) (sh : Fin 16)
  deriving DecidableEq, Repr

/-- Where a step writes (R103): memory at Pk, or a D register. -/
inductive WDst
  | mem (k : Fin 8) (md : PMod)
  | dreg (d : Fin 16)
  deriving DecidableEq, Repr

/-- What a step writes (R103): an accumulator with a shift in two's complement, or a D register. -/
inductive WSrc
  | acc (a : Fin 8) (sh : Fin 32)
  | dreg (d : Fin 16)
  deriving DecidableEq, Repr

/-- The write field (R103). -/
inductive WrF
  | off
  | on (dst : WDst) (src : WSrc)
  deriving DecidableEq, Repr

/-- SAT and RND, bits [57:55] of every instruction (R97). -/
structure Hd where
  sat : Bool
  rnd : Rnd
  deriving DecidableEq, Repr

/-- The bus reads and the write of a P-format instruction, and its SX advance. -/
structure PFields where
  sxa : Bool
  xf : BusRd
  yf : BusRd
  wf : WrF
  deriving DecidableEq, Repr

/-- REPL, NEG and A of the multiplier operations (R106). -/
structure MacOpx where
  repl : Bool
  neg : Bool
  a : Fin 8
  deriving DecidableEq, Repr

/-- The operand B of an R-format instruction (R110). -/
inductive OpB
  | dreg (d : Fin 16)
  | imm (v : Fin 32)
  deriving DecidableEq, Repr

/-- The ALU operations that take Da and B. -/
inductive Alu2
  | add | sub | and | or | xor | shl | shra | shrl | min | max
  deriving DecidableEq, Repr

/-- The multiplier modes (R59). -/
inductive MacMode
  | s | d | du | q | sum
  deriving DecidableEq, Repr

/-- A special register named by MOVX (R112). -/
inductive XReg
  | p (k : Fin 8) | n (k : Fin 8) | w (k : Fin 8) | sx
  deriving DecidableEq, Repr

/-- A post (R117): slot, ring, offset register, pointer, length - 1, due beat, modification. -/
structure MpPost where
  slot : Fin 8
  ring : Fin 256
  dO : Fin 16
  k : Fin 8
  len : Fin 256
  due : Fin 16
  md : PMod
  deriving DecidableEq, Repr

/-- A decoded Bareel instruction. -/
inductive EngInstr
  | nop (h : Hd)
  | mac (m : MacMode) (h : Hd) (x : MacOpx) (p : PFields)
  | mov (h : Hd) (p : PFields)
  | accLd (h : Hd) (neg : Bool) (a : Fin 8) (ls : Bool) (p : PFields)
  | accAdd (h : Hd) (neg : Bool) (a : Fin 8) (ls : Bool) (p : PFields)
  | accMov (h : Hd) (a b : Fin 8) (neg : Bool) (p : PFields)
  | accSh (h : Hd) (a : Fin 8) (sh : Fin 32) (p : PFields)
  | alu2 (o : Alu2) (h : Hd) (dd da : Fin 16) (b : OpB) (sxa : Bool) (wf : WrF)
  | absI (h : Hd) (dd da : Fin 16) (sxa : Bool) (wf : WrF)
  | negI (h : Hd) (dd da : Fin 16) (sxa : Bool) (wf : WrF)
  | cmp (h : Hd) (dd da : Fin 16) (b : OpB) (cond : Fin 8) (sxa : Bool) (wf : WrF)
  | sel (h : Hd) (dd da db dc : Fin 16) (test : Fin 6) (sxa : Bool) (wf : WrF)
  | movxTo (h : Hd) (da : Fin 16) (x : XReg) (sxa : Bool) (wf : WrF)
  | movxFrom (h : Hd) (dd : Fin 16) (x : XReg) (sxa : Bool) (wf : WrF)
  | endBeat (h : Hd)
  | rep (h : Hd) (len : Fin 4096) (cnt : Fin 65536)
  | ldi (h : Hd) (dd : Fin 16) (imm : Fin 4294967296)
  | setptr (h : Hd) (k : Fin 8) (pv nv : Fin 131072) (wv : Fin 32768) (mp mn mw : Bool)
  | grampI (h : Hd) (k : Fin 8) (dt : Fin 16) (cnt : Fin 16777216)
  | grampR (h : Hd) (k : Fin 8) (dt dc : Fin 16)
  | mpr (h : Hd) (m : MpPost)
  | mpw (h : Hd) (m : MpPost)
  deriving DecidableEq, Repr

/-! ## Encoding, from the field tables -/

/-- RND codes (R97). -/
def Rnd.code : Rnd → Nat
  | .trunc => 0 | .halfUp => 1 | .conv => 2

/-- MOD codes (R101). -/
def PMod.code : PMod → Nat
  | .none => 0 | .p1 => 1 | .m1 => 2 | .p2 => 3 | .m2 => 4 | .pN => 5 | .mN => 6

/-- A bus read field as 14 bits (R100). -/
def encRd : BusRd → Nat
  | .off => 0
  | .one k md l => 2 ^ 13 + k.val * 2 ^ 8 + md.code * 2 ^ 5 + b2n l * 2 ^ 4
  | .pair k md => 2 ^ 13 + 1 * 2 ^ 11 + k.val * 2 ^ 8 + md.code * 2 ^ 5
  | .dreg d l => 2 ^ 13 + 2 * 2 ^ 11 + d.val * 2 ^ 6 + b2n l * 2 ^ 5
  | .ramp g l => 2 ^ 13 + 2 * 2 ^ 11 + (16 + g.val) * 2 ^ 6 + b2n l * 2 ^ 5
  | .dpair i => 2 ^ 13 + 2 * 2 ^ 11 + (24 + i.val) * 2 ^ 6
  | .idx k ix sh => 2 ^ 13 + 3 * 2 ^ 11 + k.val * 2 ^ 8 + ix.val * 2 ^ 4 + sh.val

/-- The destination bits of a write field (R103). -/
def encDst : WDst → Nat
  | .mem k md => k.val * 2 ^ 12 + md.code * 2 ^ 9
  | .dreg d => 2 ^ 15 + d.val * 2 ^ 11

/-- The source bits of a write field (R103). -/
def encSrc : WSrc → Nat
  | .acc a sh => a.val * 2 ^ 5 + sh.val
  | .dreg d => 2 ^ 8 + d.val * 2 ^ 4

/-- A write field as 17 bits (R103). -/
def encWr : WrF → Nat
  | .off => 0
  | .on dst src => 2 ^ 16 + encDst dst + encSrc src

/-- OP, SAT and RND in place (R97). -/
def encHd (op : Nat) (h : Hd) : Nat := op * 2 ^ 58 + b2n h.sat * 2 ^ 57 + h.rnd.code * 2 ^ 55

/-- A P-format word: OPX above bit 45, SXA at bit 45 (R97, R106). -/
def encP (op : Nat) (h : Hd) (opx : Nat) (p : PFields) : Nat :=
  encHd op h + opx * 2 ^ 46 + b2n p.sxa * 2 ^ 45 + encRd p.xf * 2 ^ 31 + encRd p.yf * 2 ^ 17 + encWr p.wf

/-- An R-format word (R97, R110). -/
def encR (op : Nat) (h : Hd) (dd da db dc imm5 : Nat) (bimm dir sxa : Bool) (wf : WrF) : Nat :=
  encHd op h + dd * 2 ^ 51 + da * 2 ^ 47 + db * 2 ^ 43 + dc * 2 ^ 39 + imm5 * 2 ^ 34 + b2n bimm * 2 ^ 33
    + b2n dir * 2 ^ 32 + b2n sxa * 2 ^ 31 + encWr wf

/-- The opcode of a multiplier mode (R99). -/
def MacMode.op : MacMode → Nat
  | .s => 0x01 | .d => 0x02 | .du => 0x03 | .q => 0x04 | .sum => 0x05

/-- The opcode of a two-operand ALU operation (R99). -/
def Alu2.op : Alu2 → Nat
  | .add => 0x10 | .sub => 0x11 | .and => 0x12 | .or => 0x13 | .xor => 0x14 | .shl => 0x15 | .shra => 0x16
  | .shrl => 0x17 | .min => 0x18 | .max => 0x19

/-- IMM5 of a special register (R112). -/
def XReg.code : XReg → Nat
  | .p k => k.val | .n k => 8 + k.val | .w k => 16 + k.val | .sx => 24

/-- DB of an operand B. -/
def OpB.db : OpB → Nat
  | .dreg d => d.val | .imm _ => 0

/-- IMM5 of an operand B. -/
def OpB.imm5 : OpB → Nat
  | .dreg _ => 0 | .imm v => v.val

/-- BIMM of an operand B. -/
def OpB.bimm : OpB → Bool
  | .dreg _ => false | .imm _ => true

/-- The bits [54:22] of a post (R113). -/
def encPost (m : MpPost) : Nat :=
  m.slot.val * 2 ^ 52 + m.ring.val * 2 ^ 44 + m.dO.val * 2 ^ 40 + m.k.val * 2 ^ 37 + m.len.val * 2 ^ 29
    + m.due.val * 2 ^ 25 + m.md.code * 2 ^ 22

/-- The 64-bit word of an instruction (R97 to R113). -/
def encEng : EngInstr → Nat
  | .nop h => encHd 0x00 h
  | .mac m h x p => encP m.op h (b2n x.repl * 2 ^ 8 + b2n x.neg * 2 ^ 7 + x.a.val * 2 ^ 4) p
  | .mov h p => encP 0x06 h 0 p
  | .accLd h neg a ls p => encP 0x07 h (b2n neg * 2 ^ 7 + a.val * 2 ^ 4 + b2n ls * 2 ^ 3) p
  | .accAdd h neg a ls p => encP 0x08 h (b2n neg * 2 ^ 7 + a.val * 2 ^ 4 + b2n ls * 2 ^ 3) p
  | .accMov h a b neg p => encP 0x09 h (a.val * 2 ^ 6 + b.val * 2 ^ 3 + b2n neg * 2 ^ 2) p
  | .accSh h a sh p => encP 0x0A h (a.val * 2 ^ 6 + sh.val * 2) p
  | .alu2 o h dd da b sxa wf => encR o.op h dd.val da.val b.db 0 b.imm5 b.bimm false sxa wf
  | .absI h dd da sxa wf => encR 0x1A h dd.val da.val 0 0 0 false false sxa wf
  | .negI h dd da sxa wf => encR 0x1B h dd.val da.val 0 0 0 false false sxa wf
  | .cmp h dd da b cond sxa wf => encR 0x1C h dd.val da.val b.db cond.val b.imm5 b.bimm false sxa wf
  | .sel h dd da db dc test sxa wf => encR 0x1D h dd.val da.val db.val dc.val test.val false false sxa wf
  | .movxTo h da x sxa wf => encR 0x1E h 0 da.val 0 0 x.code false false sxa wf
  | .movxFrom h dd x sxa wf => encR 0x1E h dd.val 0 0 0 x.code false true sxa wf
  | .endBeat h => encHd 0x20 h
  | .rep h len cnt => encHd 0x21 h + len.val * 2 ^ 43 + cnt.val * 2 ^ 27
  | .ldi h dd imm => encHd 0x22 h + dd.val * 2 ^ 51 + imm.val
  | .setptr h k pv nv wv mp mn mw =>
    encHd 0x23 h + k.val * 2 ^ 52 + pv.val * 2 ^ 35 + nv.val * 2 ^ 18 + wv.val * 2 ^ 3 + b2n mp * 2 ^ 2 + b2n mn * 2
      + b2n mw
  | .grampI h k dt cnt => encHd 0x24 h + k.val * 2 ^ 52 + dt.val * 2 ^ 47 + cnt.val * 2 ^ 23
  | .grampR h k dt dc => encHd 0x24 h + k.val * 2 ^ 52 + 2 ^ 51 + dt.val * 2 ^ 47 + dc.val * 2 ^ 19
  | .mpr h m => encHd 0x25 h + encPost m
  | .mpw h m => encHd 0x26 h + encPost m

/-- The opcodes' rules that no bit pattern shows: MAC.DU takes an even A, MAC.Q takes A = 0 or 4 (R106). -/
def EngInstr.legal : EngInstr → Bool
  | .mac .du _ x _ => x.a.val % 2 == 0
  | .mac .q _ x _ => x.a.val % 4 == 0
  | _ => true

/-! ## Decoding -/

/-- Bits [hi:lo] as a number below n. -/
def finBits (n : Nat) (h : 0 < n) (w hi lo : Nat) : Fin n := ⟨bitsN w hi lo % n, Nat.mod_lt _ h⟩

/-- The rounding of a code; 0b11 has none. -/
def decRnd : Nat → Option Rnd
  | 0 => some .trunc | 1 => some .halfUp | 2 => some .conv | _ => none

/-- The modification of a code; 0b111 has none. -/
def decMod : Nat → Option PMod
  | 0 => some .none | 1 => some .p1 | 2 => some .m1 | 3 => some .p2 | 4 => some .m2 | 5 => some .pN | 6 => some .mN
  | _ => none

/-- A bus read from its 14 bits (R100). -/
def decRd (f : Nat) : Option BusRd :=
  let k := finBits 8 (by decide) f 10 8
  if !bitN f 13 then some .off
  else match bitsN f 12 11 with
    | 0 => (decMod (bitsN f 7 5)).map (fun md => .one k md (bitN f 4))
    | 1 => (decMod (bitsN f 7 5)).map (fun md => .pair k md)
    | 2 =>
      if bitsN f 10 6 < 16 then some (.dreg (finBits 16 (by decide) f 9 6) (bitN f 5))
      else if bitsN f 10 6 < 24 then some (.ramp (finBits 8 (by decide) f 8 6) (bitN f 5))
      else some (.dpair (finBits 8 (by decide) f 8 6))
    | _ => some (.idx k (finBits 16 (by decide) f 7 4) (finBits 16 (by decide) f 3 0))

/-- The source of a write field (R103). -/
def decSrc (f : Nat) : WSrc :=
  if bitN f 8 then .dreg (finBits 16 (by decide) f 7 4)
  else .acc (finBits 8 (by decide) f 7 5) (finBits 32 (by decide) f 4 0)

/-- A write field from its 17 bits (R103). -/
def decWr (f : Nat) : Option WrF :=
  if !bitN f 16 then some .off
  else if bitN f 15 then some (.on (.dreg (finBits 16 (by decide) f 14 11)) (decSrc f))
  else (decMod (bitsN f 11 9)).map (fun md => .on (.mem (finBits 8 (by decide) f 14 12) md) (decSrc f))

/-- The fields of a P-format word. -/
def decP (w : Nat) : Option PFields :=
  match decRd (bitsN w 44 31), decRd (bitsN w 30 17), decWr (bitsN w 16 0) with
  | some x, some y, some f => some ⟨bitN w 45, x, y, f⟩
  | _, _, _ => none

/-- The operand B of an R-format word. -/
def decB (w : Nat) : OpB :=
  if bitN w 33 then .imm (finBits 32 (by decide) w 38 34) else .dreg (finBits 16 (by decide) w 46 43)

/-- The special register of IMM5 (R112). -/
def decX (w : Nat) : XReg :=
  match bitsN w 38 37 with
  | 0 => .p (finBits 8 (by decide) w 36 34)
  | 1 => .n (finBits 8 (by decide) w 36 34)
  | 2 => .w (finBits 8 (by decide) w 36 34)
  | _ => .sx

/-- A post from bits [54:22] (R113). -/
def decPost (w : Nat) : Option MpPost :=
  (decMod (bitsN w 24 22)).map (fun md =>
    ⟨finBits 8 (by decide) w 54 52, finBits 256 (by decide) w 51 44, finBits 16 (by decide) w 43 40,
      finBits 8 (by decide) w 39 37, finBits 256 (by decide) w 36 29, finBits 16 (by decide) w 28 25, md⟩)

/-- The instruction an opcode and its fields name, before the check of its reserved bits. -/
def decFields (w : Nat) (h : Hd) : Option EngInstr :=
  let mx : MacOpx := ⟨bitN w 54, bitN w 53, finBits 8 (by decide) w 52 50⟩
  let dd := finBits 16 (by decide) w 54 51
  let da := finBits 16 (by decide) w 50 47
  let db := finBits 16 (by decide) w 46 43
  let dc := finBits 16 (by decide) w 42 39
  let a3 := finBits 8 (by decide) w 54 52
  let sxa := bitN w 31
  let alu (o : Alu2) : Option EngInstr := (decWr (bitsN w 16 0)).map (fun f => .alu2 o h dd da (decB w) sxa f)
  match bitsN w 63 58 with
  | 0x00 => some (.nop h)
  | 0x01 => (decP w).map (fun p => .mac .s h mx p)
  | 0x02 => (decP w).map (fun p => .mac .d h mx p)
  | 0x03 => (decP w).map (fun p => .mac .du h mx p)
  | 0x04 => (decP w).map (fun p => .mac .q h mx p)
  | 0x05 => (decP w).map (fun p => .mac .sum h mx p)
  | 0x06 => (decP w).map (fun p => .mov h p)
  | 0x07 => (decP w).map (fun p => .accLd h (bitN w 53) mx.a (bitN w 49) p)
  | 0x08 => (decP w).map (fun p => .accAdd h (bitN w 53) mx.a (bitN w 49) p)
  | 0x09 => (decP w).map (fun p => .accMov h a3 (finBits 8 (by decide) w 51 49) (bitN w 48) p)
  | 0x0A => (decP w).map (fun p => .accSh h a3 (finBits 32 (by decide) w 51 47) p)
  | 0x10 => alu .add
  | 0x11 => alu .sub
  | 0x12 => alu .and
  | 0x13 => alu .or
  | 0x14 => alu .xor
  | 0x15 => alu .shl
  | 0x16 => alu .shra
  | 0x17 => alu .shrl
  | 0x18 => alu .min
  | 0x19 => alu .max
  | 0x1A => (decWr (bitsN w 16 0)).map (fun f => .absI h dd da sxa f)
  | 0x1B => (decWr (bitsN w 16 0)).map (fun f => .negI h dd da sxa f)
  | 0x1C => (decWr (bitsN w 16 0)).map (fun f => .cmp h dd da (decB w) (finBits 8 (by decide) w 41 39) sxa f)
  | 0x1D => (decWr (bitsN w 16 0)).map (fun f => .sel h dd da db dc (finBits 6 (by decide) w 36 34) sxa f)
  | 0x1E => (decWr (bitsN w 16 0)).map (fun f =>
      if bitN w 32 then .movxFrom h dd (decX w) sxa f else .movxTo h da (decX w) sxa f)
  | 0x20 => some (.endBeat h)
  | 0x21 => some (.rep h (finBits 4096 (by decide) w 54 43) (finBits 65536 (by decide) w 42 27))
  | 0x22 => some (.ldi h dd (finBits 4294967296 (by decide) w 31 0))
  | 0x23 => some (.setptr h a3 (finBits 131072 (by decide) w 51 35) (finBits 131072 (by decide) w 34 18)
      (finBits 32768 (by decide) w 17 3) (bitN w 2) (bitN w 1) (bitN w 0))
  | 0x24 =>
    if bitN w 51 then some (.grampR h a3 (finBits 16 (by decide) w 50 47) (finBits 16 (by decide) w 22 19))
    else some (.grampI h a3 (finBits 16 (by decide) w 50 47) (finBits 16777216 (by decide) w 46 23))
  | 0x25 => (decPost w).map (fun m => .mpr h m)
  | 0x26 => (decPost w).map (fun m => .mpw h m)
  | _ => none

/-- The instruction of a 64-bit word, none where it is illegal (R98, R119). -/
def decEng (w : Nat) : Option EngInstr :=
  match decRnd (bitsN w 56 55) with
  | none => none
  | some r =>
    match decFields w ⟨bitN w 57, r⟩ with
    | none => none
    | some i => if encEng i = w ∧ i.legal then some i else none

end Sys2Proof.Machine
end

