-- ==== Sys2Proof/Machine/Operands.lean ====
section
/-! DEFINITION. The operand forms of a Bareel step: registers, pointers and their wrap, bus reads, ramp values, and the
write field, with the events they raise (R55 to R77, R84, R89, R90). -/

namespace Sys2Proof.Machine

/-! ## Register files -/

/-- What an unlisted accumulator, offset register or ramp value reads as. -/
def zeroI : Nat → Int := fun _ => 0

/-- An engine of an unlisted number: off, everything 0. -/
def engReset : Nat → Engine := fun _ => {}

/-- Engine nn. -/
def State.engine (s : State) (nn : Nat) : Engine := smapGet engReset s.eng nn

/-- Engine nn replaced. -/
def State.setEngine (s : State) (nn : Nat) (e : Engine) : State := { s with eng := smapSet engReset s.eng nn e }

/-- Engine nn changed by f. -/
def State.modEngine (s : State) (nn : Nat) (f : Engine → Engine) : State := s.setEngine nn (f (s.engine nn))

def Engine.rd (e : Engine) (i : Nat) : Word := smapGet zeroW e.d i
def Engine.setD (e : Engine) (i : Nat) (v : Word) : Engine := { e with d := smapSet zeroW e.d i v }
def Engine.accV (e : Engine) (i : Nat) : Int := smapGet zeroI e.acc i
def Engine.setAcc (e : Engine) (i : Nat) (v : Int) : Engine := { e with acc := smapSet zeroI e.acc i v }
def Engine.ptr (e : Engine) (k : Nat) : Nat := smapGet zeroN e.p k
def Engine.setP (e : Engine) (k v : Nat) : Engine := { e with p := smapSet zeroN e.p k (v % 131072) }
def Engine.ofs (e : Engine) (k : Nat) : Int := smapGet zeroI e.n k
def Engine.setN (e : Engine) (k : Nat) (v : Int) : Engine := { e with n := smapSet zeroI e.n k v }
def Engine.wrap (e : Engine) (k : Nat) : Nat := smapGet zeroN e.w k
/-- A wrap length above 16,384 is stored as 16,384 (R63, R94). -/
def Engine.setW (e : Engine) (k v : Nat) : Engine := { e with w := smapSet zeroN e.w k (min v 16384) }
def Engine.gainV (e : Engine) (k : Nat) : Int := smapGet zeroI e.gv k
def Engine.gainT (e : Engine) (k : Nat) : Int := smapGet zeroI e.gt k
def Engine.gainS (e : Engine) (k : Nat) : Int := smapGet zeroI e.gs k
def Engine.gainC (e : Engine) (k : Nat) : Nat := smapGet zeroN e.gc k
/-- A ramp unit's value, target, step and remaining count. -/
def Engine.setGain (e : Engine) (k : Nat) (v t st : Int) (c : Nat) : Engine :=
  { e with gv := smapSet zeroI e.gv k v, gt := smapSet zeroI e.gt k t, gs := smapSet zeroI e.gs k st,
           gc := smapSet zeroN e.gc k c }
/-- A word of XM, YM, IB or OB by engine address. -/
def Engine.word (e : Engine) (a : Nat) : Word := smapGet zeroW e.dm a
def Engine.setWord (e : Engine) (a : Nat) (v : Word) : Engine := { e with dm := smapSet zeroW e.dm a v }
/-- An instruction word of PM. -/
def Engine.instr (e : Engine) (i : Nat) : Nat := smapGet zeroN e.pm i
def Engine.setInstr (e : Engine) (i v : Nat) : Engine := { e with pm := smapSet zeroN e.pm i (v % 2 ^ 64) }

/-- The code of a state in STATE (R51). -/
def EngState.code : EngState → Nat
  | .off => 0 | .stopped => 1 | .armed => 2 | .running => 3 | .detached => 4 | .skipping => 5 | .fault => 6

/-- Stopped in the sense of R51: STOPPED, ARMED or FAULT. -/
def EngState.isStopped : EngState → Bool
  | .stopped => true | .armed => true | .fault => true | _ => false

/-- Part of the signal plane: RUNNING, DETACHED or SKIPPING. -/
def EngState.inPlane : EngState → Bool
  | .running => true | .detached => true | .skipping => true | _ => false

/-! ## Addresses -/

/-- The memories of the engine address space (R64). -/
inductive EMem
  | xm | ym | ib | ob | none
  deriving DecidableEq, Repr

/-- The memory of an engine address (R64). -/
def emem (a : Nat) : EMem :=
  if a < 0x4000 then .xm else if a < 0x8000 then .ym else if a < 0xA000 then .ib else if a < 0xC000 then .ob
  else .none

/-- The system address of engine nn's window (R64, R92). -/
def winBase (nn : Nat) : Nat := 0x60000000 + nn * 0x100000

/-- The system address of a word by engine address (R64). -/
def winAddr (nn a : Nat) : Nat :=
  winBase nn + (match emem a with
    | .xm => 0x40000 + 4 * a
    | .ym => 0x60000 + 4 * (a - 0x4000)
    | .ib => 0x80000 + 4 * (a - 0x8000)
    | .ob => 0xA0000 + 4 * (a - 0xA000)
    | .none => 0)

/-- The system address of instruction i of PM (R64). -/
def pmAddr (nn i : Nat) : Nat := winBase nn + 8 * i

/-- The smallest m with 2^m ≥ w, for w up to 2^14 (R66). -/
def log2Up (w : Nat) : Nat := ((List.range 15).find? (fun m => decide (w ≤ 2 ^ m))).getD 14

/-- wrapadd(p, d) for wrap length w (R66). -/
def wrapadd (w p : Nat) (d : Int) : Nat :=
  if w = 0 then (((p : Int) + d) % 131072).toNat
  else
    let m := log2Up w
    let base := p - p % 2 ^ m
    base + ((((p - base : Nat) : Int) + d) % (w : Int)).toNat

/-- wrapadd with the wrap length of pointer k. -/
def Engine.wadd (e : Engine) (k p : Nat) (d : Int) : Nat := wrapadd (e.wrap k) p d

/-- The amount of a post-modification (R101); MOD 0 leaves the pointer as it is, also one beyond its buffer (log
entry 84). DEDUCED. -/
def Engine.modAmt (e : Engine) (k : Nat) : PMod → Option Int
  | .none => Option.none
  | .p1 => some 1
  | .m1 => some (-1)
  | .p2 => some 2
  | .m2 => some (-2)
  | .pN => some (e.ofs k)
  | .mN => some (-(e.ofs k))

/-- The group of the parameter area that holds an offset of copy 0: (start, length) pairs of PAR_GRP (R77, R94). -/
def State.parGroup (s : State) (nn o : Nat) : Option Nat :=
  (List.range 64).find? (fun g =>
    let r := s.rg (pgEng + nn) (Off.engPAR_GRP + 4 * g)
    let st := bitsN r 13 0
    let len := bitsN r 29 16
    decide (st ≤ o) && decide (o < st + len))

/-- Bit g of PAR_SEL (R77). -/
def State.parSel (s : State) (nn g : Nat) : Bool :=
  s.bit (pgEng + nn) (if g < 32 then Off.engPAR_SEL_LO else Off.engPAR_SEL_HI) (g % 32)

/-- The word an engine access reaches: an address of copy 0 inside group g goes to copy 1 while bit g of PAR_SEL is
1 (R77). -/
def State.redirect (s : State) (nn a : Nat) : Nat :=
  let base := s.rg (pgEng + nn) Off.engPAR_BASE
  let len := s.rg (pgEng + nn) Off.engPAR_LEN
  if base ≤ a ∧ a < base + len then
    match s.parGroup nn (a - base) with
    | some g => if s.parSel nn g then a + len else a
    | Option.none => a
  else a

/-- A local word busy for a posted transfer (R84). -/
def Engine.busy (e : Engine) (a : Nat) : Bool := e.mp.any (fun m => m.loc.contains a)

/-! ## What a step raises -/

/-- The events of a step: the flags of R95, and a word whose error mark a write removes. -/
inductive EEv
  | accSat | accOvf | storeSat | storeWrap
  | addrErr
  | mpHaz (a : Nat) (write : Bool)
  | mpErr
  | ce (a : Nat)
  | ue (a : Nat)
  | wrote (a : Nat)
  deriving DecidableEq, Repr

/-! ## Bus reads -/

/-- A data word read on a bus (X where isX), or 0 with the fault that forbids it (R65, R84, R89, R90). first is the
first address of a pair, whose memory the second word must share (R67). -/
def State.busWord (s : State) (nn : Nat) (e : Engine) (isX : Bool) (first a : Nat) : Word × List EEv :=
  let m := emem a
  if m = .none ∨ m ≠ emem first ∨ (isX ∧ m = .ym) ∨ (¬ isX ∧ m = .xm) then (0, [.addrErr])
  else
    let a' := s.redirect nn a
    if e.busy a' then (0, [.mpHaz a' false])
    else match s.eccAt 4 (winAddr nn a') with
      | 0 => (e.word a', [])
      | 1 => (e.word a', [.ce a'])
      | _ => (0, [.ue a'])

/-- g_k(SX) of a ramp unit (R71), as a word. -/
def Engine.ramp (e : Engine) (k j : Nat) : Word :=
  if e.gainC k = 0 ∨ e.gainC k ≤ j + 1 then BitVec.ofInt 32 (e.gainT k)
  else BitVec.ofInt 32 (e.gainV k + ((j + 1 : Nat) : Int) * e.gainS k)

/-- What a bus read loads: latch 0, latch 1, the pointer it modifies and by how much, and its events. -/
structure BusRes where
  l0 : Option Word := Option.none
  l1 : Option Word := Option.none
  md : Option (Nat × Int) := Option.none
  ev : List EEv := []
  deriving DecidableEq, Repr

/-- A bus read (R100 to R102). -/
def State.busRead (s : State) (nn : Nat) (e : Engine) (isX : Bool) : BusRd → BusRes
  | .off => {}
  | .one k md l =>
    let a := e.ptr k
    let r := s.busWord nn e isX a a
    let m := (e.modAmt k md).map (fun d => (k.val, d))
    if l then { l1 := some r.1, md := m, ev := r.2 } else { l0 := some r.1, md := m, ev := r.2 }
  | .pair k md =>
    let a := e.ptr k
    let r := s.busWord nn e isX a a
    let r' := s.busWord nn e isX a (e.wadd k a 1)
    { l0 := some r.1, l1 := some r'.1, md := (e.modAmt k md).map (fun d => (k.val, d)), ev := r.2 ++ r'.2 }
  | .dreg d l => if l then { l1 := some (e.rd d) } else { l0 := some (e.rd d) }
  | .ramp g l => if l then { l1 := some (e.ramp g e.sx) } else { l0 := some (e.ramp g e.sx) }
  | .dpair i => { l0 := some (e.rd (2 * i.val)), l1 := some (e.rd (2 * i.val + 1)) }
  | .idx k ix sh =>
    let a := e.wadd k (e.ptr k) (toSigned 32 (e.rd ix).toNat / (2 : Int) ^ sh.val)
    let r := s.busWord nn e isX a a
    { l0 := some r.1, ev := r.2 }

/-! ## Accumulators (R58 to R62) -/

/-- fit(r, SAT): the 80-bit accumulator result and its flag (R61, R106). -/
def fitAcc (r : Int) (sat : Bool) : Int × List EEv :=
  if -(2 : Int) ^ 79 ≤ r ∧ r ≤ 2 ^ 79 - 1 then (r, [])
  else if sat then (clampI (-(2 : Int) ^ 79) (2 ^ 79 - 1) r, [.accSat])
  else (toSigned 80 (ofSigned 80 r), [.accOvf])

/-- The shift -16 to +15 of a five-bit field in two's complement. -/
def shift5 (v : Nat) : Int := toSigned 5 v

/-- x = A * 2^(s - 31) rounded to an integer (R62). -/
def roundStore (a : Int) (k : Nat) : Rnd → Int
  | .trunc => a / (2 : Int) ^ k
  | .halfUp => (a + (2 : Int) ^ (k - 1)) / (2 : Int) ^ k
  | .conv =>
    let q := a / (2 : Int) ^ k
    let r := a % (2 : Int) ^ k
    if 2 * r < (2 : Int) ^ k then q
    else if (2 : Int) ^ k < 2 * r then q + 1
    else if q % 2 = 0 then q else q + 1

/-- The stored word of an accumulator, with its flag (R62). -/
def storeAcc (a : Int) (sh : Nat) (h : Hd) : Word × List EEv :=
  let k := (31 - shift5 sh).toNat
  let q := roundStore a k h.rnd
  if -(2 : Int) ^ 31 ≤ q ∧ q ≤ 2 ^ 31 - 1 then (BitVec.ofInt 32 q, [])
  else if h.sat then (BitVec.ofInt 32 (clampI (-(2 : Int) ^ 31) (2 ^ 31 - 1) q), [.storeSat])
  else (BitVec.ofInt 32 q, [.storeWrap])

/-! ## The write field (R103, R104) -/

/-- The word a write field stores, from the start-of-step engine. -/
def Engine.srcWord (e : Engine) (h : Hd) : WSrc → Word × List EEv
  | .acc a sh => storeAcc (e.accV a) sh h
  | .dreg d => (e.rd d, [])

/-- A word written to memory by the engine: the fault that discards it, or the word in place (R65, R84). A detached
engine's writes to OB are discarded (R33). -/
def State.memWrite (s : State) (nn : Nat) (old e : Engine) (a : Nat) (v : Word) : Engine × List EEv :=
  let m := emem a
  if m = .none ∨ m = .ib then (e, [.addrErr])
  else
    let a' := s.redirect nn a
    if old.busy a' then (e, [.mpHaz a' true])
    else if m = .ob ∧ (old.st = .detached ∨ old.st = .skipping) then (e, [])
    else (e.setWord a' v, [.wrote a'])

/-- The write of a step: old is the engine at the start of the step, e what the step has made of it so far. -/
def State.writeField (s : State) (nn : Nat) (old e : Engine) (h : Hd) : WrF → Engine × List EEv × Option (Nat × Int)
  | .off => (e, [], Option.none)
  | .on (.dreg d) src =>
    let r := old.srcWord h src
    (e.setD d r.1, r.2, Option.none)
  | .on (.mem k md) src =>
    let r := old.srcWord h src
    let w := s.memWrite nn old e (old.ptr k) r.1
    (w.1, r.2 ++ w.2, (old.modAmt k md).map (fun d => (k.val, d)))

/-- A post-modification applied to the engine, with the wrap length of the start of the step (R57, R66). -/
def applyMod (old e : Engine) : Option (Nat × Int) → Engine
  | Option.none => e
  | some (k, d) => e.setP k (old.wadd k (e.ptr k) d)

end Sys2Proof.Machine
end

