-- ==== Sys2Proof/Machine/EngStep.lean ====
section
/-! DEFINITION. One step of a Bareel engine: fetch, the step of each kind of instruction, the loop stack, posts to the
memory port, the end of a beat with the ramp advance, and the errors of an engine (R55 to R121). -/

namespace Sys2Proof.Machine

/-! ## Rates and the tick -/

/-- The beats of a tick: those of the running image's beat plan; one beat without a running image (log entry 42).
DESIGN CHOICE. -/
def State.beatsN (s : State) : Nat := max 1 s.sched.a.beats

/-- The beat in progress, 0 between ticks (R47). -/
def State.beat (s : State) : Nat := s.fld pgEsc Off.escSTAT 4 1

/-! ## Errors of an engine (R91, R95, R96) -/

/-- Flags set in STAT, and in INT_RAW for bits [13:4] (R96). -/
def State.engFlag (s : State) (nn bits : Nat) : State :=
  (s.orRg (pgEng + nn) Off.engSTAT bits).setInt (pgEng + nn) (bitsN bits 13 4 * 16)

/-- A flag of an engine that is an error of a class; the four arithmetic flags raise no interrupt (R96). -/
def State.engErr (s : State) (nn cls bit addr master ty : Nat) : State :=
  (s.orRg (pgEng + nn) Off.engSTAT (2 ^ bit)).raiseErr (pgEng + nn) cls (if 4 ≤ bit then 2 ^ bit else 0) addr master ty

/-- A Fatal error: the engine stops in FAULT, and the active unit of a pair strikes (R36, R70, R120). Only a Fatal
overrun leaves the engine's bit of ESC.DETACHED set (R91). -/
def State.engFatal (s : State) (nn bit addr ty : Nat) : State :=
  let s := s.modEngine nn (fun e => { e with st := .fault, waiting := false, startDue := false, stopDue := false })
  let s := s.setBit pgEsc Off.escDETACHED nn (bit == 12)
  let s := s.orRg (pgEng + nn) Off.engSTAT (2 ^ bit + 2 ^ 13)
  s.raiseErr (pgEng + nn) 3 (2 ^ bit + 2 ^ 13 + 2 ^ 14) addr (midEng nn) ty

/-- A corrected read of a memory word of an engine (R89). -/
def State.engCe (s : State) (nn addr master ty : Nat) : State :=
  (s.inc (pgEng + nn) Off.engECC_CE_CNT).engErr nn 1 7 addr master ty

/-- An uncorrectable data word of an engine (R90); the next health word shows it (R345). -/
def State.engUe (s : State) (nn addr master ty : Nat) : State :=
  let s := (s.inc (pgEng + nn) Off.engECC_UE_CNT).engErr nn 2 8 addr master ty
  { s with pair := { s.pair with failMem := true } }

/-- The type of an instruction fetch in a capture. -/
def tyFetch : Nat := accType false true false 8

/-- One event of a step of engine nn at the instruction pc. -/
def State.engEvent (s : State) (nn pc : Nat) : EEv → State
  | .accSat => s.engFlag nn 1
  | .accOvf => s.engErr nn 2 1 (regAddr (pgEng + nn) 0) (midEng nn) 0
  | .storeSat => s.engFlag nn 4
  | .storeWrap => s.engFlag nn 8
  | .addrErr => s.engErr nn 2 4 (pmAddr nn pc) (midEng nn) tyFetch
  | .mpHaz a w => s.engErr nn 2 5 (winAddr nn a) (midEng nn) (accType w false false 4)
  | .mpErr => s.engErr nn 2 6 (regAddr (pgEng + nn) 0) (midEng nn) 0
  | .ce a => s.engCe nn (winAddr nn a) (midEng nn) (accType false false false 4)
  | .ue a => s.engUe nn (winAddr nn a) (midEng nn) (accType false false false 4)
  | .wrote a => s.setEcc 4 (winAddr nn a) 0

/-- The place of an event among those of its step, which fall in one instant: Contained errors by their bits, then the
Corrected (R473). -/
def EEv.rank : EEv → Nat
  | .accOvf => 1 | .addrErr => 4 | .mpHaz _ _ => 5 | .mpErr => 6 | .ue _ => 8 | .ce _ => 16
  | .accSat | .storeSat | .storeWrap | .wrote _ => 32

/-- An event put among sorted ones, before its equals. -/
def putEvent (ev : EEv) : List EEv → List EEv
  | [] => [ev]
  | e :: es => if ev.rank ≤ e.rank then ev :: e :: es else e :: putEvent ev es

/-- The events of a step (R473). -/
def State.engEvents (s : State) (nn pc : Nat) (evs : List EEv) : State :=
  (evs.foldr putEvent []).foldl (fun st ev => st.engEvent nn pc ev) s

/-! ## The loop stack and the program counter (R115) -/

/-- The stack and the next instruction after the one at pc. -/
def loopNext : List Loop → Nat → List Loop × Nat
  | [], pc => ([], pc + 1)
  | l :: ls, pc =>
    if pc = l.fin then
      if 1 < l.rem then ({ l with rem := l.rem - 1 } :: ls, l.start) else loopNext ls pc
    else (l :: ls, pc + 1)

/-- The engine after the instruction at its PC: one step counted, the next instruction chosen. -/
def Engine.advance (e : Engine) : Engine :=
  let r := loopNext e.loops e.pc
  { e with loops := r.1, pc := r.2, steps := e.steps + 1 }

/-- The sample index after an advance (R105, R106). -/
def Engine.bumpSx (e : Engine) (t : Nat) (sxa : Bool) : Engine :=
  if sxa then { e with sx := (e.sx + 1) % t } else e

/-! ## P-format steps (R106 to R109) -/

/-- The step of a P-format instruction: reads, the accumulator work f on the loaded latches, the write from the
start-of-step accumulators, the post-modifications in the order X, Y, write, and the SX advance (R56, R57). -/
def State.pStep (s : State) (nn : Nat) (e : Engine) (h : Hd) (p : PFields)
    (f : Engine → Engine × List EEv) : Engine × List EEv :=
  let rx := s.busRead nn e true p.xf
  let ry := s.busRead nn e false p.yf
  let e1 := { e with x0 := rx.l0.getD e.x0, x1 := rx.l1.getD e.x1, y0 := ry.l0.getD e.y0, y1 := ry.l1.getD e.y1 }
  let r := f e1
  let w := s.writeField nn e r.1 h p.wf
  let e2 := applyMod e (applyMod e (applyMod e w.1 rx.md) ry.md) w.2.2
  (e2.bumpSx s.T p.sxa, rx.ev ++ ry.ev ++ r.2 ++ w.2.1)

/-- The products of the latches: p00, p01, p10, p11, exact in Q2.62 (R59). -/
def Engine.prods (e : Engine) : Int × Int × Int × Int :=
  let x0 := e.x0.toInt
  let x1 := e.x1.toInt
  let y0 := e.y0.toInt
  let y1 := e.y1.toInt
  (x0 * y0, x0 * y1, x1 * y0, x1 * y1)

/-- The sums of products that a multiplier mode adds to accumulators a, a + 1, ... (R59, R106). -/
def MacMode.sums (m : MacMode) (p : Int × Int × Int × Int) : List Int :=
  match m with
  | .s => [p.1]
  | .d => [p.1 + p.2.2.2]
  | .du => [p.1 + p.2.2.2, p.2.1 + p.2.2.1]
  | .q => [p.1, p.2.1, p.2.2.1, p.2.2.2]
  | .sum => [p.1 + p.2.1 + p.2.2.1 + p.2.2.2]

/-- The multiplier operation on accumulators a, a + 1, ...: each exact result checked once (R60, R61). -/
def Engine.macInto (e : Engine) (x : MacOpx) (sat : Bool) : Nat → List Int → Engine × List EEv
  | _, [] => (e, [])
  | a, v :: vs =>
    let base := if x.repl then 0 else e.accV a
    let r := fitAcc (base + (if x.neg then -v else v)) sat
    let t := (e.setAcc a r.1).macInto x sat (a + 1) vs
    (t.1, r.2 ++ t.2)

/-- ACC.LD and ACC.ADD: v = sg * w * 2^31 from latch X0 or Y0 (R58, R108). -/
def Engine.latchVal (e : Engine) (neg ls : Bool) : Int :=
  let w := if ls then e.y0.toInt else e.x0.toInt
  (if neg then -w else w) * (2 : Int) ^ 31

/-- An accumulator replaced by a fitted result. -/
def Engine.fitInto (e : Engine) (a : Nat) (r : Int) (sat : Bool) : Engine × List EEv :=
  let q := fitAcc r sat
  (e.setAcc a q.1, q.2)

/-! ## R-format steps (R110 to R112) -/

/-- The operand B: the sign-extended IMM5, or Db (R110). -/
def Engine.opB (e : Engine) : OpB → Int
  | .dreg d => (e.rd d).toInt
  | .imm v => shift5 v

/-- An ALU result in 32 bits: clamped, or wrapped (R110). -/
def alu32 (sat : Bool) (r : Int) : Word :=
  if sat then BitVec.ofInt 32 (clampI (-(2 : Int) ^ 31) (2 ^ 31 - 1) r) else BitVec.ofInt 32 r

/-- The two-operand ALU operations (R110). -/
def aluOp (o : Alu2) (sat : Bool) (da : Word) (b : Int) : Word :=
  let bw : Word := BitVec.ofInt 32 b
  let n := bw.toNat % 32
  match o with
  | .add => alu32 sat (da.toInt + b)
  | .sub => alu32 sat (da.toInt - b)
  | .and => da &&& bw
  | .or => da ||| bw
  | .xor => da ^^^ bw
  | .shl => alu32 sat (da.toInt * (2 : Int) ^ n)
  | .shra => BitVec.ofInt 32 (da.toInt / (2 : Int) ^ n)
  | .shrl => da >>> n
  | .min => if da.toInt ≤ b then da else bw
  | .max => if b ≤ da.toInt then da else bw

/-- The CMP conditions (R111). -/
def cmpCond (c : Nat) (da : Word) (b : Int) : Bool :=
  let a := da.toInt
  let bu := (BitVec.ofInt 32 b : Word).toNat
  match c with
  | 0 => a == b
  | 1 => a != b
  | 2 => decide (a < b)
  | 3 => decide (a ≤ b)
  | 4 => decide (b < a)
  | 5 => decide (b ≤ a)
  | 6 => decide (da.toNat < bu)
  | _ => decide (bu ≤ da.toNat)

/-- The SEL tests (R111). -/
def selTest (c : Nat) (v : Word) : Bool :=
  let x := v.toInt
  match c with
  | 0 => decide (x < 0)
  | 1 => decide (0 ≤ x)
  | 2 => x == 0
  | 3 => x != 0
  | 4 => decide (0 < x)
  | _ => decide (x ≤ 0)

/-- The value a special register gives a D register (R112). -/
def Engine.xget (e : Engine) : XReg → Word
  | .p k => w32 (e.ptr k)
  | .n k => BitVec.ofInt 32 (e.ofs k)
  | .w k => w32 (e.wrap k)
  | .sx => w32 e.sx

/-- A special register takes a D register's value (R63). -/
def Engine.xset (e : Engine) (t : Nat) (v : Word) : XReg → Engine
  | .p k => e.setP k (v.toNat % 131072)
  | .n k => e.setN k (toSigned 17 v.toNat)
  | .w k => e.setW k (v.toNat % 32768)
  | .sx => { e with sx := v.toNat % t }

/-- The step of an R-format instruction: f is its result on the engine, made before the write field, which stands
where both write one D register (R105); fin is a result that stands over the step's other changes (MOVX). -/
def State.rStep (s : State) (nn : Nat) (e : Engine) (h : Hd) (sxa : Bool) (wf : WrF)
    (f : Engine → Engine) (fin : Engine → Engine) : Engine × List EEv :=
  let w := s.writeField nn e (f e) h wf
  let e2 := (applyMod e w.1 w.2.2).bumpSx s.T sxa
  (fin e2, w.2.1)

/-! ## Memory-port posts (R79, R82 to R86, R117) -/

/-- Word i of ring r from offset o of slot k (R79). -/
def State.slotWord (s : State) (nn k r o : Nat) : Nat :=
  let b := Off.engMB + 16 * k
  let base := s.rg (pgEng + nn) b / 4 * 4 + 2 ^ 32 * s.fld (pgEng + nn) (b + 4) 7 0
  let len := s.fld (pgEng + nn) (b + 8) 23 0
  let stride := s.fld (pgEng + nn) (b + 12) 23 0
  base + 4 * (r * stride + (if len = 0 then o else o % len))

/-- Whether a post is refused (R85, R86, R117). -/
def State.postRefused (s : State) (nn : Nat) (e : Engine) (wr : Bool) (m : MpPost) : Bool :=
  let b := Off.engMB + 16 * m.slot.val
  let a := e.ptr m.k
  let last := a + m.len.val
  !s.bit (pgEng + nn) (b + 4) 31
  || decide (s.fld (pgEng + nn) (b + 12) 31 24 < m.ring.val)
  || (wr && !s.bit (pgEng + nn) (b + 4) 30)
  || emem a == .none || emem last != emem a
  || (!wr && emem a == .ib)
  || decide (32 ≤ e.mp.length)

/-- The due beat a post names, in beat b of B (R82). -/
def dueBeat (d b bN : Nat) : Nat := if d < b ∨ bN < d then bN else d

/-- A post: the entry, or the refusal; the pointer is modified either way (R117). -/
def State.post (s : State) (nn : Nat) (e : Engine) (wr : Bool) (m : MpPost) : Engine × List EEv :=
  let o := (e.rd m.dO).toNat % 2 ^ 24
  let n := m.len.val + 1
  let a := e.ptr m.k
  let e' := applyMod e e ((e.modAmt m.k m.md).map (fun d => (m.k.val, d)))
  if s.postRefused nn e wr m then (e', [.mpErr])
  else
    let ent : MpEntry :=
      { wr := wr
        ext := (List.range n).map (fun i => s.slotWord nn m.slot.val m.ring.val (o + i))
        loc := (List.range n).map (fun i => s.redirect nn (a + i))
        due := dueBeat m.due.val (e.ended + 1) s.beatsN
        qos := 12 + s.fld (pgEng + nn) (Off.engMB + 16 * m.slot.val + 4) 25 24
        done := false }
    ({ e' with mp := e.mp ++ [ent] }, [])

/-! ## Ramps (R71 to R74) -/

/-- A ramp started on unit k with target t and count c (R73). -/
def Engine.startRamp (e : Engine) (k : Nat) (t : Int) (c : Nat) : Engine :=
  if c = 0 then e.setGain k t t 0 0
  else e.setGain k (e.gainV k) t (Int.tdiv (t - e.gainV k) c) c

/-- The advance of unit k at the end of a tick (R72). GV set so that GV + n GS leaves 32 bits is kept exactly, its
register showing the low bits (log entry 84). DESIGN CHOICE. -/
def Engine.advRamp (t : Nat) (e : Engine) (k : Nat) : Engine :=
  let c := e.gainC k
  let n := min t c
  if c = n then e.setGain k (e.gainT k) (e.gainT k) 0 0
  else e.setGain k (e.gainV k + (n : Int) * e.gainS k) (e.gainT k) (e.gainS k) (c - n)

/-- The advance of the eight units, and the starts that waited for it (R72, R74, R114). -/
def Engine.endRamps (e : Engine) (t : Nat) : Engine :=
  let e1 := (List.range 8).foldl (Engine.advRamp t) e
  let e2 := e.gramps.foldl (fun st g => st.startRamp g.1 g.2.1 g.2.2) e1
  { e2 with gramps := [] }

/-- A ramp start that waits, replacing an earlier one of the unit (R114). -/
def Engine.stageRamp (e : Engine) (k : Nat) (t : Int) (c : Nat) : Engine :=
  { e with gramps := e.gramps.filter (fun g => g.1 != k) ++ [(k, t, c)] }

/-! ## The step of an instruction -/

/-- What an instruction other than REP and END_BEAT does to its engine. -/
def State.engOp (s : State) (nn : Nat) (e : Engine) : EngInstr → Engine × List EEv
  | .nop _ => (e, [])
  | .mac m h x p => s.pStep nn e h p (fun e1 => e1.macInto x h.sat x.a.val (m.sums e1.prods))
  | .mov h p => s.pStep nn e h p (fun e1 => (e1, []))
  | .accLd h neg a ls p => s.pStep nn e h p (fun e1 => (e1.setAcc a (e1.latchVal neg ls), []))
  | .accAdd h neg a ls p => s.pStep nn e h p (fun e1 => e1.fitInto a (e1.accV a + e1.latchVal neg ls) h.sat)
  | .accMov h a b neg p => s.pStep nn e h p (fun e1 => e1.fitInto a (if neg then -(e1.accV b) else e1.accV b) h.sat)
  | .accSh h a sh p => s.pStep nn e h p (fun e1 =>
      let n := shift5 sh.val
      if 0 ≤ n then e1.fitInto a (e1.accV a * (2 : Int) ^ n.toNat) h.sat
      else (e1.setAcc a (e1.accV a / (2 : Int) ^ (-n).toNat), []))
  | .alu2 o h dd da b sxa wf =>
    s.rStep nn e h sxa wf (fun e1 => e1.setD dd (aluOp o h.sat (e.rd da) (e.opB b))) id
  | .absI h dd da sxa wf =>
    s.rStep nn e h sxa wf (fun e1 => e1.setD dd (alu32 h.sat ((e.rd da).toInt.natAbs : Int))) id
  | .negI h dd da sxa wf =>
    s.rStep nn e h sxa wf (fun e1 => e1.setD dd (alu32 h.sat (-(e.rd da).toInt))) id
  | .cmp h dd da b cond sxa wf =>
    s.rStep nn e h sxa wf
      (fun e1 => e1.setD dd (if cmpCond cond.val (e.rd da) (e.opB b) then 0xFFFFFFFF else 0)) id
  | .sel h dd da db dc test sxa wf =>
    s.rStep nn e h sxa wf (fun e1 => e1.setD dd (if selTest test.val (e.rd dc) then e.rd da else e.rd db)) id
  | .movxTo h da x sxa wf => s.rStep nn e h sxa wf id (fun e2 => e2.xset s.T (e.rd da) x)
  | .movxFrom h dd x sxa wf => s.rStep nn e h sxa wf (fun e1 => e1.setD dd (e.xget x)) id
  | .ldi _ dd imm => (e.setD dd (w32 imm.val), [])
  | .setptr _ k pv nv wv mp mn mw =>
    let e := if mp then e.setP k pv.val else e
    let e := if mn then e.setN k (toSigned 17 nv.val) else e
    (if mw then e.setW k wv.val else e, [])
  | .grampI _ k dt cnt => (e.stageRamp k (e.rd dt).toInt cnt.val, [])
  | .grampR _ k dt dc => (e.stageRamp k (e.rd dt).toInt ((e.rd dc).toNat % 2 ^ 24), [])
  | .mpr _ m => s.post nn e false m
  | .mpw _ m => s.post nn e true m
  | .rep _ _ _ => (e, [])
  | .endBeat _ => (e, [])

/-! ## Fetch -/

/-- The engine may take its next step: released, not waiting for transfers, beats left, and, while it is not detached,
in the beat in progress (R17, R33, R54). -/
def State.canStep (s : State) (e : Engine) : Bool :=
  !e.waiting && decide (e.ended < s.beatsN)
  && ((e.st == .running && e.ended + 1 == s.beat) || e.st == .detached || e.st == .skipping)

/-- The mark of the instruction an engine is about to fetch. -/
def State.fetchMark (s : State) (nn : Nat) : Nat := s.eccAt 8 (pmAddr nn (s.engine nn).pc)

/-- The instruction an engine is about to execute; none where it is illegal (R119). -/
def State.fetched (s : State) (nn : Nat) : Option EngInstr :=
  if (s.engine nn).pc < 12288 then decEng ((s.engine nn).instr (s.engine nn).pc) else none

/-- A step f of engine nn, whose fetch counts a corrected error after the step's other errors (R89, R473). -/
def State.withFetchCe (s : State) (nn : Nat) (f : State → State) : State :=
  let pc := (s.engine nn).pc
  if pc < 12288 ∧ s.fetchMark nn = 1 then (f s).engCe nn (pmAddr nn pc) (midEng nn) tyFetch else f s

/-- An uncorrectable fetch: Fatal (R90). -/
def State.fetchUe (s : State) (nn : Nat) : State :=
  let s := { s with pair := { s.pair with failMem := true } }
  (s.inc (pgEng + nn) Off.engECC_UE_CNT).engFatal nn 8 (pmAddr nn (s.engine nn).pc) tyFetch

/-- One step of engine nn whose instruction satisfies the command's mnemonic: f is what the instruction does. A step
the engine cannot take, or of another instruction, does not happen. -/
def State.engStep (s : State) (nn : Nat) (us : List (Nat × Nat)) (is : EngInstr → Bool)
    (f : EngInstr → State → State) : State :=
  let s := s.upset us
  if !s.canStep (s.engine nn) then s
  else if (s.engine nn).pc < 12288 ∧ s.fetchMark nn = 2 then s.fetchUe nn
  else match s.fetched nn with
    | some i => if is i then s.withFetchCe nn (f i) else s
    | none => s

/-- A step of an instruction other than REP, END_BEAT: its effect, its events, and the next instruction. -/
def State.plainStep (nn : Nat) (i : EngInstr) (s : State) : State :=
  let e := s.engine nn
  let r := s.engOp nn e i
  (s.setEngine nn r.1.advance).engEvents nn e.pc r.2

/-- An illegal instruction: no effect, Fatal (R120). -/
def State.illegalStep (s : State) (nn : Nat) (us : List (Nat × Nat)) : State :=
  let s := s.upset us
  if !s.canStep (s.engine nn) then s
  else if (s.engine nn).pc < 12288 ∧ s.fetchMark nn = 2 then s.fetchUe nn
  else match s.fetched nn with
    | some _ => s
    | none => s.withFetchCe nn (fun s => s.engFatal nn 10 (pmAddr nn (s.engine nn).pc) tyFetch)

/-- A loop fault (R121). -/
def State.loopFault (s : State) (nn : Nat) : State := s.engFatal nn 9 (pmAddr nn (s.engine nn).pc) tyFetch

/-- REP (R115). -/
def State.repStep (nn len cnt : Nat) (s : State) : State :=
  let e := s.engine nn
  let fin := e.pc + len + 1
  if 4 ≤ e.loops.length || decide (12287 < fin) || (e.loops.head?.any (fun l => decide (l.fin < fin))) then
    s.loopFault nn
  else
    s.setEngine nn ({ e with loops := ⟨e.pc + 1, fin, cnt + 1⟩ :: e.loops, pc := e.pc + 1, steps := e.steps + 1 })

end Sys2Proof.Machine
end

