-- ==== Sys2Proof/Machine/Rtr.lean ====
section
/-! DEFINITION. The router: route entries and their faults, sources, generators, soft switches, and the transfers of a
tick (R149 to R168). -/

namespace Sys2Proof.Machine

/-! ## Route entries (R153, R154, R168) -/

/-- What an entry holds after a reset: nothing routed, not placed (R154). -/
def entryReset : Nat → Nat := fun _ => 0x001E0000

/-- The key of entry d of a physical bank. -/
def entryKey (bank d : Nat) : Nat := bank * 16384 + d

/-- The place of an entry's error mark, above every system address. -/
def entryEcc (bank d : Nat) : Nat := 2 ^ 40 + entryKey bank d

/-- An entry as a bank holds it. -/
def State.entry (s : State) (bank d : Nat) : Nat := smapGet entryReset s.rtr.tbl (entryKey bank d)

/-- An entry written: its error mark goes. -/
def State.setEntry (s : State) (bank d v : Nat) : State :=
  { s with rtr := { s.rtr with tbl := smapSet entryReset s.rtr.tbl (entryKey bank d) v }
           ecc := smapSet zeroN s.ecc (entryEcc bank d) 0 }

def entSrc (v : Nat) : Nat := bitsN v 13 0
def entEn (v : Nat) : Bool := bitN v 14
def entSoft (v : Nat) : Bool := bitN v 15
def entByp (v : Nat) : Bool := bitN v 16
def entXfer (v : Nat) : Nat := bitsN v 20 17
def entC1 (v : Nat) : Bool := bitN v 21

/-- The error mark of an entry: 0 none, 1 and 3 correctable, 2 and 4 uncorrectable; 3 and 4 have been reported. -/
def State.entryMark (s : State) (bank d : Nat) : Nat := smapGet zeroN s.ecc (entryEcc bank d)

/-- A fault of a route entry is met: counted and raised once (R168). An uncorrectable entry shows in the next health
word (R345). -/
def State.meetEntry (s : State) (bank d addr master : Nat) : State :=
  match s.entryMark bank d with
  | 1 =>
    let s := { s with ecc := smapSet zeroN s.ecc (entryEcc bank d) 3 }
    (s.inc pgRtr Off.rtrECC_CE_CNT).raiseErr pgRtr 1 2 (regAddr pgRtr 0) master 0
  | 2 =>
    let s := { s with ecc := smapSet zeroN s.ecc (entryEcc bank d) 4, pair := { s.pair with failMem := true } }
    (s.inc pgRtr Off.rtrECC_UE_CNT).raiseErr pgRtr 2 4 addr master 0
  | _ => s

/-- Destinations of a bank that carry an unreported mark. -/
def State.freshMarks (s : State) (bank : Nat) : List Nat :=
  (s.ecc.filter (fun e => decide (entryEcc bank 0 ≤ e.1) && decide (e.1 < entryEcc (bank + 1) 0) && decide (e.2 ≤ 2))).map
    (fun e => e.1 - entryEcc bank 0)

/-- Each transfer reads the live bank, and meets its faults (R168). -/
def State.meetLive (s : State) : State :=
  forEach (s.freshMarks s.rtr.live) (fun d st => st.meetEntry st.rtr.live d d midRouter) s

/-- An uncorrectable entry. -/
def State.entryBad (s : State) (bank d : Nat) : Bool := s.entryMark bank d == 2 || s.entryMark bank d == 4

/-- An entry as the router uses it: an uncorrectable one counts as EN = 0, and carries no bypass (R168). -/
def State.effEntry (s : State) (bank d : Nat) : Nat :=
  let v := s.entry bank d
  if s.entryBad bank d then putBits (putBits v 14 14 0) 16 16 0 else v

/-- The live entry of destination d as the router uses it. -/
def State.liveEntry (s : State) (d : Nat) : Nat := s.effEntry s.rtr.live d

/-- The destinations listed in a bank, rising. -/
def State.listed (s : State) (bank : Nat) : List Nat :=
  (s.rtr.tbl.filter (fun e => e.1 / 16384 == bank)).map (fun e => e.1 % 16384)

/-- A pending soft switch of destination d. -/
def State.softOf (s : State) (d : Nat) : Option SoftSw := (s.rtr.sw.find? (fun p => p.1 == d)).map (fun p => p.2)

/-- The pending switch of d replaced, opened or closed; PENDING follows (R171). -/
def State.setSoft (s : State) (d : Nat) (w : Option SoftSw) : State :=
  let rest := s.rtr.sw.filter (fun p => p.1 != d)
  let sw := match w with
    | none => rest
    | some x => rest ++ [(d, x)]
  { s with rtr := { s.rtr with sw := sw } }.setRg pgGain Off.gainPENDING sw.length

/-! ## Signal numbers (R149, R150) -/

/-- Reserved source numbers. -/
def srcReserved (n : Nat) : Bool := decide (0x0AA0 ≤ n ∧ n < 0x1000)

/-- Reserved destination numbers. -/
def dstReserved (n : Nat) : Bool := decide (0x0A20 ≤ n ∧ n < 0x1000)

/-- The serial audio slots, the only ends of a bypass (R157). -/
def isSlot (n : Nat) : Bool := decide (0x0800 ≤ n ∧ n < 0x0A00)

/-! ## Generators (R151, R152) -/

/-- Rounding of n / 2^k to the nearest integer, ties to even. -/
def convDiv (n : Int) (k : Nat) : Int :=
  let q := n / (2 : Int) ^ k
  let r := n % (2 : Int) ^ k
  if 2 * r < (2 : Int) ^ k then q
  else if (2 : Int) ^ k < 2 * r then q + 1
  else if q % 2 = 0 then q else q + 1

/-- 2 pi in units of 2^-160. -/
def twoPi : Nat := 9182885614096437842769610399486622256908310048836

/-- The Taylor terms of the sine from the term t on, x2 the square of the argument, all in units of 2^-160. -/
def sinTerms (x2 : Int) : Nat → Nat → Int → Int
  | 0, _, _ => 0
  | n + 1, k, t => t + sinTerms x2 n (k + 1) (-(t * x2 / 2 ^ 160) / ((2 * k + 2) * (2 * k + 3) : Nat))

/-- The sine of i / 4,096 of a turn within the first quarter, in units of 2^-160. -/
def sinQuarter (i : Nat) : Int :=
  let x : Int := (twoPi * i / 4096 : Nat)
  sinTerms (x * x / 2 ^ 160) 24 0 x

/-- e[i] of R151. -/
def sineE (i : Nat) : Int :=
  let q : Nat := i % 4096
  let m := if q ≤ 1024 then sinQuarter q
    else if q ≤ 2048 then sinQuarter (2048 - q)
    else if q ≤ 3072 then -sinQuarter (q - 2048)
    else -sinQuarter (4096 - q)
  convDiv ((2 ^ 31 - 1) * m) 160

/-- One sample of a generator and its next state (R151). -/
def Gen.step (g : Gen) (mode : Nat) (level : Int) (freq : Nat) : Int × Gen :=
  match mode with
  | 1 =>
    let i : Nat := g.phase / 2 ^ 20
    let f : Nat := g.phase % 2 ^ 20
    let sv := sineE i + (sineE (i + 1) - sineE i) * (f : Int) / 2 ^ 20
    (convDiv (level * sv) 31, { g with phase := (g.phase + freq) % 2 ^ 32 })
  | 2 =>
    (convDiv (level * toSigned 32 g.noise) 31,
      { g with noise := (g.noise / 2) ^^^ (if g.noise % 2 = 1 then 0x80200003 else 0) })
  | 3 => (level, g)
  | 4 =>
    (if g.imp = 0 then level else 0,
      { g with imp := (if freq = 0 then 1 else (g.imp + 1) % freq) })
  | _ => (0, g)

/-- T samples of a generator. -/
def Gen.block (mode : Nat) (level : Int) (freq : Nat) : Nat → Gen → List Int × Gen
  | 0, g => ([], g)
  | n + 1, g =>
    let r := g.step mode level freq
    let t := Gen.block mode level freq n r.2
    (r.1 :: t.1, t.2)

/-- A generator that no hoist has set. -/
def genReset : Nat → Gen := fun _ => {}

/-- The value in effect of a staged register (R5). -/
def State.eff (s : State) (page off : Nat) : Nat := (smapGet resetWord s.sched.eff (rkey page off)).toNat

/-- A word of a port's or generator's block. -/
def sigKey (n j : Nat) : Nat := n * 32 + j

/-- A block put into a map of sample blocks. -/
def putBlock (m : SMap Word) (n : Nat) (ws : List Word) : SMap Word :=
  (List.range ws.length).foldl (fun m j => smapSet zeroW m (sigKey n j) (ws.getD j 0)) m

/-- The block of T words of a signal in a map. -/
def getBlock (m : SMap Word) (n t : Nat) : List Word := (List.range t).map (fun j => smapGet zeroW m (sigKey n j))

/-- Generator g makes its block of the released tick. NOISE of LEVEL -1 gives +1 where r is -1, which Q1.31 does not hold: that
sample is a free value (R151; log entry 4). -/
def State.genTick (g : Nat) (s : State) : State :=
  let o := Off.rtrGEN + 16 * g
  let mode := bitsN (s.eff pgRtr o) 2 0
  let r := Gen.block mode (toSigned 32 (s.eff pgRtr (o + 4))) (s.eff pgRtr (o + 8)) s.T (smapGet genReset s.rtr.gens g)
  let big (y : Int) : Bool := decide ((2 : Int) ^ 31 ≤ y)
  let w (y : Int) : Word := if big y then Config.freeWord s.freeCtr else BitVec.ofInt 32 y
  { s with rtr := { s.rtr with gens := smapSet genReset s.rtr.gens g r.2 }
           freeCtr := s.freeCtr + b2n (r.1.any big)
           sig := { s.sig with cur := putBlock s.sig.cur (0x0A60 + g) (r.1.map w) } }

/-- All generators make their blocks. -/
def State.genAll (s : State) : State := forEach (List.range 64) State.genTick s

/-! ## Sources (R149, R156) -/

def tdmReset : Nat → TdmPort := fun _ => {}

/-- Serial audio port p. -/
def State.port (s : State) (p : Nat) : TdmPort := smapGet tdmReset s.tdm p

/-- A format field of a port, and its slot count (R191). -/
def State.fmt (s : State) (p hi lo : Nat) : Nat := s.fld (pgTdm + p) Off.tdmFMT hi lo
def State.fmtSlots (s : State) (p : Nat) : Nat := s.fmt p 6 2 + 1

/-- A port runs: past OFF and ARMED. -/
def TdmPort.runs (t : TdmPort) : Bool := decide (2 ≤ t.inD.ph)

/-- The channel capacity of the network and of each Carix port at the sample rate in force (R149). -/
def State.chanCap (s : State) : Nat := if s.fs ≤ 96000 then 2048 else 1024

/-- A slot of a serial audio port is available below its slot count while the port runs, and a network or Carix channel
below the capacity; the other blocks below 0x2000 hold 0 by themselves while their channel is stopped (R149). -/
def State.srcUp (s : State) (n : Nat) : Bool :=
  if 0x800 ≤ n ∧ n < 0xA00 then
    (s.port ((n - 0x800) / 32)).runs && decide ((n - 0x800) % 32 < s.fmtSlots ((n - 0x800) / 32))
  else if n < 0x800 ∨ 0x1000 ≤ n then decide (n % 0x800 < s.chanCap)
  else true

/-- A block of zeros. -/
def zeroBlock (t : Nat) : List Word := List.replicate t 0

/-- The word of an engine output that the router reads, with its memory error (R89, R90). -/
def State.obWord (s : State) (nn a : Nat) (v : Word) : Word × State :=
  match s.eccAt 4 (winAddr nn a) with
  | 0 => (v, s)
  | 1 => (v, s.engCe nn (winAddr nn a) midRouter (accType false false false 4))
  | _ => (0, s.engUe nn (winAddr nn a) midRouter (accType false false false 4))

/-- T words of an engine output signal from the map m. -/
def State.obWords (s : State) (nn i : Nat) (m : SMap Word) : List Nat → List Word × State
  | [] => ([], s)
  | j :: js =>
    let a := 0xA000 + 32 * i + j
    let r := s.obWord nn a (smapGet zeroW m a)
    let t := r.2.obWords nn i m js
    (r.1 :: t.1, t.2)

/-- The beat in which an engine output signal is completed; B where none is recorded (R155). -/
def State.doneBeat (s : State) (sg : Nat) : Nat :=
  let b := smapGet zeroN s.sched.a.done sg
  if b = 0 then s.beatsN else b

/-- What a map of blocks reads as where it holds none. -/
def noBlock : Nat → List Word := fun _ => []

/-- What a map of delivered blocks becomes with the blocks of the tick over it. -/
def mergeBlocks (new old : SMap (List Word)) : SMap (List Word) := new.foldl (fun m e => smapSet noBlock m e.1 e.2) old

/-- The block of source n in transfer x (R149, R156, R32). A signal of a held engine that no transfer has delivered
yet carries its output buffer (log entry 17). DESIGN CHOICE. -/
def State.srcBlock (s : State) (x n : Nat) : List Word × State :=
  if n < 0x2000 then (if s.srcUp n then getBlock s.sig.cur n s.T else zeroBlock s.T, s)
  else
    let nn := (n - 0x2000) / 256
    let i := (n - 0x2000) % 256
    let e := s.engine nn
    let js := List.range s.T
    match e.st with
    | .running =>
      let r := s.obWords nn i (if s.doneBeat (n - 0x2000) ≤ x then e.dm else e.obPrev) js
      (r.1, r.2.modEngine nn (fun e => { e with cand := smapSet noBlock e.cand i r.1 }))
    | .detached | .skipping =>
      let h := smapGet noBlock e.hold i
      if h ≠ [] then (h, s) else if e.fresh then (zeroBlock s.T, s) else s.obWords nn i e.dm js
    | _ => (zeroBlock s.T, s)

/-- The block of a source or of silence. -/
def State.optBlock (s : State) (x : Nat) : Option Nat → List Word × State
  | none => (zeroBlock s.T, s)
  | some n => s.srcBlock x n

/-! ## Soft switches (R161, R162) -/

/-- The magnitude of a sample: that of -1 is 2^31. -/
def magn (w : Word) : Nat := w.toInt.natAbs

/-- The samples lie on different sides of zero, 0 counted as positive. -/
def crosses (p w : Word) : Bool := decide (p.toInt < 0) != decide (w.toInt < 0)

/-- The first sample that meets a test of R161, and which: 1 threshold, 2 crossing. -/
def findSwitch (th : Nat) : Option (Word × Word) → Nat → List (Word × Word) → Option (Nat × Nat)
  | _, _, [] => none
  | prev, j, p :: ps =>
    if magn p.1 ≤ th ∧ magn p.2 ≤ th then some (j, 1)
    else if prev.any (fun q => crosses q.1 p.1 || crosses q.2 p.2) then some (j, 2)
    else findSwitch th (some p) (j + 1) ps

/-- A switch closes on its new source: the counter, the record and the flag of how (1, 2 test; 3 timeout). -/
def State.closeSoft (s : State) (d how j : Nat) : State :=
  let s := (s.setSoft d none).setRg pgGain Off.gainLAST (d + how * 2 ^ 16 + j * 2 ^ 18)
  if how = 3 then (s.inc pgGain Off.gainTIMEOUT_CNT).intBit pgGain 0 else s.inc pgGain Off.gainSOFT_CNT

/-- The timeout of R162 in effect. -/
def State.zcTimeout (s : State) : Nat := s.rg pgGain Off.gainZC_TIMEOUT

/-- The block GAIN composes for destination d with the pending switch w (R161, R162). -/
def State.compose (s : State) (x d : Nat) (w : SoftSw) : List Word × State :=
  if s.zcTimeout ≤ w.count then
    (s.closeSoft d 3 0).optBlock x w.new
  else
    let ra := s.optBlock x w.old
    let rb := ra.2.optBlock x w.new
    let ps := ra.1.zip rb.1
    match findSwitch (s.rg pgGain Off.gainZC_THRESH) w.last 0 ps with
    | some (j, how) => (ra.1.take j ++ rb.1.drop j, rb.2.closeSoft d how j)
    | none => (ra.1, rb.2.setSoft d (some { w with count := w.count + 1, last := ps.getLast? }))

/-- A tick in which d's switch is not searched (R162). -/
def State.unsearched (s : State) (d : Nat) : State :=
  match s.softOf d with
  | some w => s.setSoft d (some { w with count := w.count + 1, last := none })
  | none => s

/-! ## Transfers (R156) -/

/-- A block reaches an engine input signal; a skipping engine's transfers are suppressed, a stopped one's are
discarded (R33, R150). -/
def State.toEngine (s : State) (nn i : Nat) (ws : List Word) : State :=
  let e := s.engine nn
  if e.st = .running ∨ e.st = .detached then
    let a (j : Nat) := 0x8000 + 32 * i + j
    let s := s.setEngine nn ((List.range ws.length).foldl (fun e j => e.setWord (a j) (ws.getD j 0)) e)
    (List.range ws.length).foldl (fun st j => st.setEcc 4 (winAddr nn (a j)) 0) s
  else s

/-- A block reaches destination d; an output-port destination that a fabric overrun has closed keeps its block
(R37). -/
def State.toDest (s : State) (d : Nat) (ws : List Word) : State :=
  if 0x2000 ≤ d then s.toEngine ((d - 0x2000) / 256) ((d - 0x2000) % 256) ws
  else if s.esc.fabOvrNow then s
  else { s with sig := { s.sig with dest := putBlock s.sig.dest d ws } }

/-- Whether destination d carries blocks of the tick path. -/
def State.carries (s : State) (d : Nat) : Bool :=
  let v := s.liveEntry d
  !entByp v && (entEn v || (s.softOf d).isSome) && !s.entryBad s.rtr.live d

/-- The transfer that moves destination d: that of its entry, and transfer B for one that is not placed, whose pending
switch between two silences closes there (R161; log entry 43). DEDUCED. -/
def State.xferOf (s : State) (d : Nat) : Nat :=
  let x := entXfer (s.liveEntry d)
  if x = 0xF then s.beatsN else x

/-- Destinations that transfer x moves, marked ones first (R156, R167). -/
def State.moves (s : State) (x : Nat) : List Nat :=
  let ds := (s.listed s.rtr.live).filter (fun d => s.carries d && s.xferOf d == x)
  ds.filter (fun d => entC1 (s.liveEntry d)) ++ ds.filter (fun d => !entC1 (s.liveEntry d))

/-- GAIN composes the block of destination d in transfer x. -/
def State.composeTo (x d : Nat) (s : State) : State :=
  match s.softOf d with
  | some w =>
    let r := s.compose x d w
    r.2.toDest d r.1
  | none => s

/-- One destination of transfer x. An output port with a pending switch gets its block where transfer B delivers it
(`composeB`), so that one which a fabric overrun closes makes no search (R162). -/
def State.moveOne (x d : Nat) (s : State) : State :=
  match s.softOf d with
  | some _ => if d < 0x2000 ∧ (s.esc.fabOvrNow ∨ x = s.beatsN) then s else State.composeTo x d s
  | none =>
    let r := s.srcBlock x (entSrc (s.liveEntry d))
    r.2.toDest d r.1

/-- Engine input signals whose destination satisfies p carry 0. -/
def State.ibSilent (p : Nat → Bool) (s : State) : State :=
  forEach (List.range 32) (fun nn st =>
    st.modEngine nn (fun e =>
      if e.st == .running || e.st == .detached then
        { e with dm := smapKeep (fun a => emem a != .ib || !p (0x2000 + 256 * nn + (a - 0x8000) / 32)) e.dm }
      else e)) s

/-- A destination without a route carries 0 (R19): engine input signals at transfer 0, or at their own transfer where their
entry has become uncorrectable since (R168); output ports at transfer B. -/
def State.silence (s : State) (x : Nat) : State :=
  let s := if x = 0 then State.ibSilent (fun d => !s.carries d) s
    else State.ibSilent (fun d => s.entryBad s.rtr.live d && s.xferOf d == x) s
  if x = s.beatsN ∧ ¬ s.esc.fabOvrNow then
    { s with sig := { s.sig with dest := smapKeep (fun k => s.carries (k / 32)) s.sig.dest } }
  else s

/-- A pending switch whose live entry is uncorrectable: its destination carries 0, and the tick counts without a search
(R162, R168; log entry 43). DEDUCED. -/
def State.badSwitch (d : Nat) (s : State) : State :=
  match s.softOf d with
  | some w =>
    if !s.entryBad s.rtr.live d then s
    else if s.zcTimeout ≤ w.count then s.closeSoft d 3 0
    else s.unsearched d
  | none => s

/-- Transfer x of the tick. -/
def State.transfer (s : State) (x : Nat) : State :=
  let s := s.meetLive.silence x
  let s := if x = s.beatsN then forEach (s.rtr.sw.map (fun p => p.1)) State.badSwitch s else s
  forEach (s.moves x) (State.moveOne x) s

/-- Transfer B delivers the blocks that GAIN composes for the output ports, but those listed (R161, R162). -/
def State.composeB (late : List Nat) (s : State) : State :=
  let b := s.beatsN
  forEach ((s.moves b).filter (fun d => decide (d < 0x2000) && (s.softOf d).isSome && !late.contains d)) (State.composeTo b) s

end Sys2Proof.Machine
end

