-- ==== Sys2Proof/Machine/Sched.lean ====
section
/-! DEFINITION. Lysxa images: the header, the directory and the sections, the checks of pass 1 in their order, and the
words that pass 2 writes (R122 to R133, R155). -/

namespace Sys2Proof.Machine

/-! ## Sections of an image -/

/-- Section types (R123). -/
abbrev tyPM : Nat := 1
abbrev tyXM : Nat := 2
abbrev tyYM : Nat := 3
abbrev tyREGS : Nat := 4
abbrev tyCONFIG : Nat := 5
abbrev tyCLAIM : Nat := 6
abbrev tyROUTE : Nat := 0x10
abbrev tyBEAT : Nat := 0x11
abbrev tyPMAP : Nat := 0x12
abbrev tyLAYOUT : Nat := 0x13
abbrev tyCLASS1 : Nat := 0x14
abbrev tyPROOF : Nat := 0x15
abbrev tyNOTE : Nat := 0x20

/-- The per-engine section types. -/
def perEngine (t : Nat) : Bool := decide (1 ≤ t) && decide (t ≤ 6)

/-- The listed section types. -/
def tyListed (t : Nat) : Bool := perEngine t || (decide (0x10 ≤ t) && decide (t ≤ 0x15)) || t == tyNOTE

/-- The header fields that the checks use (R122). -/
structure Header where
  magic : Nat
  format : Nat
  device : Nat
  fs : Nat
  tcode : Nat
  beats : Nat
  kind : Nat
  margin : Nat
  len : Nat
  sections : Nat
  mask : Nat
  id : Nat
  pred : List Byte
  reserved : List Byte
  deriving DecidableEq, Repr

/-- The header of an image. -/
def parseHeader (im : List Byte) : Header where
  magic := leAt im 0 4
  format := leAt im 4 4
  device := leAt im 8 2
  fs := leAt im 0xA 1
  tcode := leAt im 0xB 1
  beats := leAt im 0xC 1
  kind := leAt im 0xD 1
  margin := leAt im 0xE 2
  len := leAt im 0x10 4
  sections := leAt im 0x14 4
  mask := leAt im 0x18 4
  id := leAt im 0x20 8
  pred := bytesAt im 0x28 48
  reserved := bytesAt im 0x1C 4 ++ bytesAt im 0x58 40

/-- The directory of n entries. -/
def parseDir (im : List Byte) (n : Nat) : List Sect :=
  (chunks 16 n (im.drop 0x80)).map (fun d =>
    { type := leAt d 0 2, engine := leAt d 2 1, flags := leAt d 3 1, off := leAt d 4 4, len := leAt d 8 4
      crc := leAt d 12 4 })

/-- The bytes of a section. -/
def Sect.data (x : Sect) (im : List Byte) : List Byte := bytesAt im x.off x.len

/-- The words of 4 bytes of a byte string. -/
def words4 (bs : List Byte) : List Nat := (chunks 4 bs.length bs).map ofLE

/-- An image as the checks see it: header, directory, and the data of each section. -/
structure Image where
  h : Header
  dir : List Sect
  data : List (List Byte)
  digest : List Byte
  trailer : List Byte
  deriving DecidableEq, Repr

/-- The image in a byte string. -/
def parseImage (im : List Byte) : Image :=
  let h := parseHeader im
  let dir := parseDir im h.sections
  { h := h, dir := dir, data := dir.map (fun x => x.data im), digest := sha384 (im.take (h.len - 200))
    trailer := bytesAt im (h.len - 200) 200 }

/-- The sections with their index and data. -/
def Image.sects (m : Image) : List (Nat × Sect × List Byte) := (List.range m.dir.length).zip (m.dir.zip m.data)

/-- The sections of a type. -/
def Image.ofType (m : Image) (t : Nat) : List (Nat × Sect × List Byte) := m.sects.filter (fun x => x.2.1.type == t)

/-- The data of the first section of a type. -/
def Image.dataOf (m : Image) (t : Nat) : List Byte := ((m.ofType t).head?.map (fun x => x.2.2)).getD []

/-- The index of the first section of a type. -/
def Image.indexOf (m : Image) (t : Nat) : Nat := ((m.ofType t).head?.map (fun x => x.1)).getD 0

/-- A failed check: code, section index, engine (R131, R146). -/
structure Fail where
  code : Nat
  sec : Nat := 0
  eng : Option Nat := none
  deriving DecidableEq, Repr

/-- A check that fails with a code where its condition does not hold. -/
def need (c : Bool) (f : Fail) : Option Fail := if c then none else some f

/-- The first failure of a list of checks. -/
def firstFail (l : List (Option Fail)) : Option Fail := l.findSome? id

/-- A failure of the sections x that do not satisfy p. -/
def eachSect (l : List (Nat × Sect × List Byte)) (code : Nat) (p : Sect → List Byte → Bool) : Option Fail :=
  l.findSome? (fun x => if p x.2.1 x.2.2 then none else
    some { code := code, sec := x.1, eng := if x.2.1.engine < 32 then some x.2.1.engine else none })

/-- All bytes are 0. -/
def allZero (bs : List Byte) : Bool := bs.all (fun b => b == 0)

/-- Code 3 (R122, R124, R131). -/
def checkFormat (m : Image) (srcLen : Nat) : Option Fail :=
  let h := m.h
  let t := m.trailer
  need (h.magic == 0x4958594C && h.format == 0x00010000 && h.device == 0x9640 && decide (h.fs ≤ 5)
    && decide (h.tcode ≤ 5) && decide (1 ≤ h.beats) && decide (h.beats ≤ 8) && decide (h.kind ≤ 1)
    && decide (52 ≤ h.margin) && decide (h.margin ≤ 512) && decide (1 ≤ h.sections) && decide (h.sections ≤ 1024)
    && h.len % 8 == 0 && decide (h.len ≤ 0x4000000) && decide (h.len ≤ srcLen) && decide (0x80 + 200 ≤ h.len)
    && allZero h.reserved && (h.kind == 1 || allZero h.pred)
    && leAt t 0 1 == 4 && allZero (bytesAt t 97 3) && allZero (bytesAt t 196 4)) { code := 3 }

/-- The LENGTH that a section's own fields give (R125, R126). -/
def lenOk (x : Sect) (d : List Byte) : Bool :=
  match x.type with
  | 1 => decide (8 ≤ x.len) && x.len == 8 + 8 * leAt d 4 4
  | 2 | 3 => decide (8 ≤ x.len) && x.len == 8 + 4 * leAt d 4 4
  | 4 => decide (4 ≤ x.len) && x.len == 4 + 20 * leAt d 0 4
  | 5 => x.len == 428
  | 6 => x.len == 4096
  | 0x10 => x.len == 65536
  | 0x11 => x.len == 24592
  | 0x12 => x.len % 64 == 0
  | 0x13 => decide (4 ≤ x.len) && x.len == 4 + 16 * leAt d 0 4
  | 0x14 => x.len % 2 == 0
  | 0x15 => x.len == 0x6AC
  | _ => true

/-- Code 4 (R123, R131). -/
def checkDirectory (m : Image) : Option Fail :=
  eachSect m.sects 4 (fun x d =>
    x.off % 8 == 0 && decide (0x80 + 16 * m.h.sections ≤ x.off) && decide (x.off + x.len ≤ m.h.len - 200)
    && tyListed x.type
    && (m.dir.filter (fun y => decide (y.off < x.off + x.len) && decide (x.off < y.off + y.len))).length ≤ 1
    && (if perEngine x.type then decide (x.engine < 32) && bitN m.h.mask x.engine else x.engine == 0xFF)
    && lenOk x d)

/-- The key hash of the fuses: word i holds bytes 4i to 4i + 3 of the hash (log entry 3). DEDUCED. -/
def State.fuseHash (s : State) (w : Nat) : List Byte :=
  (List.range 12).flatMap (fun i => toLE 4 (s.rg pgFuse (Off.fuseWORD + 4 * (w + i))))

/-- The trailer's key, r and s, with zeros between and after them (R124); the trailer of a boot image and the debug
response have the same form, and one without its zeros does not verify (R403, R416; log entry 98). DESIGN CHOICE. -/
def trailerKey (t : List Byte) : List Byte := bytesAt t 0 97
def trailerValid (t digest : List Byte) : Bool :=
  leAt t 0 1 == 4 && allZero (bytesAt t 97 3) && allZero (bytesAt t 196 4) && ecdsaVerify digest (ofBE (bytesAt t 1 48)) (ofBE (bytesAt t 49 48)) (ofBE (bytesAt t 100 48))
    (ofBE (bytesAt t 148 48))

/-- Code 8: what is required once is there once (R123). -/
def checkMissing (m : Image) : Option Fail :=
  let one (t : Nat) : Option Fail :=
    match m.ofType t with
    | [_] => none
    | [] => some { code := 8 }
    | _ :: x :: _ => some { code := 8, sec := x.1 }
  let oneE (nn t : Nat) : Option Fail :=
    match (m.ofType t).filter (fun x => x.2.1.engine == nn) with
    | [_] => none
    | [] => some { code := 8, eng := some nn }
    | _ :: x :: _ => some { code := 8, sec := x.1, eng := some nn }
  firstFail
    (((List.range 32).filter (fun nn => bitN m.h.mask nn)).flatMap (fun nn => [tyPM, tyREGS, tyCONFIG, tyCLAIM].map (oneE nn))
      ++ [tyROUTE, tyBEAT, tyLAYOUT, tyPROOF].map one)

/-- The proof record (R125). -/
def proofC (p : List Byte) (nn b : Nat) : Nat := leAt p (0x2C + 36 * nn + 4 * (b - 1)) 4
def proofQmax (p : List Byte) (nn : Nat) : Nat := leAt p (0x2C + 36 * nn + 32) 4
def proofN (p : List Byte) (i : Nat) : Nat := leAt p (8 + 4 * i) 4

/-- The sum of f over 1 to n. -/
def sum1 (f : Nat → Nat) : Nat → Nat
  | 0 => 0
  | n + 1 => sum1 f n + f (n + 1)

/-- The sum of f over 0 to n - 1. -/
def sum0 (f : Nat → Nat) : Nat → Nat
  | 0 => 0
  | n + 1 => sum0 f n + f n

/-- S_tick and the budget of R132. -/
def stepBudget (fs tcode margin : Nat) : Nat :=
  (750000000 * 2 ^ tcode / fsHz fs) * (1024 - margin) / 1024

/-- Steps of engine nn in a tick, from the proof. -/
def proofSteps (p : List Byte) (beats nn : Nat) : Nat := sum1 (proofC p nn) beats

/-- Code 10 (R125, R132). -/
def checkProofTotal (m : Image) : Option Fail :=
  let p := m.dataOf tyPROOF
  let h := m.h
  firstFail
    ([ need (leAt p 0 1 == h.fs && leAt p 1 1 == h.tcode && leAt p 2 1 == h.beats && leAt p 4 4 == 750
        && (List.range 9).all (fun i => decide (i ≤ h.beats) || proofN p i == 0)) { code := 10, sec := m.indexOf tyPROOF } ]
    ++ (List.range 32).map (fun nn =>
        if bitN h.mask nn then
          need ((List.range 8).all (fun i => decide (i < h.beats) || proofC p nn (i + 1) == 0)
            && decide (proofSteps p h.beats nn ≤ stepBudget h.fs h.tcode h.margin)) { code := 10, sec := m.indexOf tyPROOF, eng := some nn }
        else need (allZero (bytesAt p (0x2C + 36 * nn) 36) && allZero (bytesAt p (0x4AC + 16 * nn) 16))
          { code := 10, sec := m.indexOf tyPROOF, eng := some nn }))

/-- DL(b) of a BEAT section. -/
def beatDl (d : List Byte) (b : Nat) : Nat := leAt d (2 * (b - 1)) 2

/-- Code 11: a beat's cumulative time against its deadline, in units of 1 / 96e9 s times 1,024 Fs (R132). -/
def checkProofBeat (m : Image) : Option Fail :=
  let p := m.dataOf tyPROOF
  let d := m.dataOf tyBEAT
  let h := m.h
  firstFail (((List.range 32).filter (fun nn => bitN h.mask nn)).flatMap (fun nn =>
    (List.range h.beats).map (fun i =>
      let b := i + 1
      need (decide ((128 * sum1 (proofC p nn) b + 3 * sum0 (proofN p) b) * 1024 * fsHz h.fs
        ≤ beatDl d b * 2 ^ h.tcode * 96000000000)) { code := 11, sec := m.indexOf tyPROOF, eng := some nn })))

/-- Code 12 (R27, R132). -/
def checkDlOrder (m : Image) : Option Fail :=
  let d := m.dataOf tyBEAT
  let h := m.h
  let last := beatDl d h.beats
  need (decide (0 < beatDl d 1) && decide (last < 1024)
    && (List.range (h.beats - 1)).all (fun i => decide (beatDl d (i + 1) < beatDl d (i + 2)))
    && decide (last * 2 ^ h.tcode * 96000000000 + 3 * proofN (m.dataOf tyPROOF) h.beats * 1024 * fsHz h.fs
        ≤ 1024 * 2 ^ h.tcode * 96000000000)) { code := 12, sec := m.indexOf tyBEAT }

/-- Code 13. -/
def checkQueue (m : Image) : Option Fail :=
  firstFail ((List.range 32).map (fun nn =>
    need (decide (proofQmax (m.dataOf tyPROOF) nn ≤ 32)) { code := 13, sec := m.indexOf tyPROOF, eng := some nn }))

/-- A 32-bit word is the sign extension of its low w bits. -/
def signExt (w n : Nat) : Bool := toSigned w n == toSigned 32 n

/-- A REGS entry holds a value its register can take (R126). -/
def regsEntryOk (t : Nat) (idx : Nat) (v : List Nat) : Bool :=
  let v0 := v.getD 0 0
  let rest (k : Nat) := (v.drop k).all (fun x => x == 0)
  if idx < 0x10 then rest 1
  else if idx < 0x18 then rest 3 && signExt 16 (v.getD 2 0)
  else if idx < 0x20 then rest 1 && decide (v0 < 2 ^ 17)
  else if idx < 0x28 then rest 1 && signExt 17 v0
  else if idx < 0x30 then rest 1 && decide (v0 ≤ 16384)
  else if idx < 0x38 then decide (v.getD 3 0 < 2 ^ 24)
  else if idx < 0x3C then rest 1
  else if idx = 0x3C then rest 1 && decide (v0 < t)
  else false

/-- The entries of a REGS section. -/
def regsEntries (d : List Byte) : List (Nat × List Nat) :=
  (chunks 20 (leAt d 0 4) (d.drop 4)).map (fun e => (leAt e 0 4, (List.range 4).map (fun i => leAt e (4 + 4 * i) 4)))

/-- No value is listed twice. -/
def noDup : List Nat → Bool
  | [] => true
  | x :: xs => !xs.contains x && noDup xs

/-- The bits a CONFIG word may hold, in the order of R126. -/
def configMask (i : Nat) : Nat :=
  if i = 0 then 0x3FFF
  else if i < 33 then
    (match (i - 1) % 4 with | 0 => 0xFFFFFFFC | 1 => 0xC30000FF | 2 => 0x00FFFFFF | _ => 0xFFFFFFFF)
  else if i < 41 then 0x1FFFF
  else if i = 41 then 0x1FFFF
  else if i = 42 then 0x3FFF
  else 0x3FFF3FFF

/-- A CONFIG word is allowed. -/
def configOk (i w : Nat) : Bool := w &&& configMask i == w && (i != 42 || decide (w ≤ 8192))

/-- Placement byte of destination n, and completion beat of engine output signal i, of a BEAT section. -/
def beatPlace (d : List Byte) : List Byte := bytesAt d 16 16384
def beatDone (d : List Byte) : List Byte := bytesAt d 16400 8192

/-- An entry of a ROUTE section is allowed at destination n with placement byte pl (R155, R157). -/
def routeOk (beats n pl v : Nat) : Bool :=
  decide (v < 2 ^ 17)
  && (!dstReserved n || v == 0)
  && (!entEn v || !srcReserved (entSrc v))
  && (!(entEn v && !entByp v) || decide (pl ≤ beats))
  && (!entByp v || (isSlot n && isSlot (entSrc v) && !entSoft v))

/-- Code 14 (R126, R155). -/
def rangeOk (h : Header) (place : List Byte) (x : Sect) (d : List Byte) : Bool :=
  match x.type with
  | 1 => decide (leAt d 0 4 ≤ 12287) && decide (leAt d 0 4 + leAt d 4 4 ≤ 12288)
  | 2 | 3 => decide (leAt d 0 4 ≤ 16383) && decide (leAt d 0 4 + leAt d 4 4 ≤ 16384)
  | 4 => noDup ((regsEntries d).map (fun e => e.1)) && (regsEntries d).all (fun e => regsEntryOk (2 ^ h.tcode) e.1 e.2)
  | 5 => ((List.range 107).zip (words4 d)).all (fun e => configOk e.1 e.2)
  | 0x10 =>
    let es := words4 d
    ((List.range 16384).zip (es.zip place)).all (fun e => routeOk h.beats e.1 e.2.2.toNat e.2.1)
      && decide ((es.filter entByp).length ≤ 64)
  | 0x11 =>
    (List.range 8).all (fun i => decide (i < h.beats) || beatDl d (i + 1) == 0)
      && (beatPlace d).all (fun b => decide (b.toNat ≤ h.beats) || b == 0xFF)
      && (beatDone d).all (fun b => decide (b.toNat ≤ h.beats))
  | 0x13 => (chunks 16 (leAt d 0 4) (d.drop 4)).all (fun e => decide (leAt e 0 8 < 2 ^ 40) && leAt e 12 4 &&& 0x77F == leAt e 12 4)
  | 0x14 => (chunks 2 d.length d).all (fun e => decide (ofLE e < 16384) && !dstReserved (ofLE e))
  | _ => true

/-- Any engine is ARMED, RUNNING, DETACHED or SKIPPING. -/
def State.anyActive (s : State) : Bool :=
  (List.range 32).any (fun nn => let st := (s.engine nn).st; st.inPlane || st == .armed)

/-- There is a running image (R128). -/
def State.aValid (s : State) : Bool := s.sched.a.valid

/-- Code 15 (R128). -/
def State.checkState (s : State) (m : Image) : Option Fail :=
  firstFail
    ([ need (if m.h.kind = 0 then !s.anyActive else s.aValid) { code := 15 } ]
    ++ (List.range 32).map (fun nn =>
        need (!bitN m.h.mask nn || (s.engine nn).st != .off) { code := 15, eng := some nn }))

/-- The regions of a LAYOUT section. -/
def regionsOf (d : List Byte) : List Region :=
  (chunks 16 (leAt d 0 4) (d.drop 4)).map (fun e =>
    let f := leAt e 12 4
    { base := leAt e 0 8, len := leAt e 8 4, wr := bitN f 0
      owner := if bitN f 6 then some (bitsN f 5 1) else none, slot := bitsN f 10 8 })

/-- Two regions overlap. -/
def Region.meets (a b : Region) : Bool := decide (a.base < b.base + b.len) && decide (b.base < a.base + a.len)

/-- The words that an XM or YM section writes: engine addresses and values. A source that has changed since pass 1 may name
words outside the memory: they are none (R128, R130). -/
def dataWords (x : Sect) (d : List Byte) : List (Nat × Word) :=
  let base := if x.type = tyYM then 0x4000 else 0
  (((List.range (leAt d 4 4)).map (fun i => leAt d 0 4 + i)).zip ((words4 (d.drop 8)).map w32)).filterMap (fun w =>
    if w.1 < 0x4000 then some (base + w.1, w.2) else none)

/-- The running image claims engine address a of engine nn. -/
def Bank.claims (b : Bank) (nn a : Nat) : Bool := bitN (((smapGet (fun _ => []) b.claim nn).getD (a / 8) 0).toNat) (a % 8)

/-- A word of engine memory as the loader reads it: a corrected error is counted, and an uncorrectable word reads 0
(R89, R90; log entry 85). DEDUCED. -/
def State.loaderWord (s : State) (nn a : Nat) : Word × State :=
  match s.eccAt 4 (winAddr nn a) with
  | 0 => ((s.engine nn).word a, s)
  | 1 => ((s.engine nn).word a, s.engCe nn (winAddr nn a) midLoader (accType false false false 4))
  | _ => (0, s.engUe nn (winAddr nn a) midLoader (accType false false false 4))

/-- Whether a seamless load may write word w of section x: the running image leaves it free, or the section is SHARED
and its content equals what the memory holds at this moment (R128). -/
def State.mayWrite (s : State) (x : Sect) (w : Nat × Word) : Bool × State :=
  if !s.sched.a.claims x.engine w.1 then (true, s)
  else if !bitN x.flags 0 then (false, s)
  else
    let r := s.loaderWord x.engine w.1
    (r.1 == w.2, r.2)

/-- The words of a section up to the first that R128 does not allow. -/
def State.mayWriteAll (x : Sect) : List (Nat × Word) → State → Bool × State
  | [], s => (true, s)
  | w :: ws, s =>
    let r := s.mayWrite x w
    if r.1 then r.2.mayWriteAll x ws else r

/-- The XM and YM sections of a seamless image, in directory order (R128). -/
def State.claimSects : List (Nat × Sect × List Byte) → State → Option Fail × State
  | [], s => (none, s)
  | x :: xs, s =>
    let r := s.mayWriteAll x.2.1 (dataWords x.2.1 x.2.2)
    if r.1 then r.2.claimSects xs
    else (some { code := 17, sec := x.1, eng := if x.2.1.engine < 32 then some x.2.1.engine else none }, r.2)

/-- Code 17 (R128). -/
def State.checkClaim (s : State) (m : Image) : Option Fail × State :=
  if m.h.kind = 0 then (none, s)
  else
    match State.claimSects (m.sects.filter (fun x => x.2.1.type == tyXM || x.2.1.type == tyYM)) s with
    | (some f, s) => (some f, s)
    | (none, s) =>
      (eachSect (m.ofType tyLAYOUT) 17 (fun _ d =>
        (regionsOf d).all (fun r => s.sched.a.layout.all (fun q =>
          !(r.wr && q.wr && r.meets q) || (r.owner.isSome && r.owner == q.owner && r.slot == q.slot)))), s)

/-- The checks of R131 but the last, in their order. -/
def State.checkImage (s : State) (m : Image) (srcLen : Nat) : Option Fail :=
  let a := s.sched.a
  match checkFormat m srcLen with
  | some f => some f
  | none =>
    match checkDirectory m with
    | some f => some f
    | none =>
      if sha384 (trailerKey m.trailer) ≠ s.fuseHash 0 then some { code := 5 }
      else if trailerValid m.trailer m.digest = false then some { code := 6 }
      else
        match eachSect m.sects 7 (fun x d => crc32 d == x.crc) with
        | some f => some f
        | none =>
          match checkMissing m with
          | some f => some f
          | none =>
            if m.h.fs ≠ s.fld pgSched Off.schedRATE 2 0 ∨ m.h.tcode ≠ s.fld pgSched Off.schedRATE 5 3
                ∨ (m.h.kind = 1 ∧ a.valid ∧ (m.h.fs ≠ a.fs ∨ m.h.tcode ≠ a.tcode)) then some { code := 9 }
            else
              firstFail
                [ checkProofTotal m, checkProofBeat m, checkDlOrder m, checkQueue m
                , eachSect m.sects 14 (rangeOk m.h (beatPlace (m.dataOf tyBEAT)))
                , s.checkState m
                , need (m.h.kind == 0 || m.h.pred == a.digest) { code := 16 } ]

/-! ## Outcomes of a load (R129, R131) -/

/-- The loader's state (R146). -/
def State.loadState (s : State) : Nat := s.fld pgSched Off.schedSTAT 2 0
def State.setLoadState (s : State) (v : Nat) : State := s.setFld pgSched Off.schedSTAT 2 0 v

/-- A load is in progress. -/
def State.loading (s : State) : Bool := decide (1 ≤ s.loadState) && decide (s.loadState ≤ 3)

/-- Kinds of the pending request, and one of them (R147). -/
def State.hoistKinds (s : State) : Nat := s.fld pgSched Off.schedHOIST 3 0
def State.hoistBit (s : State) (i : Nat) : Bool := s.bit pgSched Off.schedHOIST i

/-- A refusal: code, flags, counter and error; the load in progress is not touched (R131). -/
def State.loadCode (s : State) (f : Fail) : State :=
  let v := f.code + f.sec % 1024 * 2 ^ 8 + (match f.eng with | some n => n % 32 * 2 ^ 24 + 2 ^ 31 | none => 0)
  ((s.setRg pgSched Off.schedLOAD_CODE v).inc pgSched Off.schedREFUSE_CNT).pageErr pgSched 2 1 midLoader

/-- Bank B and the image route bank become invalid. -/
def State.dropB (s : State) : State :=
  { s with sched := { s.sched with b := { s.sched.b with valid := false }, img := [], dir := [], sec := 0 } }.setBit
    pgRtr Off.rtrSTAT 2 false

/-- A load ends without success. -/
def State.loadFail (s : State) (f : Fail) : State := (s.dropB.setLoadState 5).loadCode f

/-- Entries of a whole bank put at once: f of the old entry and the destination. -/
def State.mapBank (s : State) (bank : Nat) (vs : List Nat) (f : Nat → Nat → Nat) : State :=
  let base := entryKey bank 0
  let low := s.rtr.tbl.filter (fun e => decide (e.1 < base))
  let high := s.rtr.tbl.filter (fun e => decide (base + 16384 ≤ e.1))
  let rec go : List Nat → Nat → SMap Nat → SMap Nat
    | [], _, m => m
    | v :: vs, k, m =>
      let old := match m with
        | [] => entryReset k
        | (i, w) :: _ => if i = k then w else entryReset k
      let m' := match m with
        | [] => []
        | (i, w) :: t => if i = k then t else (i, w) :: t
      let w := f old v
      if w = entryReset k then go vs (k + 1) m' else (k, w) :: go vs (k + 1) m'
  let mid := go (vs.take 16384) base (s.rtr.tbl.filter (fun e => decide (base ≤ e.1) && decide (e.1 < base + 16384)))
  { s with rtr := { s.rtr with tbl := low ++ mid ++ high } }

/-- A bank cleared to reset entries, with its error marks. -/
def State.clearBank (s : State) (bank : Nat) : State :=
  { s with rtr := { s.rtr with tbl := s.rtr.tbl.filter (fun e => e.1 / 16384 != bank) }
           ecc := smapKeep (fun k => !(decide (entryEcc bank 0 ≤ k) && decide (k < entryEcc (bank + 1) 0))) s.ecc }

/-- Words of pass 2 for one section (R127, R130). A word of a seamless image that R128 does not allow at this moment is
not written (log entry 85). DEDUCED. -/
def State.writeSection (s : State) (x : Sect) (d : List Byte) : State :=
  let b := s.sched.b
  let setB (b : Bank) : State := { s with sched := { s.sched with b := b } }
  let nn := x.engine
  match x.type with
  | 1 =>
    let pm := ((List.range (leAt d 4 4)).map (fun i => leAt d 0 4 + i)).zip (chunks 8 d.length (d.drop 8))
    let m := (pm.filter (fun e => decide (e.1 < 12288))).foldl (fun m e => smapSet zeroN m e.1 (ofLE e.2)) (smapGet (fun _ => []) b.pm nn)
    setB { b with pm := smapSet (fun _ => []) b.pm nn m }
  | 2 | 3 =>
    forEach (dataWords x d) (fun w st =>
      let r := if b.kind = 0 then (true, st) else st.mayWrite x w
      if r.1 then (r.2.modEngine nn (fun e => e.setWord w.1 w.2)).setEcc 4 (winAddr nn w.1) 0 else r.2) s
  | 4 => setB { b with preset := smapSet (fun _ => []) b.preset nn (regsEntries d) }
  | 5 => setB { b with cfg := smapSet (fun _ => []) b.cfg nn (words4 d) }
  | 6 => setB { b with claim := smapSet (fun _ => []) b.claim nn d }
  | 0x10 => s.mapBank s.rtr.image (words4 d) (fun old v => old - bitsN old 16 0 + v % 2 ^ 17)
  | 0x11 =>
    let done := ((List.range 8192).zip (beatDone d)).filterMap (fun e => if e.2 = 0 then none else some (e.1, e.2.toNat))
    let s := setB { b with dl := (List.range 8).map (fun i => beatDl d (i + 1)), done := done }
    s.mapBank s.rtr.image ((beatPlace d).map BitVec.toNat) (fun old v => putBits old 20 17 (if v = 0xFF then 0xF else v))
  | 0x13 => setB { b with layout := regionsOf d }
  | 0x14 =>
    forEach ((chunks 2 d.length d).map ofLE) (fun n st =>
      st.setEntry st.rtr.image n (putBits (st.entry st.rtr.image n) 21 21 1)) s
  | 0x15 =>
    setB { b with steps := (List.range 32).filterMap (fun nn =>
      let c := proofSteps d b.beats nn
      if bitN b.mask nn && c != 0 then some (nn, c) else none) }
  | _ => s

/-- The source's bytes from an offset on, or none where a read fails (R131, code 2). -/
def State.readSource (s : State) (off n : Nat) : Option (List Byte) × State :=
  if n = 0 then (some [], s) else s.memRead midLoader (s.sched.src + off) n

/-- Pass 1 has read the image (R129): the checks follow. -/
def State.pass1 (s : State) : State :=
  match s.readSource 0 (min s.sched.srcLen 0x80) with
  | (none, s) => s.loadFail { code := 2 }
  | (some hd, s) =>
    let n := min (min (leAt hd 0x10 4) s.sched.srcLen) 0x4000000
    match s.readSource 0 n with
    | (none, s) => s.loadFail { code := 2 }
    | (some im, s) => { s with sched := { s.sched with img := im } }.setLoadState 2

/-- The checks of the image that pass 1 has read (R131); nothing is written before they have passed (R129). -/
def State.verify (s : State) : State :=
  let m := parseImage s.sched.img
  match s.checkImage m s.sched.srcLen with
  | some f => s.loadFail f
  | none =>
    match s.checkClaim m with
    | (some f, s) => s.loadFail f
    | (none, s) =>
      let h := m.h
      let s := s.clearBank s.rtr.image
      let s := { s with sched := { s.sched with
        dir := m.dir, sec := 0, img := []
        b := { valid := false, id := h.id, kind := h.kind, digest := m.digest, fs := h.fs, tcode := h.tcode
               beats := h.beats, margin := h.margin, mask := h.mask } } }
      (s.setRg pgSched Off.schedBUDGET (stepBudget h.fs h.tcode h.margin)).setLoadState 3

/-- The section of pass 2 in progress fails: the words already read stay written (R130, R131). -/
def State.sectFail (s : State) (x : Sect) (d : List Byte) (code : Nat) : State :=
  let i := s.sched.sec
  (s.writeSection x d).loadFail { code := code, sec := i, eng := if x.engine < 32 then some x.engine else none }

/-- The next section of pass 2 (R130). -/
def State.pass2Section (s : State) : State :=
  match s.sched.dir[s.sched.sec]? with
  | none => s
  | some x =>
    match s.readSource x.off x.len with
    | (none, t) => t.sectFail x (s.readBefore (s.sched.src + x.off) x.len) 2
    | (some d, s) =>
      if crc32 d = x.crc then
        let i := s.sched.sec
        let s := s.writeSection x d
        { s with sched := { s.sched with sec := i + 1 } }
      else s.sectFail x d 18

/-- Pass 2 is complete: bank B is VALID (R129). LOAD_CODE reads 0 then, for which R131 states no value (log entry 49). DESIGN
CHOICE. -/
def State.pass2Done (s : State) : State :=
  let s := { s with sched := { s.sched with b := { s.sched.b with valid := true }, dir := [], sec := 0 } }
  let s := (s.setLoadState 4).setRg64 pgSched Off.schedIMG_B_LO Off.schedIMG_B_HI s.sched.b.id
  let s := (s.setRg pgSched Off.schedLOAD_CODE 0).setBit pgRtr Off.rtrSTAT 2 true
  s.intBit pgSched 0

end Sys2Proof.Machine
end

