-- ==== Sys2Proof/Machine/SchedExec.lean ====
section
/-! DEFINITION. The commands of the loader and the hoist requests, the landing of parameter groups and of route banks,
and the staged bank and windows around them (R129 to R146, R153, R157 to R164). -/

namespace Sys2Proof.Machine

/-! ## Loading -/

/-- LOAD.GO (R129, R131). -/
def State.loadGo (s : State) : State :=
  if s.loading || s.hoistBit 0 then s.loadCode { code := 1 }
  else
    let s := s.dropB
    { s with sched := { s.sched with
        src := s.rg pgSched Off.schedSRC_LO + 2 ^ 32 * s.fld pgSched Off.schedSRC_HI 7 0
        srcLen := s.rg pgSched Off.schedSRC_LEN } }.setLoadState 1

def execLoadGo (mid : Nat) (s : State) : Out :=
  .next (s.guarded pgSched Off.schedLOAD mid false State.loadGo)

/-- Pass 1 ends with its read, which LOAD_STATE shows as VERIFY, and then with its checks: the command comes for each
(log entry 49). DESIGN CHOICE. -/
def State.pass1Done (s : State) : State := if s.loadState = 1 then s.pass1 else s.verify

def execLoadPass1Done (us : List (Nat × Nat)) (s : State) : Out :=
  .next (onlyIf (s.loadState == 1 || s.loadState == 2) (fun s => (s.upset us).pass1Done) s)

def execLoadSectionDone (us : List (Nat × Nat)) (s : State) : Out :=
  .next (onlyIf (s.loadState == 3 && decide (s.sched.sec < s.sched.dir.length)) (fun s => (s.upset us).pass2Section) s)

def execLoadPass2Done (s : State) : Out :=
  .next (onlyIf (s.loadState == 3 && s.sched.sec == s.sched.dir.length) State.pass2Done s)

/-- A read of the source at offset off gets an error response: in pass 1, or in the section of pass 2 in progress, whose
words before off have been read and written (R130, R131, code 2). -/
def State.sourceError (off : Nat) (s : State) : State :=
  if s.loadState = 1 then
    match s.readSource off 8 with
    | (none, t) => t.loadFail { code := 2 }
    | (some _, _) => s
  else
    match s.sched.dir[s.sched.sec]? with
    | none => s
    | some x =>
      if off < x.off ∨ x.off + x.len ≤ off then s
      else
        match s.readSource x.off (off - x.off) with
        | (none, _) => s
        | (some d, t) =>
          match t.readSource off 8 with
          | (none, t) => t.sectFail x d 2
          | (some _, _) => s

def execSourceReadError (off : Nat) (us : List (Nat × Nat)) (s : State) : Out :=
  .next (onlyIf ((s.loadState == 1 || s.loadState == 3) && decide (off < s.sched.srcLen))
    (fun s => State.sourceError (off - off % 8) (s.upset us)) s)

/-- CTL.ABORT (R129). -/
def State.loadAbort (s : State) : State := if s.loading then s.loadFail { code := 19 } else s

def execLoadAbort (mid : Nat) (s : State) : Out :=
  .next (s.guarded pgSched Off.schedCTL mid false State.loadAbort)

/-- CTL.INVAL_B: refused while a SWAP is pending; ends a load as ABORT does (R146). -/
def State.invalB (s : State) : State :=
  if s.hoistBit 0 then s
  else if s.loading then s.loadFail { code := 19 }
  else s.dropB.setLoadState 0

def execInvalB (mid : Nat) (s : State) : Out :=
  .next (s.guarded pgSched Off.schedCTL mid false State.invalB)

/-! ## Hoist requests (R134 to R136) -/

/-- The staged copies of every _NX register. -/
def State.staged (s : State) : SMap Word :=
  s.regs.filter (fun e =>
    match rowAt (e.1 / 0x1000) (e.1 % 0x1000) with
    | some r => r.acc == .nx
    | none => false)

/-- The tick named in HOIST_TICK. -/
def State.hoistTick (s : State) : Nat := s.rg64 pgSched Off.schedHOIST_TICK_LO Off.schedHOIST_TICK_HI

/-- The reason for which a HOIST write v is refused; 0 none (R135, R136). -/
def State.hoistReason (s : State) (v : Nat) : Nat :=
  let at_ := bitN v 4
  if at_ && decide (s.hoistTick ≤ s.tick) then 2
  else if s.hoistKinds != 0 &&
      !(if at_ then s.hoistBit 4 && s.sched.landTick == s.hoistTick else !s.hoistBit 4) then 1
  else if bitN v 0 && s.loadState != 4 then 3
  else 0

/-- A write of v to HOIST. AT_TICK alone requests nothing once it is not refused (R135, R147; log entry 46). -/
def State.hoistWrite (mid v : Nat) (s : State) : State :=
  let v := v % 32
  if v = 0 then s
  else
    match s.hoistReason v with
    | 0 =>
      if v % 16 = 0 then s else
      let fresh := s.hoistKinds == 0
      let land := if fresh then (if bitN v 4 then s.hoistTick else s.tick + 1) else s.sched.landTick
      let snap := if bitN v 2 && s.sched.snap.isNone then some s.staged else s.sched.snap
      let s := { s with
        sched := { s.sched with landTick := land, snap := snap }
        rtr := { s.rtr with heldMark :=
          if (bitN v 0 || bitN v 3) && !(s.hoistBit 0 || s.hoistBit 3) then s.rtr.held.length else s.rtr.heldMark } }
      (s.orRg pgSched Off.schedHOIST v).setBit pgSched Off.schedSTAT 4 true
    | c => (s.setRg pgSched Off.schedHOIST_STAT c).writeErr pgSched Off.schedHOIST mid 4

/-- A HOIST write that carries kind i. -/
def State.hoistRequest (s : State) (i mid v : Nat) : State :=
  onlyIf (bitN v i) (fun s => s.guarded pgSched Off.schedHOIST mid false (State.hoistWrite mid v)) s

def execHoistSwapRequest (v mid : Nat) (s : State) : Out := .next (s.hoistRequest 0 mid v)
def execHoistParamRequest (v mid : Nat) (s : State) : Out := .next (s.hoistRequest 1 mid v)
def execHoistRegsRequest (v mid : Nat) (s : State) : Out := .next (s.hoistRequest 2 mid v)
def execHoistRouteRequest (v mid : Nat) (s : State) : Out := .next (s.hoistRequest 3 mid v)

/-- PGP register i: bits of v are set (R140). -/
def execPgpSet (i : Fin 64) (v mid : Nat) (s : State) : Out :=
  .next (s.guarded pgSched (Off.schedPGP + 4 * i) mid false (fun s => s.orRg pgSched (Off.schedPGP + 4 * i) (v % 2 ^ 32)))

/-! ## Landings in general (R134, R137) -/

/-- A request lands at the release that is about to happen. -/
def State.landingDue (s : State) : Bool :=
  s.hoistKinds != 0 && s.boundaryDue && !s.esc.tickOpen && !s.fabStopped && decide (s.sched.landTick ≤ s.relTick)

/-- An engine will not start together with the others at this release (R15, R137). -/
def State.anyLate (s : State) : Bool := (List.range 32).any (fun nn => (s.engine nn).st == .detached)

/-- Kind i of the request has landed; the last kind completes it (R138, R146, R147). -/
def State.landed (s : State) (i : Nat) : State :=
  let s := s.setBit pgSched Off.schedHOIST i false
  if s.hoistKinds ≠ 0 then s
  else
    let s := s.setRg pgSched Off.schedHOIST 0
    let s := (s.setBit pgSched Off.schedSTAT 4 false).setBit pgSched Off.schedSTAT 5 false
    let s := s.setRg64 pgSched Off.schedLAST_TICK_LO Off.schedLAST_TICK_HI s.relTick
    ((s.inc pgSched Off.schedHOIST_CNT).setFld pgSched Off.schedSTAT 5 4 0).intBit pgSched 2

/-! ## Parameter groups (R140 to R144) -/

/-- Start and length of group g of engine nn. -/
def State.groupOf (s : State) (nn g : Nat) : Nat × Nat :=
  let r := s.rg (pgEng + nn) (Off.engPAR_GRP + 4 * g)
  (bitsN r 13 0, bitsN r 29 16)

def State.parBase (s : State) (nn : Nat) : Nat := s.rg (pgEng + nn) Off.engPAR_BASE
def State.parLen (s : State) (nn : Nat) : Nat := s.rg (pgEng + nn) Off.engPAR_LEN

/-- Bit g of PAR_SEL inverted. -/
def State.flipSel (s : State) (nn g : Nat) : State :=
  s.setBit (pgEng + nn) (if g < 32 then Off.engPAR_SEL_LO else Off.engPAR_SEL_HI) (g % 32) (!s.parSel nn g)

/-- The pending bit of group g of engine nn (R140). -/
def State.pgp (s : State) (nn g : Nat) : Bool := s.bit pgSched (Off.schedPGP + 4 * (2 * nn + g / 32)) (g % 32)
def State.clearPgp (s : State) (nn g : Nat) : State :=
  s.setBit pgSched (Off.schedPGP + 4 * (2 * nn + g / 32)) (g % 32) false

/-- The word at offset o of the copy that is selected, or not, for group g. -/
def State.parWord (s : State) (nn g o : Nat) (selected : Bool) : Nat :=
  s.parBase nn + o + (if s.parSel nn g == selected then s.parLen nn else 0)

/-- A gain pair bound to unit k, where it lies in group g and was written since the group landed (R144). -/
def State.gainLand (nn g : Nat) (ramp : Bool) (k : Nat) (s : State) : State :=
  let r := s.rg (pgEng + nn) (Off.engGBIND + 4 * k)
  let a := bitsN r 16 1
  let o := a - s.parBase nn
  let gr := s.groupOf nn g
  let e := s.engine nn
  if bitN r 0 && decide (s.parBase nn ≤ a) && decide (gr.1 ≤ o) && decide (o + 1 < gr.1 + gr.2)
      && (e.parWr.contains o || e.parWr.contains (o + 1)) then
    let t := s.loaderWord nn (s.parWord nn g o true)
    let c := t.2.loaderWord nn (s.parWord nn g (o + 1) true)
    c.2.modEngine nn (fun e =>
      if ramp then e.startRamp k t.1.toInt (c.1.toNat % 2 ^ 24) else e.setGain k t.1.toInt t.1.toInt 0 0)
  else s

/-- Group g of engine nn waits for the rejoin no longer (R15, R33). -/
def Engine.undue (e : Engine) (g : Nat) : Engine := { e with parDue := e.parDue - bitsN e.parDue g g * 2 ^ g }

/-- A word of a parameter area, or of another engine memory, written from outside: its mark goes, and its offset
counts as written (R144). -/
def State.poke (s : State) (nn a : Nat) (v : Word) (mark : Bool) : State :=
  let base := s.parBase nn
  let len := s.parLen nn
  let o := if a < base + len then a - base else a - base - len
  let inArea := decide (base ≤ a) && decide (a < base + 2 * len)
  let s := s.modEngine nn (fun e =>
    let e := e.setWord a v
    if mark && inArea && !e.parWr.contains o then { e with parWr := e.parWr ++ [o] } else e)
  s.setEcc 4 (winAddr nn a) 0

/-- Held window writes complete, the oldest first: each in the copy that is staged now, where the parameter area has its
offset, and nowhere else (R143; log entry 86, DESIGN CHOICE). The response comes with the last word of its write (R387). -/
def State.heldEnds : List HeldWrite → State → State
  | [], s => s
  | h :: hs, s =>
    let t := if h.o < s.parLen h.nn then s.poke h.nn (s.parWord h.nn h.g h.o false) h.v true else s
    let other (k : HeldWrite) : Bool := k.nn == h.nn && k.win == h.win && k.mid == h.mid && k.chan == h.chan && k.o != h.o
    State.heldEnds hs (if (hs ++ t.sched.held).any other then t
      else State.lateResp h.mid true h.lost t (if h.err then t.errFor h.mid else t.ok))

/-- The held window writes that satisfy p are taken out, and f completes them. -/
def State.heldOut (p : HeldWrite → Bool) (f : List HeldWrite → State → State) (s : State) : State :=
  f (s.sched.held.filter p) { s with sched := { s.sched with held := s.sched.held.filter (fun h => !p h) } }

/-- The hold of group g of engine nn ends (R143). -/
def State.heldGroup (s : State) (nn g : Nat) : State := State.heldOut (fun h => h.nn == nn && h.g == g) State.heldEnds s

/-- Group g of engine nn lands (R141, R142). Where nothing lands, no copy-forward follows, and the hold ends at once (log
entry 86). DESIGN CHOICE. -/
def State.landGroup (s : State) (nn g : Nat) (ramp : Bool) : State :=
  let gr := s.groupOf nn g
  let s := (s.clearPgp nn g).modEngine nn (fun e => e.undue g)
  if s.parLen nn = 0 ∨ gr.2 = 0 then s.heldGroup nn g
  else
    let s := s.flipSel nn g
    let s := forEach (List.range 8) (State.gainLand nn g ramp) s
    let s := s.modEngine nn (fun e =>
      { e with parWr := e.parWr.filter (fun o => !(decide (gr.1 ≤ o) && decide (o < gr.1 + gr.2))) })
    let s := { s with sched := { s.sched with copyFwd := s.sched.copyFwd.filter (fun p => p != (nn, g)) ++ [(nn, g)] } }
    s.setBit pgSched Off.schedSTAT 6 true

/-- Pending group g of engine nn at the landing release: a held engine's waits for its rejoin (R15, R137, R142). -/
def State.paramOne (nn g : Nat) (s : State) : State :=
  if s.pgp nn g then
    let e := s.engine nn
    match e.st with
    | .off => ((s.clearPgp nn g).setEngine nn (e.undue g)).heldGroup nn g
    | .running | .skipping => s.landGroup nn g true
    | .detached => s.setEngine nn { e with parDue := e.parDue ||| 2 ^ g }
    | _ => s.landGroup nn g false
  else s

/-- A skipping engine that has not ended the tick in which it was detached by the release at which it would rejoin has
stalled, which is Fatal (R35). -/
def State.stalls (s : State) : State :=
  forEach (List.range 32) (fun nn st =>
    let e := st.engine nn
    if e.st = .skipping ∧ e.ended < st.beatsN then
      (st.engFatal nn 12 (regAddr (pgEng + nn) 0) 0).intBit pgEsc 2
    else st) s

/-- All pending groups of all engines. -/
def State.paramLand (s : State) : State :=
  (forEach ((List.range 32).flatMap (fun nn => (List.range 64).map (fun g => (nn, g))))
    (fun p st => st.paramOne p.1 p.2) s.stalls).landed 1

def execParamLanding (s : State) : Out :=
  .next (onlyIf (s.landingDue && s.hoistBit 1 && !s.hoistBit 0) State.paramLand s)

/-- Groups whose landing waited for the rejoin of engine nn (R33), or that find it stopped by then (R142). -/
def State.paramRejoin (s : State) (nn : Nat) : State :=
  forEach ((List.range 64).filter (fun g => bitN (s.engine nn).parDue g)) (State.paramOne nn) s

/-- The copy-forward of a group ends: the newly staged copy takes the selected copy's words, as the loader reads them,
and held window writes land in it (R141, R143). -/
def State.copyForward (nn g : Nat) (s : State) : State :=
  let gr := s.groupOf nn g
  let s := forEach (List.range gr.2) (fun i st =>
    let o := gr.1 + i
    let r := st.loaderWord nn (st.parWord nn g o true)
    r.2.poke nn (st.parWord nn g o false) r.1 false) s
  let rest := s.sched.copyFwd.filter (fun p => p != (nn, g))
  ({ s with sched := { s.sched with copyFwd := rest } }.setBit pgSched Off.schedSTAT 6 (!rest.isEmpty)).heldGroup nn g

def execParamCopyForwardDone (nn : Fin 32) (g : Fin 64) (s : State) : Out :=
  .next (onlyIf (s.sched.copyFwd.contains (nn.val, g.val)) (State.copyForward nn g) s)

/-! ## Engine memory windows (R14, R64, R78, R92, R93, R143) -/

/-- What a window offset names: PM instruction and half, or an engine address (R64). -/
def winWord (o : Nat) : Option (Sum (Nat × Nat) Nat) :=
  if o < 8 * 12288 then some (.inl (o / 8, o / 4 % 2))
  else if 0x40000 ≤ o ∧ o < 0x50000 then some (.inr ((o - 0x40000) / 4))
  else if 0x60000 ≤ o ∧ o < 0x70000 then some (.inr (0x4000 + (o - 0x60000) / 4))
  else if 0x80000 ≤ o ∧ o < 0x88000 then some (.inr (0x8000 + (o - 0x80000) / 4))
  else if 0xA0000 ≤ o ∧ o < 0xA8000 then some (.inr (0xA000 + (o - 0xA0000) / 4))
  else none

/-- A refused access to a window, captured in ENGnn (R92). -/
def State.winCapture (s : State) (nn o mid n : Nat) (write : Bool) : State :=
  s.captureErr (pgEng + nn) 2 (winBase nn + o) mid (accType write false false n)
def State.winRefuse (s : State) (nn o mid n : Nat) (write : Bool) : State := (s.winCapture nn o mid n write).errFor mid

/-- Size and alignment of a window access are allowed (R92). -/
def winAligned (o n : Nat) : Bool := (n == 4 && o % 4 == 0) || (n == 8 && o % 8 == 0)

/-- The group of the parameter area that holds engine address a, its offset in the copy, and whether a lies in
copy 1. -/
def State.areaOf (s : State) (nn a : Nat) : Option (Option Nat × Nat × Bool) :=
  let base := s.parBase nn
  let len := s.parLen nn
  if base ≤ a ∧ a < base + 2 * len then
    let c1 := decide (base + len ≤ a)
    let o := if c1 then a - base - len else a - base
    some (s.parGroup nn o, o, c1)
  else none

/-- A hoist of group g of engine nn is pending, waits for the engine's rejoin, or copies forward (R15, R143). -/
def State.groupHoisting (s : State) (nn g : Nat) : Bool :=
  (s.hoistBit 1 && s.pgp nn g) || bitN (s.engine nn).parDue g || s.sched.copyFwd.contains (nn, g)

/-- What the window does with a word of XM, YM, IB or OB: apply it, hold it for a group, or refuse it. -/
inductive WinAct
  | apply | hold (g o : Nat) | refuse
  deriving DecidableEq, Repr

/-- The rules of R14, R78 and R143. -/
def State.winAct (s : State) (nn a : Nat) : WinAct :=
  let stopped := (s.engine nn).st.isStopped
  match s.areaOf nn a with
  | some (some g, o, c1) =>
    if c1 == s.parSel nn g then (if stopped then .apply else .refuse)
    else if s.groupHoisting nn g then .hold g o else .apply
  | _ => if stopped then .apply else .refuse

/-- An instruction of PM written, its mark removed. -/
def State.putPm (s : State) (nn i v : Nat) : State := (s.modEngine nn (fun e => e.setInstr i v)).setEcc 8 (pmAddr nn i) 0

/-- A 32-bit write of half of instruction i: the low half waits in the latch, the high half writes the word and empties
it (R93). -/
def State.putPmHalf (s : State) (nn i half v : Nat) : State :=
  if half = 0 then s.modEngine nn (fun e => { e with pmLatch := some (i, v) })
  else
    let low := match (s.engine nn).pmLatch with
      | some (j, l) => if i = j then l else 0
      | none => 0
    (s.putPm nn i (low + 2 ^ 32 * v)).modEngine nn (fun e => { e with pmLatch := none })

/-- The words of XM, YM, IB or OB that a window access covers: one, or two of a 64-bit access, lower address first, with
their window offsets (R92). -/
def winWords (a o n : Nat) : List (Nat × Nat) := if n = 8 then [(a, o), (a + 1, o + 4)] else [(a, o)]

/-- One 32-bit write of a window access at offset o: applied, held, or refused alone (R92, R143). h: what is held of it
beside the group, the offset in the copy and the word. -/
def State.winWrite (s : State) (nn mid : Nat) (h : HeldWrite) (w : (Nat × Nat) × Nat) : State :=
  match s.winAct nn w.1.1 with
  | .apply => s.poke nn w.1.1 (w32 w.2) true
  | .hold g o => { s with sched := { s.sched with held := s.sched.held ++ [{ h with g := g, o := o, v := w32 w.2 }] } }
  | .refuse => s.winCapture nn w.1.2 mid 4 true

def WinAct.holds : WinAct → Bool
  | .hold _ _ => true
  | _ => false

/-- A write through the window of engine nn at byte offset o. One that is held has no response yet (R387). In QUIET, where
the quadrant is gated and not OFF, the retained memories answer (log entry 86). DESIGN CHOICE. -/
def State.windowWrite (s : State) (nn o : Nat) (bs : List Byte) (mid id : Nat) : State :=
  let n := bs.length
  let e := s.engine nn
  if s.mode = 4 then s.defaultTarget (winBase nn + o) mid true false n
  else if !winAligned o n || e.st == .off then s.winRefuse nn o mid n true
  else
    match winWord o with
    | none => s.winRefuse nn o mid n true
    | some (.inl (i, half)) =>
      if !e.st.isStopped then s.winRefuse nn o mid n true
      else (if n = 8 then s.putPm nn i (ofLE bs) else s.putPmHalf nn i half (ofLE bs)).ok
    | some (.inr a) =>
      let ws := winWords a o n
      let bad := ws.any (fun w => s.winAct nn w.1 == .refuse)
      let h : HeldWrite := { nn := nn, g := 0, o := 0, v := 0, win := o, mid := mid, chan := chanOf mid id, err := bad }
      let t := forEach (ws.zip (words4 bs)) (fun w st => st.winWrite nn mid h w) s
      if ws.any (fun w => (s.winAct nn w.1).holds) then t.wait else if bad then t.errFor mid else t.ok

/-- A window write that is held joins the earlier ones. -/
def State.winQueues (nn o n : Nat) (s : State) : Bool :=
  match winWord o with
  | some (.inr a) => winAligned o n && (winWords a o n).any (fun w => (s.winAct nn w.1).holds)
  | _ => false

/-- A window write in the order of its master's requests (R385). -/
def State.windowTurn (nn o : Nat) (bs : List Byte) (mid id : Nat) (s : State) : State :=
  State.inTurn mid id (6 + nn / 8) (State.winQueues nn o bs.length) (fun s => s.windowWrite nn o bs mid id) s

def execEngineWindowWrite (nn : Fin 32) (o : Nat) (bs : List Byte) (mid : Nat) (s : State) : Out :=
  .next (onlyIf s.pwr.released (State.windowTurn nn (o % 0x100000) bs mid 0) s)

/-- A read through the window (R13, R90, R92). -/
def State.windowRead (s : State) (nn o n mid : Nat) : State :=
  let e := s.engine nn
  let ty := accType false false false n
  if s.mode = 4 then s.defaultTarget (winBase nn + o) mid false false n
  else if !winAligned o n || e.st == .off then s.winRefuse nn o mid n false
  else
    match winWord o with
    | none => s.winRefuse nn o mid n false
    | some (.inl (i, half)) =>
      let bs := bytesAt (toLE 8 (e.instr i)) (4 * half) n
      (match s.eccAt 8 (pmAddr nn i) with
      | 0 => s.deliver bs
      | 1 => (s.engCe nn (pmAddr nn i) mid ty).deliver bs
      | _ => (s.engUe nn (pmAddr nn i) mid ty).errFor mid)
    | some (.inr a) =>
      let ws := (winWords a o n).map (fun w => w.1)
      let s := forEach ws (fun a st =>
        match st.eccAt 4 (winAddr nn a) with
        | 0 => st
        | 1 => st.engCe nn (winAddr nn a) mid (accType false false false 4)
        | _ => st.engUe nn (winAddr nn a) mid (accType false false false 4)) s
      if ws.any (fun a => s.eccAt 4 (winAddr nn a) == 2) then s.errFor mid
      else s.deliver (ws.flatMap (fun a => toLE 4 (e.word a).toNat))

/-! ## Route banks: staged writes, reads, landing, copy-forward (R153, R157 to R164) -/

/-- BANK and INDEX of RT_ADDR. -/
def State.rtIndex (s : State) : Nat := s.fld pgRtr Off.rtrRT_ADDR 13 0
def State.rtBank (s : State) : Nat := s.fld pgRtr Off.rtrRT_ADDR 17 16

/-- The index advances after an access where AUTOINC is set. -/
def State.rtAdvance (s : State) : State :=
  if s.bit pgRtr Off.rtrRT_ADDR 20 then s.setFld pgRtr Off.rtrRT_ADDR 13 0 (s.rtIndex + 1) else s

/-- The check of R157 that a staged entry fails; 0 none. -/
def State.stagedCheck (s : State) (d v : Nat) : Nat :=
  let byps := ((s.listed s.rtr.staged).filter (fun i => i != d && entByp (s.entry s.rtr.staged i))).length
  if dstReserved d && v != 0 then 1
  else if entEn v && srcReserved (entSrc v) then 2
  else if entEn v && !entByp v && entXfer (s.entry s.rtr.live d) == 0xF then 3
  else if entByp v && !(isSlot d && isSlot (entSrc v) && !entSoft v && decide (byps + 1 ≤ 64)) then 4
  else 0

/-- A refused staged write (R157). -/
def State.stagedRefuse (s : State) (d c mid : Nat) : State :=
  let s := (s.setRg pgRtr Off.rtrREFUSE_LAST (d + c * 2 ^ 16)).inc pgRtr Off.rtrREFUSE_CNT
  s.writeErr pgRtr Off.rtrRT_DATA mid 0

/-- A staged write applied to entry d: XFER and C1 stay as copy-forward left them. -/
def State.stagedApply (s : State) (d v mid : Nat) : State :=
  let v := v % 2 ^ 17
  match s.stagedCheck d v with
  | 0 => s.setEntry s.rtr.staged d (v + bitsN (s.entry s.rtr.staged d) 21 17 * 2 ^ 17)
  | c => s.stagedRefuse d c mid

/-- Staged writes are held from a ROUTE or SWAP request to the end of the copy-forward (R158). -/
def State.rtHolding (s : State) : Bool := s.hoistBit 0 || s.hoistBit 3 || s.bit pgRtr Off.rtrSTAT 0

/-- A write to RT_DATA is held, and joins the earlier ones. -/
def State.rtQueues (s : State) : Bool := s.rtHolding && s.rtBank == 0

/-- A write of v to RT_DATA (R157, R158); one that is held has no response yet (R387). -/
def State.rtWrite (mid id v : Nat) (s : State) : State :=
  let d := s.rtIndex
  let s' :=
    if s.rtBank ≠ 0 then s.stagedRefuse d 5 mid
    else if s.rtHolding then
      let h : HeldRt := { d := d, v := v, mid := mid, chan := chanOf mid id }
      let t : State := { s with rtr := { s.rtr with held := s.rtr.held ++ [h] } }
      (t.setBit pgRtr Off.rtrSTAT 1 true).wait
    else s.stagedApply d v mid
  s'.rtAdvance

def execRtDataWrite (v mid : Nat) (s : State) : Out :=
  .next (s.guarded pgRtr Off.rtrRT_DATA mid false (State.rtWrite mid 0 v) 0 State.rtQueues)

/-- The physical bank that BANK names; none for the reserved code. -/
def State.bankNo (s : State) : Option Nat :=
  match s.rtBank with
  | 0 => some s.rtr.staged
  | 1 => some s.rtr.live
  | 2 => some s.rtr.image
  | _ => none

/-- A read of RT_DATA: an uncorrectable entry of S or I reads 0, one of L reads as stored but with EN = 0, the value that it
acts with (log entry 85, DESIGN CHOICE); the reserved bank reads 0 (R168, R169). -/
def State.rtRead (s : State) (mid : Nat) : State :=
  let d := s.rtIndex
  match s.bankNo with
  | none => (s.deliver (toLE 4 0)).rtAdvance
  | some b =>
    let s' := s.meetEntry b d (if b = s.rtr.live then d else regAddr pgRtr Off.rtrRT_DATA) (if b = s.rtr.live then midRouter else mid)
    let bad := s'.entryMark b d == 4
    let v := if bad then (if b = s.rtr.live then putBits (s.entry b d) 14 14 0 else 0) else s.entry b d
    (s'.deliver (toLE 4 v)).rtAdvance

/-- RT_DATA also reads in QUIET, where the banks are retained (R498). -/
def execRtDataRead (mid : Nat) (us : List (Nat × Nat)) (s : State) : Out :=
  .next ((s.upset us).guardRead pgRtr Off.rtrRT_DATA mid (fun _ => 0) (fun s => s.rtRead mid))

/-- LIVE_CNT and BYP_CNT follow the live bank. -/
def State.countLive (s : State) : State :=
  let es := (s.listed s.rtr.live).map (s.entry s.rtr.live)
  (s.setRg pgRtr Off.rtrLIVE_CNT (es.filter entEn).length).setRg pgRtr Off.rtrBYP_CNT (es.filter entByp).length

/-- Copy-forward begins. -/
def State.beginCopy (s : State) : State := (s.countLive).setBit pgRtr Off.rtrSTAT 0 true

/-- A pending switch is superseded (R164). -/
def State.supersede (s : State) (d : Nat) : State :=
  ((s.setSoft d none).inc pgGain Off.gainSUPERSEDE_CNT).intBit pgGain 2

/-- What an entry makes its destination carry on the tick path. -/
def entCarried (v : Nat) : Option Nat := if entEn v && !entByp v then some (entSrc v) else none

/-- A soft change of destination d from one source to another, as far as switches are left (R160, R163). Destinations are
taken in rising order, and a switch that the same landing closes at a higher one leaves no place for a lower one (log
entry 43). DESIGN CHOICE. -/
def State.openSoft (s : State) (d : Nat) (o n : Option Nat) : State :=
  if s.rtr.sw.length < 2048 then s.setSoft d (some { old := o, new := n, count := 0, last := none })
  else (s.inc pgGain Off.gainSOFT_OVF_CNT).intBit pgGain 1

/-- Destination d at a ROUTE landing, from its old entry to its new one. -/
def State.routeOne (d o n : Nat) (s : State) : State :=
  if entEn o = entEn n ∧ entSrc o = entSrc n ∧ entByp o = entByp n then s
  else
    let soft := entSoft n && !entByp n && !entByp o
    match s.softOf d with
    | some w =>
      let s := s.supersede d
      if entCarried n = w.old ∧ entByp n = false then s
      else if soft then s.openSoft d w.old (entCarried n) else s
    | none => if soft then s.openSoft d (entCarried o) (entCarried n) else s

/-- A ROUTE landing: L and S exchange, and each changed entry changes (R153, R160). -/
def State.routeLand (s : State) : State :=
  let old := s.rtr.live
  let ds := (List.range 16384).filter (fun d => (s.listed old).contains d || (s.listed s.rtr.staged).contains d)
  let s := { s with rtr := { s.rtr with live := s.rtr.staged, staged := old } }
  let s := forEach ds (fun d st => st.routeOne d (st.effEntry st.rtr.staged d) (st.effEntry st.rtr.live d)) s
  s.beginCopy.landed 3

def execRouteLanding (s : State) : Out :=
  .next (onlyIf (s.landingDue && s.hoistBit 3 && !s.hoistBit 0) State.routeLand s)

/-- The first n held staged writes are applied, and their responses come (R158, R387). -/
def State.rtRelease (n : Nat) (s : State) : State :=
  let hs := s.rtr.held.take n
  let rest := s.rtr.held.drop n
  let s := { s with rtr := { s.rtr with held := rest, heldMark := 0 } }.setBit pgRtr Off.rtrSTAT 1 (!rest.isEmpty)
  forEach hs (fun h st => State.lateResp h.mid true h.lost st (st.stagedApply h.d h.v h.mid).ok) s

/-- After a BLOCK reset of SCHED or RTR no hoist or no copy-forward may be left that staged writes wait for: then they are
applied, to the reset values (R389; log entry 95). DESIGN CHOICE. -/
def State.rtReset (s : State) : State :=
  if s.rtHolding then s.setBit pgRtr Off.rtrSTAT 1 (!s.rtr.held.isEmpty) else State.rtRelease s.rtr.held.length s

/-- L is copied into S, entries as the router uses them: every mark of S goes. Staged writes held for this hoist are
applied; those held since a further request was written wait for its copy-forward (R153, R158, R168). -/
def State.routeCopied (s : State) : State :=
  let ds := s.listed s.rtr.live
  let s := s.clearBank s.rtr.staged
  let s := forEach ds (fun d st => st.setEntry st.rtr.staged d (st.liveEntry d)) s
  let s := (s.setBit pgRtr Off.rtrSTAT 0 false).intBit pgRtr 4
  let n := if s.hoistBit 0 || s.hoistBit 3 then s.rtr.heldMark else s.rtr.held.length
  State.rtRelease n s

def execRouteCopyForwardDone (s : State) : Out :=
  .next (onlyIf (s.bit pgRtr Off.rtrSTAT 0) State.routeCopied s)

def execSoftSwitchTimeout (d : Nat) (s : State) : Out :=
  .next (onlyIf ((s.softOf d).any (fun w => decide (s.zcTimeout ≤ w.count))) (fun s => s.closeSoft d 3 0) s)

/-! ## Engine starts and stops (R52, R53, R80) -/

/-- The bytes that slot k of engine nn may touch: first address, and the one after the last (R80). -/
def State.slotExtent (s : State) (nn k : Nat) : Nat × Nat :=
  let b := Off.engMB + 16 * k
  let base := s.rg (pgEng + nn) b / 4 * 4 + 2 ^ 32 * s.fld (pgEng + nn) (b + 4) 7 0
  let len := s.fld (pgEng + nn) (b + 8) 23 0
  let e := if len = 0 then 2 ^ 24 else len
  (base, base + 4 * (s.fld (pgEng + nn) (b + 12) 31 24 * s.fld (pgEng + nn) (b + 12) 23 0 + e))

def State.slotEn (s : State) (nn k : Nat) : Bool := s.bit (pgEng + nn) (Off.engMB + 16 * k + 4) 31
def State.slotRw (s : State) (nn k : Nat) : Bool := s.bit (pgEng + nn) (Off.engMB + 16 * k + 4) 30

/-- The jitter-buffer region of STRM in the shared store (R282). -/
def State.jbRange (s : State) : Nat × Nat :=
  let b := 0x10000000 + s.rg pgStrm Off.strmJB_BASE
  (b, b + s.rg pgStrm Off.strmJB_SIZE)

/-- The key of word i of stream n, direction d: 0 receive, 1 transmit (R292). -/
def sKey (d n i : Nat) : Nat := (256 * d + n) * 16 + i

/-- Field [hi:lo] of a descriptor word. -/
def State.sd (s : State) (d n i hi lo : Nat) : Nat := bitsN (smapGet zeroW s.net.desc (sKey d n i)).toNat hi lo

/-- Whether a stream runs: its bit in RX_EN or TX_EN. -/
def strmEnOff (d n : Nat) : Nat := (if d = 0 then Off.strmRX_EN else Off.strmTX_EN) + 4 * (n / 32)
def State.strmRuns (s : State) (d n : Nat) : Bool := s.bit pgStrm (strmEnOff d n) (n % 32)

/-- CHANNELS of a stream; JB_LEN of a receive stream, its buffer's first byte and length (R282). -/
def State.sChans (s : State) (d n : Nat) : Nat := s.sd d n 0 22 16 + 1
def State.jbLen (s : State) (n : Nat) : Nat := s.sd 0 n 6 15 0
def State.jbAt (s : State) (n : Nat) : Nat := s.jbRange.1 + s.sd 0 n 5 23 0
def State.jbBytes (s : State) (n : Nat) : Nat := 4 * s.sChans 0 n * s.jbLen n

/-- The pages of the running units to which n bytes at a belong: engines in the signal plane with an enabled slot whose
extent meets them (R81), and STRM, where they lie in the buffer of a running receive stream (R12, R20). -/
def State.slotOwners (s : State) (a n : Nat) : List Nat :=
  ((List.range 32).filter (fun nn => (s.engine nn).st.inPlane && (List.range 8).any (fun k =>
    s.slotEn nn k && rangesMeet (memKey a, memKey a + n) (s.slotExtent nn k)))).map (fun nn => pgEng + nn)
  ++ (if (List.range 256).any (fun m => s.strmRuns 0 m && rangesMeet (memKey a, memKey a + n) (s.jbAt m, s.jbAt m + s.jbBytes m))
    then [pgStrm] else [])

/-- Such a write by a control-plane master is refused, and captured in the units' pages (R12, R81, R464). -/
def State.slotRefused (s : State) (mid a n : Nat) : Bool := decide (mid < 0x10) && !(s.slotOwners a n).isEmpty
def State.slotCapture (s : State) (mid a n : Nat) : State :=
  forEach (s.slotOwners a n) (fun p st => st.captureErr p 2 a mid (accType true false false n)) s
def State.slotRefuse (s : State) (mid a n : Nat) : State := (s.slotCapture mid a n).errFor mid

/-- An extent lies wholly in the shared store or wholly in the usable DRAM (R80, R360). -/
def State.extentOk (s : State) (x : Nat × Nat) : Bool :=
  (decide (0x10000000 ≤ x.1) && decide (x.2 ≤ 0x11000000))
  || (decide (0x100000000 ≤ x.1) && decide (x.2 ≤ 0x100000000 + s.rg pgDrc Off.drcCAP * 2 ^ 20))

/-- The enabled slots of an engine. -/
def State.slots (s : State) (nn : Nat) : List Nat := (List.range 8).filter (s.slotEn nn)

/-- The start checks of R52 for engine nn, against those of the engines in plane that run after this release or start at
it (R80). Slots of other engines count where they are enabled, one with RW = 1 as much as any: R80 names 'enabled' in its
first case alone (log entry 96). DESIGN CHOICE. -/
def State.startOk (s : State) (plane : List Nat) (nn : Nat) : Bool :=
  let e := s.engine nn
  let others := plane.filter (fun m => m != nn)
  e.st != .off && s.domain (domainOf (pgEng + nn))
  && decide (s.rg (pgEng + nn) Off.engPC_START < 12288)
  && (s.slots nn).all (fun k =>
      let x := s.slotExtent nn k
      s.extentOk x
      && (!s.slotRw nn k ||
          (!rangesMeet x s.jbRange
          && others.all (fun m => (s.slots m).all (fun j => !rangesMeet x (s.slotExtent m j)))))
      && others.all (fun m => (s.slots m).all (fun j => !(s.slotRw m j && rangesMeet x (s.slotExtent m j)))))

/-- Engine nn enters STOPPED, with its interrupt (R96). -/
def State.engStopped (s : State) (nn : Nat) : State :=
  (s.modEngine nn (fun e => { e with st := .stopped, startDue := false, stopDue := false, waiting := false })).intBit
    (pgEng + nn) 14

/-- CTL.RUN and CTL_NX.RUN of engine nn. -/
def State.setRun (s : State) (nn : Nat) (b : Bool) : State :=
  let s := (s.setRg (pgEng + nn) Off.engCTL (b2n b)).setRg (pgEng + nn) Off.engCTL_NX (b2n b)
  { s with sched := { s.sched with eff := smapSet resetWord s.sched.eff (rkey (pgEng + nn) Off.engCTL_NX) (w32 (b2n b)) } }

/-- Engine nn starts: what it was in the tick before decides what a later overrun holds, that is the blocks delivered in
the last tick without detachment (R32, R138). An overrun before the stop still counts, for no on-time tick has followed
(R35). -/
def Engine.start (e : Engine) (t b : Nat) : Engine :=
  { e with st := .running, loops := [], mp := [], waiting := false, startDue := true, stopDue := false
           fromFault := false, gramps := [], cand := [], ended := b
           fresh := if e.st == .running then false else e.fresh || !e.st.inPlane
           hold := if e.st == .running then mergeBlocks e.cand e.hold else if e.st.inPlane then e.hold else []
           dm := smapKeep (fun a => emem a != .ib || decide ((a - 0x8000) % 32 < t)) e.dm }

/-- The start of engine nn at a landing release (R52): the loop stack and the queue are empty, words of samples T to
31 of IB read 0 (R75), and the engine runs from this release on. Where a check fails, an engine that was running or in
FAULT enters STOPPED with its interrupt (R96); an armed one stays stopped. -/
def State.engStart (plane : List Nat) (nn : Nat) (s : State) : State :=
  let e := s.engine nn
  let ok := s.startOk plane nn
  let s := if ok || e.st.inPlane then s.setBit pgEsc Off.escDETACHED nn false else s
  if ok then s.setEngine nn (e.start s.T s.beatsN)
  else
    let s := if e.st.inPlane || e.st == .fault then s.engStopped nn
      else s.setEngine nn { e with st := if e.st == .off then .off else .stopped, startDue := false }
    (s.setRun nn false).engErr nn 2 11 (regAddr (pgEng + nn) 0) midNone 0

/-- The landed value of ENGnn.CTL_NX.RUN. -/
def State.runEff (s : State) (nn : Nat) : Bool := bitN (s.eff (pgEng + nn) Off.engCTL_NX) 0

/-- The engines that run in the tick released at a REGS landing without SWAP, whose values are in effect (R52, R53,
R80): those that run on, a held one that does not stop at its rejoin, and those that start. -/
def State.planeAfterRegs (s : State) : List Nat :=
  (List.range 32).filter (fun nn =>
    match (s.engine nn).st with
    | .detached => true
    | .running => s.runEff nn
    | .skipping => s.runEff nn && !(s.engine nn).stopDue
    | .armed => s.runEff nn && !s.bit pgEsc Off.escSTAT 5
    | _ => false)

/-- A landed value of ENGnn.CTL_NX.RUN (R52, R53). While FAB_FATAL holds, armed engines wait for the SWAP (R38); for a
detached or skipping engine the value lands at its rejoin (R137); a SWAP of the same request decides all starts and
stops (R138). -/
def State.engLand (plane : List Nat) (nn : Nat) (s : State) : State :=
  let e := s.engine nn
  let run := s.runEff nn
  let set (s : State) : State := s.setRg (pgEng + nn) Off.engCTL (b2n run)
  match e.st with
  | .off => s
  | .detached | .skipping => s.setEngine nn { e with stopDue := e.stopDue || !run }
  | .armed => if s.bit pgEsc Off.escSTAT 5 || s.hoistBit 0 || !run then set s else State.engStart plane nn (set s)
  | .running => if run || s.hoistBit 0 then set s else (set s).engStopped nn
  | _ => set s

/-- A write of CTL_NX: arming and disarming (R52). An engine armed after the pending request was written, and then
cleared before it lands, stays ARMED with no start staged (log entry 84). DESIGN CHOICE. -/
def State.engCtlWrite (nn v : Nat) (s : State) : State :=
  let e := s.engine nn
  let s := s.setRg (pgEng + nn) Off.engCTL_NX (v % 2)
  if v % 2 = 1 then
    (if e.st = .stopped ∨ e.st = .fault then
      s.setEngine nn { e with st := .armed, fromFault := e.st == .fault }
    else s)
  else if e.st = .armed ∧ ¬ s.hoistBit 2 then
    (s.setEngine nn { e with st := if e.fromFault then .fault else .stopped }).intBit (pgEng + nn) 14
  else s

def execEngineArm (nn : Fin 32) (mid : Nat) (s : State) : Out :=
  .next (s.guarded (pgEng + nn) Off.engCTL_NX mid false (State.engCtlWrite nn 1))

def execEngineDisarm (nn : Fin 32) (mid : Nat) (s : State) : Out :=
  .next (s.guarded (pgEng + nn) Off.engCTL_NX mid false (State.engCtlWrite nn 0))

/-- A register cleared by a write of 0 and left by any other value (R94, R376, R390, R474). -/
def State.clearOnZero (page off v : Nat) (s : State) : State := if v % 2 ^ 32 = 0 then s.setRg page off 0 else s

def execMpWaitMaxClear (nn : Fin 32) (v mid : Nat) (s : State) : Out :=
  .next (s.guarded (pgEng + nn) Off.engMP_WAIT_MAX mid false (State.clearOnZero (pgEng + nn) Off.engMP_WAIT_MAX v))

/-! ## The SWAP (R138) -/

/-- Engine nn takes its preset: registers by index (R126, R138). -/
def Engine.preset (e : Engine) (x : Nat × List Nat) : Engine :=
  let i := x.1
  let v (k : Nat) := x.2.getD k 0
  if i < 0x10 then e.setD i (w32 (v 0))
  else if i < 0x18 then e.setAcc (i - 0x10) (toSigned 80 (v 0 + 2 ^ 32 * v 1 + 2 ^ 64 * (v 2 % 2 ^ 16)))
  else if i < 0x20 then e.setP (i - 0x18) (v 0)
  else if i < 0x28 then e.setN (i - 0x20) (toSigned 17 (v 0))
  else if i < 0x30 then e.setW (i - 0x28) (v 0)
  else if i < 0x38 then
    e.setGain (i - 0x30) (toSigned 32 (v 0)) (toSigned 32 (v 1)) (toSigned 32 (v 2)) (v 3 % 2 ^ 24)
  else if i = 0x38 then { e with x0 := w32 (v 0) }
  else if i = 0x39 then { e with x1 := w32 (v 0) }
  else if i = 0x3A then { e with y0 := w32 (v 0) }
  else if i = 0x3B then { e with y1 := w32 (v 0) }
  else { e with sx := v 0 }

/-- The place in page ENG of word i of a CONFIG section (R94, R126). -/
def configOff (i : Nat) : Nat :=
  if i = 0 then Off.engPC_START
  else if i < 33 then Off.engMB + 4 * (i - 1)
  else if i < 41 then Off.engGBIND + 4 * (i - 33)
  else if i = 41 then Off.engPAR_BASE
  else if i = 42 then Off.engPAR_LEN
  else Off.engPAR_GRP + 4 * (i - 43)

/-- Engine nn under the new image b (R138, steps 1 to 3 and 6): no group waits, and none of the new parameter area has
been written (R144). The half-word latch of PM is emptied with the bank (log entry 86, DESIGN CHOICE). -/
def State.swapEngine (b : Bank) (nn : Nat) (s : State) : State :=
  let p := pgEng + nn
  let s := s.modEngine nn (fun e => { e with pm := smapGet (fun _ => []) b.pm nn, pmLatch := none, parDue := 0 })
  let s := { s with ecc := smapKeep (fun k => !(decide (pmAddr nn 0 ≤ k) && decide (k < pmAddr nn 12288))) s.ecc }
  let s := (s.setRg p Off.engPAR_SEL_LO 0).setRg p Off.engPAR_SEL_HI 0
  let s := s.setRg p Off.engSTEPS_PROOF (smapGet zeroN b.steps nn)
  if bitN b.mask nn then
    let cfg := smapGet (fun _ => []) b.cfg nn
    let s := forEach (List.range cfg.length) (fun i st => st.setRg p (configOff i) (cfg.getD i 0)) s
    s.modEngine nn (fun e => { (smapGet (fun _ => []) b.preset nn).foldl Engine.preset e with parWr := [] })
  else s

/-- The engines that start at a SWAP (R138, step 5; R38). -/
def State.planeAfterSwap (s : State) (b : Bank) (fatal : Bool) : List Nat :=
  (List.range 32).filter (fun nn =>
    bitN b.mask nn || (fatal && (s.engine nn).st == .armed && s.rg (pgEng + nn) Off.engCTL == 1))

/-- Engine nn starts, stops or stays stopped at a SWAP (R138, steps 5 and 7; R38). -/
def State.swapRun (plane : List Nat) (nn : Nat) (s : State) : State :=
  let e := s.engine nn
  if plane.contains nn then (s.setRun nn true).engStart plane nn
  else
    let s := s.setRun nn false
    if e.st.inPlane then (s.engStopped nn).setBit pgEsc Off.escDETACHED nn false
    else if e.st = .armed then s.engStopped nn
    else s

/-- Bank B becomes bank A (R138). What the streams check at a swap follows in the landing command (R281). -/
def State.swapLand (s : State) : State :=
  let s := s.stalls
  let b := s.sched.b
  let plane := s.planeAfterSwap b (s.bit pgEsc Off.escSTAT 5)
  let s := { s with sched := { s.sched with a := b, b := {}, copyFwd := [] } }
  let s := s.setLoadState 0
  let s := (s.setBit pgSched Off.schedSTAT 3 true).setBit pgSched Off.schedSTAT 6 false
  let s := s.setRg64 pgSched Off.schedIMG_A_LO Off.schedIMG_A_HI b.id
  let s := s.setRg pgEsc Off.escMARGIN b.margin
  let s := forEach (List.range 8) (fun i st => st.setRg pgEsc (Off.escBEAT_DL + 4 * i) (b.dl.getD i 0)) s
  let s := forEach (s.rtr.sw.map (fun p => p.1)) (fun d st => st.supersede d) s
  let s := { s with rtr := { s.rtr with live := s.rtr.image, image := s.rtr.live } }
  let s := ((s.clearBank s.rtr.image).setBit pgRtr Off.rtrSTAT 2 false).beginCopy
  let s := forEach (List.range 32) (State.swapEngine b) s
  let s := forEach (List.range 64) (fun i st => st.setRg pgSched (Off.schedPGP + 4 * i) 0) s
  let s := State.heldOut (fun _ => true) State.heldEnds s
  let s := forEach (List.range 32) (State.swapRun plane) s
  let s := s.setBit pgEsc Off.escSTAT 5 false
  let s := (s.setBit pgSched Off.schedHOIST 1 false).setBit pgSched Off.schedHOIST 3 false
  s.landed 0

/-- The whole request moves to the next release (R137). -/
def State.swapDefer (s : State) : State :=
  let s := { s with sched := { s.sched with landTick := s.relTick + 1 } }
  ((s.inc pgSched Off.schedSWAP_DEFER_CNT).setBit pgSched Off.schedSTAT 5 true).intBit pgSched 3

end Sys2Proof.Machine
end

