-- ==== Sys2Proof/Machine/Esc.lean ====
section
/-! DEFINITION. The Escapement's overruns, deadlines, barrier, slack and tally, and the voltage loop (R17, R25 to R49,
R501). -/

namespace Sys2Proof.Machine

/-! ## The voltage loop (R40 to R46) -/

/-- bound(x) of R40 and R41: V_MAX prevails. -/
def State.avsBound (s : State) (v : Int) : Nat :=
  (min (max v (s.rg pgAvs Off.avsV_MIN : Nat)) (s.rg pgAvs Off.avsV_MAX : Nat)).toNat

def State.avsEn (s : State) : Bool := s.bit pgAvs Off.avsCTL 0
def State.avsFixed (s : State) : Bool := s.bit pgAvs Off.avsCTL 1

/-- V_CMD: the last value sent (R49). -/
def State.avsCmd (s : State) : Nat := s.fld pgAvs Off.avsV_CMD 15 0

/-- v of R40: the last value commanded, also while it waits for the bus (log entry 82). -/
def State.avsV (s : State) : Nat := s.avs.queued.getD s.avsCmd

/-- The loop steps the voltage: enabled, started in RUN or SHADOW, closed, not stopped by a bus failure (R42, R44,
R45). -/
def State.avsLoop (s : State) : Bool :=
  s.avsEn && s.avs.started && !s.avsFixed && !s.bit pgAvs Off.avsSTAT 2 && (s.mode == 1 || s.mode == 2)

/-- The window is closed, to open again after SETTLE or, where so said, at the next boundary (R40). -/
def State.avsClose (s : State) (atBoundary : Bool) : State :=
  { s with avs := { s.avs with winOpen := false, winCnt := 0, winMin := 1024, winAtBoundary := atBoundary } }

/-- A new window opens. -/
def State.avsOpen (s : State) : State :=
  { s with avs := { s.avs with winOpen := true, winCnt := 0, winMin := 1024, winAtBoundary := false } }

/-- STAT.SETTLING (R49). -/
def State.avsSettling (s : State) : Bool := s.bit pgAvs Off.avsSTAT 3

/-- The transaction of v begins: V_CMD holds the last value sent (R43, R49). -/
def State.avsTransact (v : Nat) (s : State) : State :=
  let s := s.setRg pgAvs Off.avsV_CMD v
  { s with avs := { s.avs with txn := some (v, s.fld pgAvs Off.avsBUS_CFG 9 8), queued := none } }

/-- A value is sent: the window restarts after SETTLE, and its transaction begins. Behind a transaction in progress the
newest value waits (log entry 82). DESIGN CHOICE. -/
def State.avsSend (s : State) (v : Nat) : State :=
  let settling := s.avsSettling
  let s := (s.avsClose false).setBit pgAvs Off.avsSTAT 3 true
  match s.avs.txn with
  | some _ => { s with avs := { s.avs with queued := some v } }
  | none => State.avsTransact v { s with avs := { s.avs with settlePrev := settling } }

/-- The count of R40 that keeps the loop from lowering, shown in STAT [4]. -/
def State.setHoldoff (s : State) (n : Nat) : State :=
  { s with avs := { s.avs with holdoff := n, holdEnd := false } }.setBit pgAvs Off.avsSTAT 4 (n != 0)

/-- The block starts, as at an entry to RUN or SHADOW (R45, R46). A loop stopped by a bus failure commands nothing
before RESTART (R44). -/
def State.avsStart (s : State) : State :=
  let s := { s with avs := { s.avs with started := true, armed := false } }.avsClose false
  if s.avsFixed then s.avsSend (s.avsBound s.avsCmd)
  else if s.bit pgAvs Off.avsSTAT 2 then s
  else s.avsSend (s.avsBound (s.fld pgAvs Off.avsV_START 15 0 : Nat))

/-- Entry to RUN or SHADOW from another mode (R45, R46). -/
def State.avsEnter (s : State) : State := if s.avsEn then s.avsStart else s

/-- The loop is frozen outside RUN and SHADOW (R45): a transaction in progress completes, one that waits is dropped
(log entry 82). DESIGN CHOICE. -/
def State.avsFreeze (s : State) : State :=
  let s := (s.avsClose false).setBit pgAvs Off.avsSTAT 3 false
  { s with avs := { s.avs with started := false, queued := none } }

/-- The first overrun of a tick (R40); a later one of the same tick does nothing here. -/
def State.avsOverrun (s : State) : State :=
  if s.esc.stepInTick then s
  else
    let s := { s with esc := { s.esc with stepInTick := true } }
    if !s.avsLoop then s
    else
      let s := s.setHoldoff (s.fld pgAvs Off.avsHOLDOFF 23 0)
      let w := s.avsBound (s.avsV + s.fld pgAvs Off.avsSTEP 23 16 : Nat)
      if w ≠ s.avsV then s.avsSend w else s.avsClose true

/-- A tick's slack fraction enters the open window. -/
def State.avsTick (s : State) (frac : Nat) : State :=
  if s.avs.winOpen && s.avsLoop then
    { s with avs := { s.avs with winCnt := s.avs.winCnt + 1, winMin := min s.avs.winMin frac } }
  else s

/-- A complete window (R40). -/
def State.avsWindowEnd (s : State) : State :=
  let m := s.avs.winMin
  let tgt := s.fld pgAvs Off.avsSLACK_TGT 9 0
  let v := s.avsV
  let w :=
    if m < tgt then s.avsBound (v + s.fld pgAvs Off.avsSTEP 15 8 : Nat)
    else if tgt + s.fld pgAvs Off.avsSLACK_HYST 9 0 < m ∧ s.avs.holdoff = 0 then
      s.avsBound ((v : Int) - (s.fld pgAvs Off.avsSTEP 7 0 : Nat))
    else v
  if w ≠ v then s.avsSend w else s.avsOpen

def execAvsWindowEnd (s : State) : Out :=
  .next (onlyIf (s.avsLoop && s.avs.winOpen && decide (s.fld pgAvs Off.avsPERIOD 15 0 ≤ s.avs.winCnt)
    && !s.esc.ovrInTick) State.avsWindowEnd s)

/-- SETTLE after the last acknowledged command has passed (R40): the window that waited for it opens. The tick then in
progress counts in it (log entry 22). DESIGN CHOICE. -/
def State.avsSettled (s : State) : State :=
  let s := s.setBit pgAvs Off.avsSTAT 3 false
  if s.avsLoop && !s.avs.winAtBoundary then s.avsOpen else s

def execAvsSettleEnd (s : State) : Out := .next (onlyIf (s.avsSettling && s.avs.txn.isNone) State.avsSettled s)

def execAvsHoldoffEnd (s : State) : Out := .next (onlyIf s.avs.holdEnd (fun s => s.setHoldoff 0) s)

/-- The boundary's part of the loop: the count falls by one, its last step being the event of its own, whether or not
the loop steps the voltage (log entry 82, DESIGN CHOICE); a window that waits for the boundary opens, or is left to the
end of SETTLE (R40). -/
def State.avsBoundary (s : State) : State :=
  let s :=
    if s.avs.holdoff = 0 then s
    else if s.avs.holdoff = 1 then { s with avs := { s.avs with holdEnd := true } }
    else s.setHoldoff (s.avs.holdoff - 1)
  if s.avs.winAtBoundary && s.avsLoop then (if s.avsSettling then s.avsClose false else s.avsOpen) else s

/-- The retries are exhausted: the loop stops at the last acknowledged voltage, and a waiting value is dropped (R44). -/
def State.avsFail (s : State) : State :=
  let s := { s with avs := { s.avs with txn := none, queued := none } }
  let s := ((s.avsClose false).setBit pgAvs Off.avsSTAT 2 true).setBit pgAvs Off.avsSTAT 3 s.avs.settlePrev
  (s.inc pgAvs Off.avsFAIL_CNT).pageErr pgAvs 2 0

/-- The transaction of v is acknowledged; a value that waits follows it, within the bounds as they are then (R41). -/
def State.avsAck (v : Nat) (s : State) : State :=
  let s := { s with avs := { s.avs with acked := v, regulator := v } }
  match s.avs.queued with
  | some w => State.avsTransact (s.avsBound w) { s with avs := { s.avs with settlePrev := true } }
  | none => { s with avs := { s.avs with txn := none } }

/-- One attempt of the transaction in progress ends (R43, R44): frameErr is a frame error or a status alert; without
one the voltage has been read back. -/
def State.avsDone (frameErr : Bool) (readback : Nat) (s : State) : State :=
  match s.avs.txn with
  | none => s
  | some (v, retries) =>
    let s := if frameErr then s else s.setRg pgAvs Off.avsV_READ (readback % 65536)
    if frameErr ∨ 10 < ((v : Int) - readback).natAbs then
      (if 0 < retries then { s with avs := { s.avs with txn := some (v, retries - 1) } } else s.avsFail)
    else State.avsAck v s

def execAvsTransactionDone (frameErr : Bool) (readback : Nat) (s : State) : Out :=
  .next (State.avsDone frameErr readback s)

/-- CTL.EN = 1 (R46). -/
def State.avsEnable (s : State) : State :=
  if s.avsEn then s
  else
    let s := s.setBit pgAvs Off.avsCTL 0 true
    if s.mode = 1 ∨ s.mode = 2 then s.avsStart else { s with avs := { s.avs with armed := true } }

/-- CTL.EN = 0 (R46). -/
def State.avsDisable (s : State) : State :=
  let s := (s.setBit pgAvs Off.avsCTL 0 false).avsFreeze
  { s with avs := { s.avs with armed := false } }

/-- The loop starts or resumes from the present V_CMD: its window opens once SETTLE has passed (R40, R42, R44). -/
def State.avsResume (s : State) : State :=
  if s.avsLoop && !s.avsSettling then s.avsOpen else s.avsClose false

/-- CTL.MODE (R42). -/
def State.avsMode (m : Bool) (s : State) : State :=
  let was := s.avsFixed
  let s := s.setBit pgAvs Off.avsCTL 1 m
  if was = m then s else s.avsResume

/-- CTL.RESTART: the loop resumes with a new window (R44). -/
def State.avsRestart (s : State) : State :=
  if s.bit pgAvs Off.avsSTAT 2 then (s.setBit pgAvs Off.avsSTAT 2 false).avsResume else s

/-- A write of V_CMD (R42, R46). Where nothing is sent, in fixed mode with EN = 0 or outside RUN and SHADOW, the
register holds the value for the next start (log entry 82). DESIGN CHOICE. -/
def State.avsVcmd (v : Nat) (s : State) : State :=
  if !s.avsFixed then s
  else if s.avsEn && s.avs.started then s.avsSend (s.avsBound (v % 65536 : Nat))
  else s.setRg pgAvs Off.avsV_CMD (v % 65536)

/-- A write of AVS.CTL as a whole. -/
def State.avsCtl (v : Nat) (s : State) : State :=
  let s := State.avsMode (bitN v 1) s
  let s := if bitN v 0 then s.avsEnable else s.avsDisable
  if bitN v 2 then s.avsRestart else s

def execAvsEnable (mid : Nat) (s : State) : Out := .next (s.guarded pgAvs Off.avsCTL mid false State.avsEnable)
def execAvsDisable (mid : Nat) (s : State) : Out := .next (s.guarded pgAvs Off.avsCTL mid false State.avsDisable)
def execAvsModeSet (fixed : Bool) (mid : Nat) (s : State) : Out :=
  .next (s.guarded pgAvs Off.avsCTL mid false (State.avsMode fixed))
def execAvsRestart (mid : Nat) (s : State) : Out := .next (s.guarded pgAvs Off.avsCTL mid false State.avsRestart)
def execAvsVCmdWrite (v mid : Nat) (s : State) : Out :=
  .next (s.guarded pgAvs Off.avsV_CMD mid false (State.avsVcmd v))

/-! ## Slack (R29, R30, R47) -/

def execEscSlackClr (mid : Nat) (s : State) : Out :=
  .next (s.guarded pgEsc Off.escCTL mid false (fun s =>
    (s.setRg pgEsc Off.escSLACK_MIN 0xFFFFFFFF).setRg pgEsc Off.escSLACK_MAX 0))

def execEscHistClr (mid : Nat) (s : State) : Out :=
  .next (s.guarded pgEsc Off.escCTL mid false (fun s => { s with esc := { s.esc with histClr := true } }))

/-- The slack fraction of R30: floor(slack x 1,024 / nominal tick period), slack in ns. -/
def State.slackFrac (s : State) (slack : Nat) : Nat := slack * 1024 * s.fs / (s.T * 1000000000)

/-- A tick without an overrun enters the histogram (R30). -/
def State.histogram (s : State) (frac : Nat) : State :=
  let b := min (frac / 2 ^ s.fld pgEsc Off.escHIST_CFG 2 0) 15
  let o := Off.escHIST + 4 * b
  let before := s.rg pgEsc o
  let s := s.inc pgEsc o
  if before < 0xFFFFFFFF ∧ s.rg pgEsc o = 0xFFFFFFFF then s.intBit pgEsc 4 else s

/-- A slack fraction below SLACK_WARN (R30). -/
def State.slackLow (s : State) (frac : Nat) : State :=
  if frac < s.fld pgEsc Off.escSLACK_WARN 9 0 then s.intBit pgEsc 3 else s

/-- The slack of a tick, measured in units of 2 ns (R29). -/
def State.slackRecord (s : State) (units : Nat) : State :=
  let bad := s.esc.ovrInTick
  let slack := if bad then 0 else (2 * units) % 2 ^ 32
  let s := s.setRg pgEsc Off.escSLACK_LAST slack
  let s := s.setRg pgEsc Off.escSLACK_MIN (min (s.rg pgEsc Off.escSLACK_MIN) slack)
  if bad then s
  else
    let s := s.setRg pgEsc Off.escSLACK_MAX (max (s.rg pgEsc Off.escSLACK_MAX) slack)
    let f := s.slackFrac slack
    ((if s.esc.histFrom ≤ s.esc.running then s.histogram f else s).slackLow f).avsTick f

/-! ## The tally (R342) -/

/-- The output-port destinations of the tally, rising. -/
def tallyDests : List Nat := List.range 0x0A20 ++ (List.range 0x1000).map (fun i => 0x1000 + i)

/-- The words that the tick produced for the output ports, in the order of R342. -/
def State.tallyWords (s : State) : List Word :=
  tallyDests.flatMap (fun d => getBlock s.sig.dest d s.T)

/-- The tally of the tick, with the hold mark that it carries (R39): the engines held, and bit 32 for a fabric
overrun. -/
def State.tally (s : State) : State :=
  let v := crc64Words s.tallyWords
  let mark := s.esc.holdMask + (if s.esc.fabOvrNow then 2 ^ 32 else 0)
  let s := s.setRg64 pgPair Off.pairTALLY_LO Off.pairTALLY_HI v
  { s with esc := { s.esc with holdLast := mark }
           pair := { s.pair with tallies := (s.pair.tallies ++ [(s.esc.running, v, mark)]).reverse.take 4 |>.reverse } }

/-! ## Route scrubbing (R468, R469) -/

/-- One entry of a bank scrubbed: a corrected one is written back. -/
def State.scrubEntry (bank d : Nat) (s : State) : State :=
  match s.entryMark bank d with
  | 0 => s
  | k =>
    let s := s.meetEntry bank d (regAddr pgRtr 0) midNone
    if k % 2 = 1 then { s with ecc := smapSet zeroN s.ecc (entryEcc bank d) 0 } else s

/-- 64 entries of each bank after transfer B. -/
def State.scrubRoutes (s : State) : State :=
  if s.bit pgStore Off.storeSCRUB_CTL 2 then
    let i := s.rtr.scrub
    let s := forEach ((List.range 3).flatMap (fun b => (List.range 64).map (fun k => (b, (i + k) % 16384))))
      (fun p st => st.scrubEntry p.1 p.2) s
    { s with rtr := { s.rtr with scrub := (i + 64) % 16384 } }
  else s

/-! ## Overruns (R31 to R37) -/

/-- OVR_ENG's count of engine nn, saturating at 255. -/
def State.countOvr (s : State) (nn : Nat) : State :=
  let o := Off.escOVR_ENG + 4 * (nn / 4)
  let lo := 8 * (nn % 4)
  (s.inc pgEsc Off.escOVR_CNT).setFld pgEsc o (lo + 7) lo (min 255 (s.fld pgEsc o (lo + 7) lo + 1))

/-- Engine nn has not ended beat b by D(b) (R31, R34, R35). -/
def State.overrun (b nn : Nat) (s : State) : State :=
  let e := s.engine nn
  if e.st = .running ∧ e.ended < b then
    let s := s.countOvr nn
    let s := s.setRg pgEsc Off.escOVR_LAST (nn + b * 2 ^ 5 + s.esc.running % 2 ^ 16 * 2 ^ 16)
    let s := (s.setBit pgEsc Off.escDETACHED nn true).intBit pgEsc 0
    let s := { s with esc := { s.esc with ovrInTick := true, holdMask := s.esc.holdMask ||| 2 ^ nn } }
    let s :=
      if e.ovrLast then (s.engFatal nn 12 (regAddr (pgEng + nn) 0) 0).intBit pgEsc 2
      else (s.setEngine nn { e with st := .detached, ovrLast := true }).engErr nn 2 12 (regAddr (pgEng + nn) 0) (midEng nn) 0
    s.avsOverrun
  else s

/-- D(b) of the tick in the fabric (R31). -/
def State.deadline (b : Nat) (s : State) : State := forEach (List.range 32) (State.overrun b) s

def execBeatDeadline (b : Nat) (s : State) : Out :=
  .next (onlyIf (s.esc.tickOpen && decide (1 ≤ b) && decide (b ≤ s.beatsN)) (State.deadline b) s)

/-- Every engine of the signal plane has ended beat b, detached and skipping ones apart (R17, R31, R33). -/
def State.barrierMet (s : State) (b : Nat) : Bool :=
  (List.range 32).all (fun nn => let e := s.engine nn; e.st != .running || decide (b ≤ e.ended))

/-- The barrier of the beat in progress: its transfer, then the next beat, or none after beat B (R17). -/
def State.barrier (s : State) : State :=
  let b := s.beat
  let s := s.transfer b
  let s := { s with esc := { s.esc with xfers := b + 1 } }
  s.setFld pgEsc Off.escSTAT 4 1 (if b < s.beatsN then b + 1 else 0)

def execBeatBarrier (us : List (Nat × Nat)) (s : State) : Out :=
  .next (onlyIf (s.esc.tickOpen && decide (1 ≤ s.beat) && s.barrierMet s.beat) (fun s => (s.upset us).barrier) s)

/-- Transfer B of the tick completes, units of 2 ns before the next release, its transfers having taken xferNs. -/
def State.transferBDone (units xferNs : Nat) (s : State) : State :=
  let s := if s.esc.fabOvrNow then s else State.composeB [] s
  let s := (s.slackRecord units).tally
  let s := (s.setRg pgRtr Off.rtrXFER_NS_LAST (xferNs % 2 ^ 32)).scrubRoutes
  { s with esc := { s.esc with tickOpen := false } }

/-- A running engine is stopped by the fabric (R38). -/
def State.stopFabric (s : State) : State :=
  let s := forEach (List.range 32) (fun nn st =>
    if (st.engine nn).st.inPlane then
      (st.engStopped nn).setBit pgEsc Off.escDETACHED nn false
    else st) s
  { s with sig := { s.sig with dest := [] }, esc := { s.esc with tickOpen := false } }.setFld pgEsc Off.escSTAT 4 0 0

/-- The ports take the blocks delivered, as those of tick k. -/
def State.takeAs (k : Nat) (s : State) : State :=
  { s with sig := { s.sig with
      taken := s.sig.dest, hist := ((k, s.sig.dest) :: s.sig.hist.filter (fun h => h.1 != k)).take 200 } }

/-- The ports take the blocks of the tick in the fabric (R25). -/
def State.takeBlocks (s : State) : State := State.takeAs s.esc.running s

/-- The blocks that transfers of the tick have delivered, and for every other destination its block in old. -/
def State.deliveredOver (s : State) (old : SMap Word) : SMap Word :=
  let done (k : Nat) : Bool := decide (entXfer (s.liveEntry (k / 32)) < s.esc.xfers)
  (smapKeep done s.sig.dest).foldl (fun m e => smapSet zeroW m e.1 e.2) (smapKeep (fun k => !done k) old)

/-- The fabric stops after the second fabric overrun in a row: Fatal (R37, R38), with slack 0 for its tick (R29). Blocks
that the ports have taken are still sent. The instant of the error is no marked instant: the boundary that is due is
dropped, and requests wait for the next mark (log entry 83). DESIGN CHOICE. -/
def State.fabFatal (s : State) : State :=
  let s := s.raiseErr pgEsc 3 (2 + 4) (regAddr pgEsc 0) midNone 0
  let s := (State.slackRecord s 0).stopFabric
  let s := { s with
    sig := { s.sig with due := [], taken := [] }
    esc := { s.esc with running := s.tick, fabOvrNow := false, fabOvrPrev := false } }
  (s.setFld pgEsc Off.escSTAT 5 5 1).setBit pgEsc Off.escSTAT 0 false

/-- Transfer B of the tick has not completed by the next release: late lists the output-port destinations that a
transfer B in progress has not delivered yet (R37). Two such ticks in a row are Fatal, and the fabric stops (R38). -/
def State.fabOverrun (late : List Nat) (s : State) : State :=
  let s := s.inc pgEsc Off.escFAB_OVR_CNT
  let begun := s.esc.xfers == s.beatsN + 1
  let back := if begun then late.filter (fun d => d < 0x2000) else (s.rtr.sw.map (fun p => p.1)).filter (fun d => d < 0x2000)
  let s := if begun then State.composeB late s else s
  let s := if begun then
      { s with sig := { s.sig with dest := back.foldl (fun m d => putBlock m d (getBlock s.sig.taken d 32)) s.sig.dest } }
    else { s with sig := { s.sig with dest := s.deliveredOver s.sig.taken } }
  let s := forEach back (fun d st => st.unsearched d) s
  let s := { s with esc := { s.esc with fabOvrNow := true, ovrInTick := true } }
  let s := s.avsOverrun
  let s := s.takeBlocks
  if s.esc.fabOvrPrev then s.fabFatal else s.pageErr pgEsc 2 1

end Sys2Proof.Machine
end

