-- ==== Sys2Proof/Machine/Tdm.lean ====
section
/-! DEFINITION. Serial audio ports and alignment groups: starting, frames, judging, ramps, slips, flywheel and bypass
(R165, R173 to R194). -/

namespace Sys2Proof.Machine

/-! ## Ports, groups and their settings -/

def grpReset : Nat → TdmGrp := fun _ => {}

def State.setPort (s : State) (p : Nat) (t : TdmPort) : State := { s with tdm := smapSet tdmReset s.tdm p t }
def State.modPort (s : State) (p : Nat) (f : TdmPort → TdmPort) : State := s.setPort p (f (s.port p))
def State.group (s : State) (g : Nat) : TdmGrp := smapGet grpReset s.grp g
def State.setGroup (s : State) (g : Nat) (t : TdmGrp) : State := { s with grp := smapSet grpReset s.grp g t }

/-- The other format fields of a port (R191). -/
def State.fmtSlotBits (s : State) (p : Nat) : Nat := 16 + 8 * s.fmt p 8 7
def State.fmtDataBits (s : State) (p : Nat) : Nat := 16 + 8 * s.fmt p 10 9
def State.fmtDiv (s : State) (p : Nat) : Nat := 2 ^ s.fmt p 17 16
def State.portGroup (s : State) (p : Nat) : Nat := s.fld (pgTdm + p) Off.tdmCFG 2 0

/-- A register of group g. -/
def grpOff (g o : Nat) : Nat := o + 0x40 * g
def State.grpState (s : State) (g : Nat) : Nat := s.fld pgTdmg (grpOff g Off.tdmgG_STAT) 1 0
def State.setGrpState (s : State) (g v : Nat) : State := s.setFld pgTdmg (grpOff g Off.tdmgG_STAT) 1 0 v
def State.grpCtl (s : State) (g hi lo : Nat) : Nat := s.fld pgTdmg (grpOff g Off.tdmgG_CTL) hi lo
def State.grpTarget (s : State) (g : Nat) : Bool := s.grpCtl g 4 4 == 1

/-- The port receives its clocks: a member of a target group (R176). Where a BLOCK reset of TDMG clears ROLE, a member that
finishes its frame in progress does so as one of a controller group (log entry 27). DESIGN CHOICE. -/
def State.isTarget (s : State) (p : Nat) : Bool := decide (s.portGroup p < 4) && s.grpTarget (s.portGroup p)

/-- The members of group g, and those that run or wait to start. -/
def State.members (s : State) (g : Nat) : List Nat := (List.range 16).filter (fun p => s.portGroup p == g)

/-- MEMBERS follows the ports' CFG (R193). -/
def State.updMembers (s : State) : State :=
  forEach (List.range 4) (fun g st =>
    st.setRg pgTdmg (grpOff g Off.tdmgG_MEMBERS) ((s.members g).foldl (fun m p => m + 2 ^ p) 0)) s

/-- RATE_DIV of a group: that of any member, 1 without one. -/
def State.grpDiv (s : State) (g : Nat) : Nat := ((s.members g).head?.map s.fmtDiv).getD 1

/-- STATE of a port after its directions (R191). -/
def State.showPort (s : State) (p : Nat) : State :=
  let t := s.port p
  let s := (s.setFld (pgTdm + p) Off.tdmSTATE 2 0 t.inD.ph).setFld (pgTdm + p) Off.tdmSTATE 6 4 t.outD.ph
  s.setFld (pgTdm + p) Off.tdmSTATE 31 16 (min t.inD.good 65535)

/-- A flag of a port, in STAT and INT_RAW (R192). -/
def State.tdmFlag (s : State) (p i : Nat) : State := (s.orRg (pgTdm + p) Off.tdmSTAT (2 ^ i)).intBit (pgTdm + p) i

/-- A flag of a port that is a Contained error. -/
def State.tdmErr (s : State) (p i : Nat) : State := (s.orRg (pgTdm + p) Off.tdmSTAT (2 ^ i)).pageErr (pgTdm + p) 2 i

/-! ## Start and stop of a port (R175, R176, R188, R189) -/

/-- The slot limit of a frame rate in Hz. -/
def slotLimit (rate : Nat) : Nat := if rate ≤ 48000 then 32 else if rate ≤ 96000 then 16 else 8

/-- The format fields that the ports of a group share. -/
def State.fmtShared (s : State) (p : Nat) : Nat × Nat × Nat × Nat :=
  (s.fmt p 8 0, s.fmt p 14 11, s.fmt p 17 16, 0)

/-- The checks of R175. The ports compared are those of the group that are enabled. -/
def State.tdmOk (s : State) (p : Nat) : Bool :=
  let n := s.fmtDiv p
  let rateN := s.fs
  let sl := s.fmtSlots p
  decide (sl ≤ slotLimit (rateN / n))
  && decide (rateN * sl * s.fmtSlotBits p ≤ 49152000 * n)
  && (s.fmt p 1 0 == 0 || sl % 2 == 0) && decide (s.fmtDataBits p ≤ s.fmtSlotBits p)
  && s.fmt p 1 0 != 3 && s.fmt p 8 7 != 3 && s.fmt p 10 9 != 3 && s.fmt p 17 16 != 3
  && !(decide (4 ≤ s.portGroup p) && decide (s.portGroup p ≤ 6))
  && (decide (4 ≤ s.portGroup p) || (s.members (s.portGroup p)).all (fun q => s.fmtShared q == s.fmtShared p))

/-- CTL.EN and CTL_NX.EN of port p cleared. -/
def State.tdmEnOff (s : State) (p : Nat) : State :=
  let s := (s.setBit (pgTdm + p) Off.tdmCTL 0 false).setBit (pgTdm + p) Off.tdmCTL_NX 0 false
  { s with sched := { s.sched with eff := smapMod resetWord s.sched.eff (rkey (pgTdm + p) Off.tdmCTL_NX) (fun w => w &&& 0xFFFFFFFE) } }

/-- A landed EN = 1. -/
def State.tdmStart (p : Nat) (s : State) : State :=
  if s.tdmOk p then
    (s.modPort p (fun t => { t with inD := { ph := 1 }, outD := { ph := 1 }, got := none, bad := 0, miss := 0
                                    seen := false, next := 0, periods := [], hist := [], stopDue := false, landTick := s.tick
                                    due := [] })).showPort p
  else (s.tdmErr p 0).tdmEnOff p

/-- A port is OFF: SDO floats while it does not run (R189). -/
def State.tdmOff (p : Nat) (s : State) : State :=
  ((s.modPort p (fun t => { t with inD := {}, outD := {}, got := none, stopDue := false, due := [] })).setFld
    (pgTdm + p) Off.tdmSTATE 9 8 0).showPort p

/-- The end of a stopping port's last frame: the port is OFF, or waits for an ARM where EN is still 1 (R178). -/
def State.tdmEnd (p : Nat) (s : State) : State :=
  if s.bit (pgTdm + p) Off.tdmCTL 0 then
    (s.modPort p (fun t => { t with inD := { ph := 1 }, outD := { ph := 1 }, got := none, stopDue := false, due := [] })).showPort p
  else s.tdmOff p

/-- A landed EN = 0: a running port stops at the end of its frame. -/
def State.tdmStop (p : Nat) (s : State) : State :=
  if (s.port p).runs then s.modPort p (fun t => { t with stopDue := true }) else s.tdmOff p

/-- A landed CTL_NX of port p, from the old value in effect to the new; a landed MUTE acts at the landing release (R175,
R188, R189). -/
def State.tdmLand (p new : Nat) (s : State) : State :=
  let was := s.bit (pgTdm + p) Off.tdmCTL 0
  let s := s.setRg (pgTdm + p) Off.tdmCTL (new % 4)
  let s := if (s.port p).runs then s.modPort p (fun t => { t with muted := bitN new 1 }) else s
  if bitN new 0 && !was then State.tdmStart p s
  else if !bitN new 0 && was then State.tdmStop p s
  else s

/-- The bypass sources of the slots of port p, by the live bank (R165). -/
def State.bypassed (s : State) (p : Nat) : List (Option Nat) :=
  (List.range (s.fmtSlots p)).map (fun sl =>
    let v := s.liveEntry (0x800 + 32 * p + sl)
    if entByp v then some (entSrc v) else none)

/-- What a frame of port p that starts now carries besides its samples: a bypass takes effect or ends with the first
frame that starts after its landing release (R166), and MUTE_NOW mutes from the next frame start (R189). -/
def State.frameStart (p : Nat) (s : State) : State :=
  s.modPort p (fun t => { t with byps := s.bypassed p, muted := s.bit (pgTdm + p) Off.tdmCTL 1 })

/-- A waiting port begins its frames (R177, R192). -/
def State.tdmBegin (p : Nat) (s : State) : State :=
  let t := s.port p
  if t.inD.ph = 1 then
    let zero := List.replicate (s.fmtSlots p) (0 : Word)
    let s := s.setPort p { t with hist := [], inD := { ph := 2, last := zero }, outD := { ph := 2, last := zero }, since := s.esc.running }
    ((State.frameStart p s).showPort p).intBit (pgTdm + p) 10
  else s

/-- MUTE of port p, in effect and requested, set at once (R189). -/
def State.muteNow (p : Nat) (s : State) : State :=
  let s := (s.setBit (pgTdm + p) Off.tdmCTL 1 true).setBit (pgTdm + p) Off.tdmCTL_NX 1 true
  let on (r : SMap Word) := smapMod resetWord r (rkey (pgTdm + p) Off.tdmCTL_NX) (fun w => w ||| 2)
  { s with sched := { s.sched with eff := on s.sched.eff, snap := s.sched.snap.map on } }

def execTdmMuteNow (p : Fin 16) (mid : Nat) (s : State) : Out :=
  .next (s.guarded (pgTdm + p) Off.tdmMUTE_NOW mid true (State.muteNow p))

/-! ## Groups: arming, stopping, starting (R177, R178) -/

/-- The trigger words of a group: the tick, or the time in ns. -/
def State.trigTick (s : State) (g : Nat) : Nat :=
  s.rg pgTdmg (grpOff g Off.tdmgG_TRIG_LO) + 2 ^ 32 * s.rg pgTdmg (grpOff g Off.tdmgG_TRIG_HI)
def State.trigTq (s : State) (g : Nat) : Int :=
  (((s.rg pgTdmg (grpOff g Off.tdmgG_TRIG_HI) + 2 ^ 32 * s.fld pgTdmg (grpOff g Off.tdmgG_TRIG_X) 15 0) * 10 ^ 9
    + s.fld pgTdmg (grpOff g Off.tdmgG_TRIG_LO) 29 0) * 2 ^ 16 : Nat)

/-- An ARM write is refused (R178). -/
def State.armRefused (s : State) (g : Nat) : Bool :=
  s.grpState g != 0 ||
  (match s.grpCtl g 3 2 with
  | 1 => decide (s.trigTick g ≤ s.tick + 1 ∧ s.trigTick g - 1 ≤ s.tick)
  | 2 => s.timeQual == 0 || decide (s.trigTq g < s.tq)
  | 3 => !s.bit pgTdmg Off.tdmgSTART_CFG 0
  | _ => false)

/-- STOP: running members stop at the end of their frame in progress, and the group is IDLE (R178). -/
def State.grpStop (g : Nat) (s : State) : State :=
  let s := forEach ((s.members g).filter (fun p => (s.port p).runs)) (fun p st =>
    st.modPort p (fun t => { t with stopDue := true })) s
  let s := s.setRg pgTdmg (grpOff g Off.tdmgG_STAT) 0
  s.setBit pgTdmg (grpOff g Off.tdmgG_CTL) 0 false

/-- ARM: bit 0 of CTL reads 1 while the group is not IDLE (R193). -/
def State.grpArm (g : Nat) (s : State) : State :=
  let s := (s.setGrpState g 1).setBit pgTdmg (grpOff g Off.tdmgG_CTL) 0 true
  s.setGroup g { s.group g with armTick := s.tick, edge := false }

/-- A write of v to GRPg_CTL: the fields while IDLE, then STOP, then ARM; R193 gives no order among them (log entry 27).
DESIGN CHOICE. A refused ARM changes nothing (R499). -/
def State.grpCtlWrite (g mid v : Nat) (s : State) : State :=
  let t := if s.grpState g = 0 then s.setFld pgTdmg (grpOff g Off.tdmgG_CTL) 11 2 (bitsN v 11 2 &&& 0x3CF) else s
  let t := if bitN v 1 then State.grpStop g t else t
  if !bitN v 0 then t
  else if t.armRefused g then s.writeErr pgTdmg (grpOff g Off.tdmgG_CTL) mid 17
  else State.grpArm g t

def execGroupArm (g : Fin 4) (v mid : Nat) (s : State) : Out :=
  .next (onlyIf (bitN v 0) (fun s => s.guarded pgTdmg (grpOff g Off.tdmgG_CTL) mid false (State.grpCtlWrite g mid v)) s)

def execGroupStop (g : Fin 4) (v mid : Nat) (s : State) : Out :=
  .next (onlyIf (bitN v 1) (fun s => s.guarded pgTdmg (grpOff g Off.tdmgG_CTL) mid false (State.grpCtlWrite g mid v)) s)

/-- An enabled START edge is captured on the time base (R177): the edge that POL selects, which leaves the pin at its own level
(R193; log entry 27). DEDUCED. -/
def execStartEdgeCapture (s : State) : Out :=
  .next (onlyIf (s.bit pgTdmg Off.tdmgSTART_CFG 0 && s.pageEn pgTdmg) (fun s =>
    let s := { s with ctl := { s.ctl with startPin := !s.bit pgTdmg Off.tdmgSTART_CFG 1 } }
    let s := s.setRg64 pgTdmg Off.tdmgSTART_TS_LO Off.tdmgSTART_TS_HI (captureForm s.tq s.timeQual)
    let s := forEach (List.range 4) (fun g st =>
      if st.grpState g = 1 ∧ st.grpCtl g 3 2 = 3 then st.setGroup g { st.group g with edge := true } else st) s
    s.intBit pgTdmg 16) s)

/-- The trigger instant of an armed group has come (R177). -/
def State.triggered (s : State) (g : Nat) : Bool :=
  s.grpState g == 1 &&
  (match s.grpCtl g 3 2 with
  | 0 => decide ((s.group g).armTick < s.tick)
  | 1 => decide (s.trigTick g ≤ s.tick + 1)
  | 2 => decide (s.trigTq g ≤ s.tq)
  | _ => (s.group g).edge)

/-- The value in [64, 64 + 256 n) that a handoff delay in 1/256 sample gives modulo n samples (R180). -/
def phaseStart (n e : Nat) : Nat := 64 + (e + 256 * n - 64 % (256 * n)) % (256 * n)

/-- The delays of a target group in whole sample positions, from its e at the start (R180): input frames are handed over
e after their completion; output frames are taken from the grid at the mirror offset, which is read as the delay in
[0.25, 0.25 + n) that equals -e modulo n (log entry 87). DEDUCED. -/
def inDelay (ph : Nat) : Nat := (ph + 255) / 256
def outDelay (n ph : Nat) : Nat := (phaseStart n (256 * n - ph % (256 * n)) + ph) / 256 - inDelay ph

/-- Frame 0 of group g starts, pos sample periods into the tick; e is the handoff delay that a target group's timing
gives, in 1/256 of a sample period. -/
def State.frame0 (g pos e : Nat) (s : State) : State :=
  let s := forEach ((s.members g).filter (fun p => (s.port p).runs && (s.port p).stopDue)) State.tdmEnd s
  let ph := if s.grpTarget g then phaseStart (s.grpDiv g) e else 0
  let s := s.setGroup g { next := s.tick * s.T + pos, armTick := s.tick, inOfs := inDelay ph
                          outOfs := if s.grpTarget g then outDelay (s.grpDiv g) ph else 0 }
  let s := (s.setRg pgTdmg (grpOff g Off.tdmgG_STAT) 2).setRg64 pgTdmg (grpOff g Off.tdmgG_START_TICK_LO)
    (grpOff g Off.tdmgG_START_TICK_HI) (s.tick + 1)
  let s := s.setRg64 pgTdmg (grpOff g Off.tdmgG_FRAME_LO) (grpOff g Off.tdmgG_FRAME_HI) 0
  let s := s.setRg pgTdmg (grpOff g Off.tdmgG_PHASE) (ph + ph * 2 ^ 16)
  let s := forEach (s.members g) State.tdmBegin s
  s.intBit pgTdmg g

/-- Frame 0 of group g may start pos sample periods into the tick: a controller group with TRIG = 0 or 1 starts at a
boundary (R177). -/
def State.frame0Ok (s : State) (g pos : Nat) : Bool :=
  s.triggered g && decide (pos < s.T) && (s.grpTarget g || decide (2 ≤ s.grpCtl g 3 2) || pos == 0)

def execGroupFrame0Start (g : Fin 4) (pos e : Nat) (s : State) : Out :=
  .next (onlyIf (s.frame0Ok g pos) (State.frame0 g pos e) s)

/-! ## Samples (R174) -/

/-- An input slot as a Q1.31 word: the top DATA_BITS of the slot. -/
def slotIn (slotBits dataBits raw : Nat) : Word :=
  w32 (raw % 2 ^ slotBits / 2 ^ (slotBits - dataBits) * 2 ^ (32 - dataBits))

/-- An output slot: the top DATA_BITS of the word, truncated or rounded, in the top bits of the slot. -/
def slotOut (slotBits dataBits : Nat) (rnd : Bool) (w : Word) : Nat :=
  let k := 32 - dataBits
  let d : Int :=
    if rnd then min (convDiv w.toInt k) ((2 : Int) ^ (dataBits - 1) - 1) else w.toInt / (2 : Int) ^ k
  ofSigned dataBits d * 2 ^ (slotBits - dataBits)

/-- A received frame: slot contents as slots x SLOT_BITS; missing slots read 0. -/
def State.frameIn (s : State) (p : Nat) (slots : List Nat) : List Word :=
  (List.range (s.fmtSlots p)).map (fun i => slotIn (s.fmtSlotBits p) (s.fmtDataBits p) (slots.getD i 0))

/-! ## Received frames (R183, R184) -/

/-- The period, in units of 2 ns, lies outside RATE_TOL of the nominal one. -/
def State.outOfTol (s : State) (p units : Nat) : Bool :=
  let nom : Nat := 1000000000 * s.fmtDiv p
  decide ((s.fld (pgTdm + p) Off.tdmRATE_TOL 15 0) * nom < (((2 * units * s.fs : Nat) : Int) - (nom : Int)).natAbs * 1000000)

/-- The mean of the last 64 periods in ps (R191). -/
def State.fsPeriod (s : State) (p units : Nat) : State :=
  let ps := (units :: (s.port p).periods).take 64
  let s := s.modPort p (fun t => { t with periods := ps })
  if ps.length = 64 then s.setRg (pgTdm + p) Off.tdmFS_PERIOD (ps.foldl (· + ·) 0 * 2000 / 64) else s

/-- The port takes a completed frame for the group frame in progress; a second one is discarded (R185). -/
def State.takeFrame (s : State) (p : Nat) (ws : List Word) : State :=
  let t := s.port p
  match t.got with
  | some _ => (s.inc (pgTdm + p) Off.tdmIN_OVR_CNT).tdmFlag p 4
  | none => s.setPort p { t with got := some ws }

/-- The run of good frames of both directions counted, or begun afresh (R184). -/
def TdmPort.count (t : TdmPort) (good : Bool) : TdmPort :=
  if good then { t with inD := { t.inD with good := t.inD.good + 1 }, outD := { t.outD with good := t.outD.good + 1 } }
  else { t with inD := { t.inD with good := 0 }, outD := { t.outD with good := 0 } }

/-- RATE_FAULT of a port. -/
def State.rateFault (s : State) (p : Nat) : Bool := s.bit (pgTdm + p) Off.tdmSTATE 8

/-- A frame completes on port p: its slots, its BCLK count, its FSYNC period in units of 2 ns. Controller ports make
no clock checks (R183). -/
def State.tdmFrame (p : Nat) (slots : List Nat) (bclk units : Nat) (s : State) : State :=
  let ws := s.frameIn p slots
  if s.isTarget p then
    let s := (s.setRg (pgTdm + p) Off.tdmBCLK_LAST (bclk % 65536)).fsPeriod p units
    let s := (s.modPort p (fun t => { t with seen := true, miss := 0 })).setBit (pgTdm + p) Off.tdmSTATE 9 true
    let okB := bclk == s.fmtSlots p * s.fmtSlotBits p
    let out := s.outOfTol p units
    let s := if okB then s else (s.inc (pgTdm + p) Off.tdmBCLK_ERR_CNT).tdmFlag p 1
    let s := if out then (s.inc (pgTdm + p) Off.tdmRATE_DEV_CNT).tdmFlag p 2 else s
    let s := s.modPort p (fun t => { t.count (okB && !out) with bad := if out then t.bad + 1 else 0 })
    let use := okB && (!s.rateFault p || decide (64 ≤ (s.port p).inD.good))
    (if use then s.takeFrame p ws else s).showPort p
  else ((s.modPort p (fun t => t.count true)).takeFrame p ws).showPort p

def execTdmInputFrame (p : Fin 16) (slots : List Nat) (bclk units : Nat) (s : State) : Out :=
  .next (onlyIf (s.port p).runs (State.tdmFrame p slots bclk units) s)

def execTdmRateFault (p : Fin 16) (s : State) : Out :=
  .next (onlyIf ((s.port p).runs && decide (8 ≤ (s.port p).bad) && !s.rateFault p) (fun s =>
    ((s.setBit (pgTdm + p) Off.tdmSTATE 8 true).inc (pgTdm + p) Off.tdmRATE_FAULT_CNT).tdmErr p 8) s)

def execTdmRateFaultClear (p : Fin 16) (s : State) : Out :=
  .next (onlyIf (s.rateFault p && decide (64 ≤ (s.port p).inD.good)) (fun s =>
    (s.setBit (pgTdm + p) Off.tdmSTATE 8 false).modPort p (fun t => { t with bad := 0 })) s)

/-! ## The sequence of one direction (R186, R188) -/

/-- Ramp samples: out of v at i, and into x at i. -/
def rampOutW (i : Nat) (v : Word) : Word := BitVec.ofInt 32 (convDiv (v.toInt * ((63 - i : Nat) : Int)) 6)
def rampInW (i : Nat) (x : Word) : Word := BitVec.ofInt 32 (convDiv (x.toInt * ((i + 1 : Nat) : Int)) 6)

/-- A ramp-out begins, from the samples delivered last: those of its first frame, and the direction after it. -/
def Dir.startRampOut (d : Dir) : List Word × Dir :=
  (d.last.map (rampOutW 0), { d with ph := 4, i := 1, run := 0, v := d.last })

/-- One frame of a direction: the samples it delivers, the direction after it, and the ramp events met
(0 RAMP_OUT begins, 1 it ends, 2 RAMP_IN begins, 3 it ends). x is the live frame, absent where it is faulted; lost says
that the fault ends the run of good frames, which a good frame received in rate fault does not (R184). -/
def Dir.frame (d0 : Dir) (hold : Nat) (lost : Bool) (x : Option (List Word)) : List Word × Dir × List Nat :=
  let d := if lost then { d0 with good := 0 } else d0
  match d.ph, x with
  | 4, _ =>
    let ws := d.v.map (rampOutW d.i)
    if d.i = 63 then
      (if 64 ≤ d.good then (ws, { d with ph := 6, i := 0 }, [1, 2]) else (ws, { d with ph := 5, i := 0 }, [1]))
    else (ws, { d with i := d.i + 1 }, [])
  | 5, _ =>
    let ws := d.v.map (fun _ => (0 : Word))
    if 64 ≤ d.good then (ws, { d with ph := 6, i := 0 }, [2]) else (ws, d, [])
  | 6, some w =>
    let ws := w.map (rampInW d.i)
    if d.i = 63 then (ws, { d with ph := 2, i := 0, run := 0 }, [3]) else (ws, { d with i := d.i + 1 }, [])
  | 6, none =>
    let r := { d with good := 0 }.startRampOut
    (r.1, r.2, [0])
  | _, some w => (w, { d with ph := 2, run := 0 }, [])
  | _, none =>
    if hold < d.run + 1 then
      let r := d.startRampOut
      (r.1, r.2, [0])
    else (d.last, { d with ph := 3, run := d.run + 1 }, [])

/-! ## Group frames (R165, R179 to R185) -/

/-- The router sample that destination d, a slot of a port, presents in the output frame that starts at media-sample
position t: sample t - T - 2 of the stream of blocks taken since the port started (R25, R177, R179). -/
def State.outSample (s : State) (d t : Nat) : Word :=
  if t < s.T + 2 ∨ (t - s.T - 2) / s.T < (s.port ((d - 0x800) / 32)).since then 0
  else
    match s.sig.hist.find? (fun h => h.1 == (t - s.T - 2) / s.T) with
    | some h => smapGet zeroW h.2 (sigKey d ((t - s.T - 2) % s.T))
    | none => 0

/-- The start of the frame of port p at media-sample position t, in 1/256 of a sample period from boundary 0: a target
group's frames lie off the grid by its offset and phase (R180). -/
def State.frameInstant (s : State) (p t : Nat) : Int :=
  if s.isTarget p then
    (256 * (t + (s.group (s.portGroup p)).inOfs) : Nat)
      - (s.fld pgTdmg (grpOff (s.portGroup p) Off.tdmgG_PHASE) 15 0 : Nat)
  else (256 * t : Nat)

/-- The bypassed sample of source slot n in the output frame of port p that starts at t: that of the latest input frame that
started three sample periods before it or earlier, by their positions within one group, and by the instants of their starts
between groups (R165). A source port that does not run delivers 0. -/
def State.bypassSample (s : State) (p n t : Nat) : Word :=
  let q := (n - 0x800) / 32
  let same := q == p || (s.portGroup q == s.portGroup p && decide (s.portGroup p < 4))
  if !(s.port q).runs then 0
  else
    match (s.port q).hist.find? (fun f =>
      if same then decide (f.1 + 3 ≤ t) else decide (s.frameInstant q f.1 + 768 ≤ s.frameInstant p t)) with
    | some f => f.2.getD ((n - 0x800) % 32) 0
    | none => 0

/-- The live words of the output frame of port p that starts at t, its bypasses those of its start; ofs is the mirror
offset of a target group (R180). -/
def State.outFrame (s : State) (p t ofs : Nat) : List Word :=
  (List.range (s.fmtSlots p)).map (fun sl =>
    if s.mode == 3 then 0
    else match (s.port p).byps.getD sl none with
      | some src => s.bypassSample p src t
      | none => s.outSample (0x800 + 32 * p + sl) (t - ofs))

/-- The slots on SDO: muted slots carry 0, and all of them in QUIET; slots without TX_EN float (R174, R189). -/
def State.sdoFrame (s : State) (p : Nat) (ws : List Word) : List (Option Nat) :=
  let mute := (s.port p).muted || s.mode == 3
  (List.range ws.length).map (fun i =>
    if s.bit (pgTdm + p) Off.tdmTX_EN i then
      some (if mute then 0 else slotOut (s.fmtSlotBits p) (s.fmtDataBits p) (s.fmt p 15 15 == 1) (ws.getD i 0))
    else none)

/-- The words of port p put at sample j of a tick's blocks. -/
def putSlots (m : SMap Word) (p j : Nat) (ws : List Word) : SMap Word :=
  (List.range ws.length).foldl (fun m i => smapSet zeroW m (sigKey (0x800 + 32 * p + i) j) (ws.getD i 0)) m

/-- Delivered input words of port p at media-sample position a: into the blocks being collected, or kept for a later
tick's; in QUIET they are discarded (R189), as are words for a tick that is over. -/
def State.putIn (s : State) (p a : Nat) (ws : List Word) : State :=
  if s.mode == 3 || decide (a / s.T < s.tick) then s
  else if a / s.T = s.tick then
    { s with sig := { s.sig with next := putSlots s.sig.next p (a % s.T) ws } }
  else { s with sig := { s.sig with ahead := s.sig.ahead ++ [(a, p, ws)] } }

/-- The input frames that a port hands over, each by the start it counts for: last is what the port delivered before
(R181, R188). -/
def Slip.handed (sl : Slip) (t n : Nat) (last ws : List Word) : List (Nat × List Word) :=
  match sl with
  | .none => [(t, ws)]
  | .fast => []
  | .slow => [(t, last), (t + n, ws)]

/-- How far a frame moves the group on the grid (R181). -/
def Slip.step (sl : Slip) (n : Nat) : Nat :=
  match sl with
  | .none => n | .fast => 0 | .slow => 2 * n

/-- Port p of group gr, or an ungrouped port with gr its own, at a frame that starts at media-sample position gr.next:
und, ovr say that its pins began a frame for which there was no new sample, or let the group's frame pass (R185). Each
direction counts its own frame; a slip acts on what it delivers: a repeated output frame repeats the samples sent last
(R188). -/
def State.portFrame (p : Nat) (gr : TdmGrp) (sl : Slip) (und ovr : Bool) (s : State) : State :=
  let t0 := s.port p
  if !t0.runs then s
  else
    let hold := s.fld (pgTdm + p) Off.tdmHOLD_FRAMES 15 0
    let n := s.fmtDiv p
    let t := gr.next
    let x := t0.got
    let s := if x.isNone then (s.inc (pgTdm + p) Off.tdmIN_UND_CNT).tdmFlag p 3 else s
    let ri := t0.inD.frame hold (x.isNone && !t0.seen) x
    let ins := sl.handed t n t0.inD.last ri.1
    let s := ins.foldl (fun st (f : Nat × List Word) => st.putIn p (f.1 + n - 1 + gr.inOfs) f.2) s
    let s := if und then (s.inc (pgTdm + p) Off.tdmOUT_UND_CNT).tdmFlag p 5 else s
    let s := if ovr then (s.inc (pgTdm + p) Off.tdmOUT_OVR_CNT).tdmFlag p 6 else s
    let live := s.outFrame p (if sl = .slow then t + n else t) gr.outOfs
    let ro := t0.outD.frame hold (und || ovr) (if und || ovr then none else some live)
    let out := if sl = .fast then t0.outD.last else ro.1
    let sdo := if ovr then t0.sdo else s.sdoFrame p out
    let miss := if t0.seen then 0 else t0.miss + 1
    let t1 : TdmPort := { t0 with
      inD := { ri.2.1 with last := ri.1 }, outD := { ro.2.1 with last := out }
      got := none, seen := false, miss := miss, sdo := sdo
      hist := (ins.reverse ++ t0.hist).take 8
      due := t0.due ++ ri.2.2 ++ ro.2.2.map (fun k => k + 4) }
    let s := s.setPort p t1
    let s := if s.isTarget p then s.setBit (pgTdm + p) Off.tdmSTATE 9 (decide (miss < 2)) else s
    let s := State.frameStart p (s.showPort p)
    if t0.stopDue then s.tdmEnd p else s

/-- e of a group now and at the start, in 1/256 of a sample period. -/
def State.phaseNow (s : State) (g : Nat) : Nat := s.fld pgTdmg (grpOff g Off.tdmgG_PHASE) 15 0
def State.phase0 (s : State) (g : Nat) : Nat := s.fld pgTdmg (grpOff g Off.tdmgG_PHASE) 31 16

/-- The group may slip: free-running, or locked after PHASE_ERR (R180, R181). -/
def State.mayslip (s : State) (g : Nat) : Bool :=
  s.grpCtl g 5 5 == 1 || s.bit pgTdmg (grpOff g Off.tdmgG_STAT) 5

/-- PHASE_ERR of group g (R180). -/
def State.phaseErr (s : State) (g : Nat) : State :=
  ((s.setBit pgTdmg (grpOff g Off.tdmgG_STAT) 5 true).setBit pgTdmg (grpOff g Off.tdmgG_STAT) 4 true).pageErr pgTdmg 2 (8 + g)

/-- The phase check of a locked group with e measured, which may lie outside the range of a word (R180). -/
def State.lockCheck (s : State) (g : Nat) (e : Int) : State :=
  let tol := s.fld pgTdmg (grpOff g Off.tdmgG_LOCK_TOL) 7 0
  let n := s.grpDiv g
  if s.mayslip g then s
  else if tol < (e - s.phase0 g).natAbs ∨ e < 0 ∨ (256 * (n + 1) : Nat) ≤ e then s.phaseErr g
  else s

/-- A slip counted (R181). -/
def State.countSlip (s : State) (g : Nat) (fast : Bool) : State :=
  (s.inc pgTdmg (grpOff g (if fast then Off.tdmgG_SLIP_FAST_CNT else Off.tdmgG_SLIP_SLOW_CNT))).intBit pgTdmg (4 + g)

/-- The slip that e asks for, with e after it (R181). -/
def State.slipOf (s : State) (g : Nat) (e : Int) : Slip × Int :=
  let n := s.grpDiv g
  if !s.mayslip g then (.none, e)
  else if (64 + 256 * n : Nat) ≤ e then (.fast, e - (256 * n : Nat))
  else if e < 64 then (.slow, e + (256 * n : Nat))
  else (.none, e)

/-- The phase of a target group at a frame, and the slip of the frame. -/
def State.grpPhase (s : State) (g : Nat) (e : Int) : Slip × State :=
  if s.grpTarget g && s.grpState g == 2 then
    let s := s.lockCheck g e
    let r := s.slipOf g e
    let s := match r.1 with
      | .none => s
      | .fast => s.countSlip g true
      | .slow => s.countSlip g false
    let s := s.setBit pgTdmg (grpOff g Off.tdmgG_STAT) 4 (s.mayslip g)
    (r.1, s.setFld pgTdmg (grpOff g Off.tdmgG_PHASE) 15 0 (ofSigned 16 r.2))
  else (.none, s)

/-- Members of an IDLE group that end their last frame (R178). -/
def State.stopping (s : State) (g : Nat) : List Nat :=
  (s.members g).filter (fun p => (s.port p).runs && (s.port p).stopDue)

/-- The last frame of the members that a STOP of group g ends. -/
def State.grpLast (g : Nat) (und ovr : List Nat) (s : State) : State :=
  forEach (s.stopping g) (fun p st => st.portFrame p (s.group g) .none (und.contains p) (ovr.contains p)) s

/-- The start of the next frame of group g, in 1/256 of a sample period from boundary 0. -/
def State.frameAt (s : State) (g : Nat) : Int :=
  (256 * ((s.group g).next + (s.group g).inOfs) : Nat) - (if s.grpTarget g then (s.phaseNow g : Int) else 0)

/-- A waiting member joins with the frame that starts now: the first at or after the boundary that follows the landing
of its EN (R177). -/
def State.joins (s : State) (g p : Nat) : Bool :=
  (s.port p).inD.ph == 1 && s.bit (pgTdm + p) Off.tdmCTL 0
  && (decide ((s.port p).landTick < s.tick) || decide ((256 * (((s.port p).landTick + 1) * s.T) : Nat) ≤ s.frameAt g))

/-- A frame of group g ends and the next begins: e measured, and the ports whose output pins under- or overran. A slip
that the return from FLYWHEEL asked for comes first (R187). -/
def State.grpFrame (g : Nat) (e : Int) (und ovr : List Nat) (s : State) : State :=
  let r := s.grpPhase g e
  let s := r.2
  let gr := s.group g
  let sl := if gr.slip = .none then r.1 else gr.slip
  let s := forEach (s.members g) (fun p st => st.portFrame p gr sl (und.contains p) (ovr.contains p)) s
  let s := s.setGroup g { gr with
    next := gr.next + sl.step (s.grpDiv g), slip := if gr.slip = .none then .none else r.1 }
  let s := forEach ((s.members g).filter (s.joins g)) State.tdmBegin s
  let f := s.rg64 pgTdmg (grpOff g Off.tdmgG_FRAME_LO) (grpOff g Off.tdmgG_FRAME_HI)
  s.setRg64 pgTdmg (grpOff g Off.tdmgG_FRAME_LO) (grpOff g Off.tdmgG_FRAME_HI) (f + 1)

/-- A frame of an ungrouped port, which follows the last at RATE_DIV sample periods (R182). -/
def State.ownFrame (p : Nat) (und ovr : Bool) (s : State) : State :=
  (s.portFrame p { next := (s.port p).next } .none und ovr).modPort p (fun t => { t with next := t.next + s.fmtDiv p })

/-- A frame of group g below 4, or of ungrouped port g - 16. The command comes at the frame's end, before what else
happens at that instant. -/
def execTdmGroupFrame (g : Nat) (e : Int) (und ovr : List Nat) (s : State) : Out :=
  .next (
    if g < 4 then
      (if 2 ≤ s.grpState g then State.grpFrame g e und ovr s else State.grpLast g und ovr s)
    else onlyIf (decide (16 ≤ g) && decide (g < 32) && s.portGroup (g - 16) == 7 && (s.port (g - 16)).runs)
      (State.ownFrame (g - 16) (und.contains (g - 16)) (ovr.contains (g - 16))) s)

/-! ## Ramp events of a direction (R186) -/

/-- Event k of port p is due and taken off. -/
def State.tdmDue (s : State) (p k : Nat) : Bool := (s.port p).due.contains k
def State.tdmDone (s : State) (p k : Nat) : State := s.modPort p (fun t => { t with due := t.due.erase k })

def execTdmRampOutStart (p : Fin 16) (out : Bool) (s : State) : Out :=
  .next (onlyIf (s.tdmDue p (4 * b2n out)) (fun s =>
    ((s.tdmDone p (4 * b2n out)).inc (pgTdm + p) Off.tdmHOLD_CNT).tdmErr p 7) s)

def execTdmRampOutEnd (p : Fin 16) (out : Bool) (s : State) : Out :=
  .next (onlyIf (s.tdmDue p (4 * b2n out + 1)) (fun s => s.tdmDone p (4 * b2n out + 1)) s)

def execTdmRampInStart (p : Fin 16) (out : Bool) (s : State) : Out :=
  .next (onlyIf (s.tdmDue p (4 * b2n out + 2)) (fun s => s.tdmDone p (4 * b2n out + 2)) s)

def execTdmRampInEnd (p : Fin 16) (out : Bool) (s : State) : Out :=
  .next (onlyIf (s.tdmDue p (4 * b2n out + 3)) (fun s => (s.tdmDone p (4 * b2n out + 3)).tdmFlag p 9) s)

/-! ## Flywheel (R187) -/

/-- The lead port of a group. -/
def State.lead (s : State) (g : Nat) : Nat := s.grpCtl g 11 8

def execGroupFlywheel (g : Fin 4) (s : State) : Out :=
  .next (onlyIf (s.grpTarget g && s.grpState g == 2
      && (decide (2 ≤ (s.port (s.lead g)).miss) || s.rateFault (s.lead g)))
    (fun s => (s.setGrpState g 3).intBit pgTdmg (12 + g)) s)

/-- e is measured again, and the slip that it asks for is counted and acts on the frame in progress (R187). -/
def execFlywheelExit (g : Fin 4) (e : Int) (s : State) : Out :=
  .next (onlyIf (s.grpState g == 3 && decide (64 ≤ (s.port (s.lead g)).inD.good)) (fun s =>
    let r := (s.setGrpState g 2).grpPhase g e
    r.2.setGroup g { r.2.group g with slip := r.1 }) s)

/-! ## The boundary's part -/

/-- At a boundary ungrouped ports begin (R176). -/
def State.tdmBoundary (s : State) : State :=
  forEach ((List.range 16).filter (fun p => s.portGroup p == 7 && (s.port p).inD.ph == 1
      && decide ((s.port p).landTick < s.tick))) (fun p st =>
    (State.tdmBegin p st).modPort p (fun t => { t with next := st.tick * st.T })) s

/-- The words handed over for the tick that begins enter its blocks (R180). -/
def State.takeAhead (s : State) : State :=
  let now (f : Nat × Nat × List Word) : Bool := decide (f.1 / s.T ≤ s.tick)
  { s with sig := { s.sig with
      next := (s.sig.ahead.filter now).foldl (fun m f => putSlots m f.2.1 (f.1 % s.T) f.2.2) s.sig.next
      ahead := s.sig.ahead.filter (fun f => !now f) } }

/-! ## The pins of a port (R173, R174, R178, R189) -/

/-- FSYNC in BCLK period i of a frame. -/
def State.fsyncLevel (s : State) (p i : Nat) : Bool :=
  let half := s.fmtSlots p / 2 * s.fmtSlotBits p
  let high : Bool := match s.fmt p 1 0 with
    | 0 => decide (i < if s.fmt p 14 14 = 0 then 1 else s.fmtSlotBits p)
    | 1 => decide (half ≤ i)
    | _ => decide (i < half)
  high != (s.fmt p 12 12 == 1)

/-- FSYNC that port p drives in BCLK period i of its frame: none where it receives its clocks, low where it does not
run. -/
def State.fsyncPin (s : State) (p i : Nat) : Option Bool :=
  if s.isTarget p then none else some ((s.port p).runs && !s.pair.fenced && s.fsyncLevel p i)

/-- Whether port p drives a clock on BCLK: none where it receives it; stopped, and behind the fence of a unit that is
STRUCK or has yielded, it is low (R347, R350). -/
def State.bclkPin (s : State) (p : Nat) : Option Bool :=
  if s.isTarget p then none else some ((s.port p).runs && !s.pair.fenced)

/-- The BCLK edge at which port p launches data is the rising one; it captures on the other. -/
def State.launchRising (s : State) (p : Nat) : Bool := s.fmt p 11 11 == 1

/-- SDO of port p in BCLK period i after the FSYNC edge: the first data bit follows it by FS_DELAY periods, and each
slot is sent MSB first; none where SDO floats, as behind the fence of R347 and R350. -/
def State.sdoPin (s : State) (p i : Nat) : Option Bool :=
  if !(s.port p).runs || s.pair.fenced || decide (i < s.fmt p 13 13) then none
  else
    let b := i - s.fmt p 13 13
    ((s.port p).sdo.getD (b / s.fmtSlotBits p) none).map (fun w => w.testBit (s.fmtSlotBits p - 1 - b % s.fmtSlotBits p))

end Sys2Proof.Machine
end

