-- ==== Sys2Proof/Machine/Dec.lean ====
section
/-! DEFINITION. The decimation instances: start checks, the filter, settling, clipping and stuck streams
(R195 to R206). -/

namespace Sys2Proof.Machine

/-! ## Instances and their settings -/

def decReset : Nat → DecSt := fun _ => {}
def State.dec (s : State) (n : Nat) : DecSt := smapGet decReset s.drive.dec n
def State.setDec (s : State) (n : Nat) (d : DecSt) : State :=
  { s with drive := { s.drive with dec := smapSet decReset s.drive.dec n d } }

/-- The page of instance n, and a register of the instance. -/
def decPage (n : Nat) : Nat := pgDec + n / 16
def decOff (n o : Nat) : Nat := o + 16 * (n % 16)

/-- A field of INSTi_CFG and of INSTi_RATIO (R208). -/
def State.decCfg (s : State) (n hi lo : Nat) : Nat := s.fld (decPage n) (decOff n Off.decI_CFG) hi lo
def State.decK (s : State) (n : Nat) : Nat := s.decCfg n 1 0 + 3
def State.decDiv (s : State) (n : Nat) : Nat := 2 ^ s.decCfg n 13 12
def State.decN (s : State) (n : Nat) : Nat := s.fld (decPage n) (decOff n Off.decI_RATIO) 12 0
def State.decL (s : State) (n : Nat) : Nat := s.fld (decPage n) (decOff n Off.decI_RATIO) 23 16 + 1

/-- Bit i of RUN: the instance runs. -/
def State.decRuns (s : State) (n : Nat) : Bool := s.bit (decPage n) Off.decRUN (n % 16)
def State.decSettled (s : State) (n : Nat) : Bool := s.bit (decPage n) Off.decSETTLED (n % 16)

/-- The family's base rate in Hz: 48,000 or 44,100. -/
def famBase (fs : Nat) : Nat := if fs % 48000 = 0 then 48000 else 44100

/-- The frequency of SNS_CLKc in Hz (R195). -/
def State.snsClk (s : State) (c : Nat) : Nat :=
  famBase s.fs * 512 / 2 ^ s.fld pgDec (Off.decCLK + 4 * c) 2 1

/-- SNS_CLKc in count i of the edge clock after a rising edge: half of each period high, low while EN is 0, and clamped
low where its pads' domain is off (R195, R453). -/
def State.snsClkPin (s : State) (c i : Nat) : Bool :=
  let d := 64 * 2 ^ s.fld pgDec (Off.decCLK + 4 * c) 2 1
  s.bit pgDec (Off.decCLK + 4 * c) 0 && s.mode != 4 && decide (i % d < d / 2)

/-- N x Fs / OUT_DIV = f_clk exactly (R200). -/
def State.decExact (s : State) (n : Nat) : Bool :=
  s.decN n * s.fs == s.decDiv n * s.snsClk (s.decCfg n 3 2)

/-- The clock that instance n selects is enabled and its divisor is defined for the family (R195, R203). -/
def State.decClkOk (s : State) (n : Nat) : Bool :=
  let r := s.rg pgDec (Off.decCLK + 4 * s.decCfg n 3 2)
  bitN r 0 && bitsN r 2 1 != 3 && !(bitsN r 2 1 == 2 && famBase s.fs == 44100)

/-- The start checks of R203. -/
def State.decOk (s : State) (n : Nat) : Bool :=
  s.decCfg n 1 0 != 3 && decide (2 ≤ s.decN n) && decide (s.decN n ≤ 4096) && s.decExact n && s.decClkOk n

/-- The source number of instance n. -/
def senseSrc (n : Nat) : Nat := 0x0A00 + n

/-- The source of instance n delivers 0 (R149). -/
def State.decSilent (s : State) (n : Nat) : State :=
  let off (m : SMap Word) := smapKeep (fun k => k / 32 != senseSrc n) m
  { s with sig := { s.sig with next := off s.sig.next, due := s.sig.due.map off, cur := off s.sig.cur } }

/-- Instance n stops: its value is 0. -/
def State.decStop (n : Nat) (s : State) : State :=
  (((s.setBit (decPage n) Off.decRUN (n % 16) false).setBit (decPage n) Off.decSETTLED (n % 16) false).setDec n {}).decSilent n

/-- CFG_ERR of instance n: Contained (R203, R206, R209). -/
def State.decCfgErr (s : State) (n : Nat) : State :=
  (s.setBit (decPage n) Off.decCFG_ERR (n % 16) true).pageErr (decPage n) 2 0

/-- A landed bit of RUN_NX (R203). RUN shows the instances that run. -/
def State.decLand (n : Nat) (new : Bool) (s : State) : State :=
  if new && !s.decRuns n then
    (if s.decOk n then
      ((s.setDec n {}).setBit (decPage n) Off.decRUN (n % 16) true).setBit (decPage n) Off.decSETTLED (n % 16) false
    else s.decCfgErr n)
  else if !new && s.decRuns n then s.decStop n
  else s

/-- A write of SCHED.RATE that makes a running ratio inexact stops the instance (R206). -/
def State.decRate (s : State) : State :=
  forEach (List.range 96) (fun n st =>
    if st.decRuns n && !st.decExact n then (State.decStop n st).decCfgErr n else st) s

/-! ## The filter (R197, R198) -/

/-- The convolution of l with n ones. -/
def boxConv (n : Nat) (l : List Nat) : List Nat :=
  (List.range (l.length + n - 1)).map (fun i => ((l.drop (i + 1 - n)).take (min n (i + 1))).sum)

/-- h: the k-fold convolution of n ones. -/
def cicTaps (n : Nat) : Nat → List Nat
  | 0 => [1]
  | k + 1 => boxConv n (cicTaps n k)

/-- The nearest integer to p / q, ties to even. -/
def convQ (p : Int) (q : Nat) : Int :=
  let f := p / (q : Int)
  let r := 2 * (p % (q : Int))
  if r < q then f else if (q : Int) < r then f + 1 else if f % 2 = 0 then f else f + 1

/-- y of R198: the taps on the captured bits, latest first; bits before the start count 0. -/
def cicOut (k n : Nat) (bits : List Bool) : Int :=
  ((cicTaps n k).zip bits).foldl (fun a p => if p.2 then a + p.1 else a - p.1) 0

/-- The held value of instance n from position j of the tick being collected on. -/
def State.decFill (n j : Nat) (v : Word) (s : State) : State :=
  { s with sig := { s.sig with next :=
      (List.range (s.T - j)).foldl (fun m i => smapSet zeroW m (sigKey (senseSrc n) (j + i)) v) s.sig.next } }

/-- The end of a span of instance n at position j of the tick being collected, with the bits captured in it, earliest
first (R198, R199, R201). The span in which the instance started may be shorter. -/
def State.decOutput (n j : Nat) (bits : List Bool) (s : State) : State :=
  let d := s.dec n
  let k := s.decK n
  let nn := s.decN n
  let l := s.decL n
  let inv := s.decCfg n 5 5 == 1
  let us := (bits.reverse.map (fun b => b != inv) ++ d.bits).take (k * nn)
  let y := cicOut k nn us
  let ys := (y :: d.ys).take l
  let w := convQ (ys.sum * 2 ^ 31) (nn ^ k * l)
  let clip := decide (w = 2 ^ 31)
  let w := if clip then 2 ^ 31 - 1 else w
  let v : Word := if k + l - 1 ≤ d.outs + 1 then BitVec.ofInt 32 w else 0
  let s := s.setDec n { d with bits := us, ys := ys, outs := d.outs + 1, val := v }
  let s := if clip then
      ((s.setBit (decPage n) Off.decCLIP (n % 16) true).inc (decPage n) (decOff n Off.decI_CLIP_CNT)).intBit (decPage n) 2
    else s
  State.decFill n j v s

/-- The span condition: position j ends a span, and the bits are those of a span, or of the part of one since the
start (R201). -/
def State.spanEnds (s : State) (n j : Nat) (bits : List Bool) : Bool :=
  s.decRuns n && decide (j < s.T) && (((s.tick + 1) * s.T + j) % s.decDiv n == s.decDiv n - 1)
  && (bits.length == s.decN n || ((s.dec n).outs == 0 && decide (bits.length < s.decN n)))

def execDecOutput (n : Fin 96) (j : Nat) (bits : List Bool) (s : State) : Out :=
  .next (onlyIf (s.spanEnds n j bits) (State.decOutput n j bits) s)

def execDecSettled (n : Fin 96) (s : State) : Out :=
  .next (onlyIf (s.decRuns n && !s.decSettled n && decide (s.decK n + s.decL n - 1 ≤ (s.dec n).outs)) (fun s =>
    (s.setBit (decPage n) Off.decSETTLED (n.val % 16) true).intBit (decPage n) 4) s)

/-- The boundary's part: held values go on in the next block (R201). -/
def State.decBoundary (s : State) : State :=
  forEach ((List.range 96).filter s.decRuns) (fun n st => State.decFill n 0 (st.dec n).val st) s

/-- Instance n enters the stuck state (R205). -/
def State.decStick (n : Nat) (s : State) : State :=
  let s := (s.setDec n { s.dec n with stuck := true }).setBit (decPage n) Off.decSTUCK (n % 16) true
  (s.inc (decPage n) (decOff n Off.decI_STUCK_CNT)).pageErr (decPage n) 2 1

/-- The next transition clears the stuck state (R205). -/
def execDecStuckClear (n : Fin 96) (s : State) : Out :=
  .next (onlyIf (s.dec n).stuck (fun s => s.setDec n { s.dec n with stuck := false }) s)

end Sys2Proof.Machine
end

