-- ==== Sys2Proof/Machine/Mod.lean ====
section
/-! DEFINITION. The bridge channels: starting, ramps and fades, pulse widths, over-current, impedance, shutdowns and
retries (R210 to R225). -/

namespace Sys2Proof.Machine

/-! ## Channels and their settings -/

def chReset : Nat → ModCh := fun _ => {}
def State.chan (s : State) (m : Nat) : ModCh := smapGet chReset s.drive.ch m
def State.setChan (s : State) (m : Nat) (c : ModCh) : State :=
  { s with drive := { s.drive with ch := smapSet chReset s.drive.ch m c } }

/-- The page of channel m, and a register of the channel. -/
def chPage (m : Nat) : Nat := pgMod + m / 8
def chOff (m o : Nat) : Nat := o + 0x40 * (m % 8)
def State.chFld (s : State) (m o hi lo : Nat) : Nat := s.fld (chPage m) (chOff m o) hi lo

/-- STATE of channel m (R211): 0 OFF, 1 CM_UP, 2 FADE_IN, 3 RUN, 4 FADE_OUT, 5 CM_DOWN, 6 TRIPPED, 7 LATCHED. -/
def State.chState (s : State) (m : Nat) : Nat := s.chFld m Off.modC_STAT 2 0
def State.setChState (s : State) (m st : Nat) : State := s.setFld (chPage m) (chOff m Off.modC_STAT) 2 0 st

/-- The channel switches: CM_UP to CM_DOWN. -/
def State.switching (s : State) (m : Nat) : Bool := decide (1 ≤ s.chState m) && decide (s.chState m ≤ 5)

/-- The channel carries audio: FADE_IN, RUN and FADE_OUT. -/
def State.audible (s : State) (m : Nat) : Bool := decide (2 ≤ s.chState m) && decide (s.chState m ≤ 4)

/-- DRV_EN of channel m: low wherever its domain is clamped, and while the unit is STRUCK (R210, R338, R347, R453). -/
def State.drvEn (s : State) (m : Nat) : Bool := s.switching m && s.works 10 && !s.pair.fenced

/-- Bit k of CTL. -/
def State.chEn (s : State) (m : Nat) : Bool := s.bit (chPage m) Off.modCTL (m % 8)

/-- PER, and the edge counts of a sample period (R215). -/
def State.per (s : State) : Nat := s.fld pgMod Off.modPER 12 0
def State.edgeS (s : State) : Nat := famBase s.fs * 32768 / s.fs

/-- PER as R215 allows it. -/
def perOk (p : Nat) : Bool := p % 64 == 0 && decide (1024 ≤ p) && decide (p ≤ 4096)

/-- Nr, the periods of a common-mode ramp (R219). -/
def State.rampLen (s : State) (m : Nat) : Nat :=
  s.fld (chPage m) Off.modCM_RAMP 7 0 * (famBase s.fs * 32768) / (1000 * s.per)

/-- FADE in samples. -/
def State.fadeLen (s : State) (m : Nat) : Nat := s.fld (chPage m) Off.modFADE 15 0

/-- The V and the I sense of channel m. -/
def State.chV (s : State) (m : Nat) : Nat := s.chFld m Off.modC_SNS 6 0
def State.chI (s : State) (m : Nat) : Nat := s.chFld m Off.modC_SNS 14 8

/-- OC.N and OC.M, 64 written as 0 in their six bits (DEDUCED, log entry 20). -/
def State.ocN (s : State) (m : Nat) : Nat := let n := s.chFld m Off.modC_OC 5 0; if n = 0 then 64 else n
def State.ocM (s : State) (m : Nat) : Nat := let n := s.chFld m Off.modC_OC 13 8; if n = 0 then 64 else n

/-- CTL and CTL_NX bit k, the value in effect and the one requested, cleared (R214). -/
def State.chEnOff (s : State) (m : Nat) : State :=
  let s := (s.setBit (chPage m) Off.modCTL (m % 8) false).setBit (chPage m) Off.modCTL_NX (m % 8) false
  let off (r : SMap Word) := smapMod resetWord r (rkey (chPage m) Off.modCTL_NX) (fun w => w32 (putBits w.toNat (m % 8) (m % 8) 0))
  { s with sched := { s.sched with eff := off s.sched.eff, snap := s.sched.snap.map off } }

/-! ## Shutdowns (R223 to R225) -/

/-- The channel leaves its state with the pins low. Over-current that has cut the period is not counted again in it
(R220). -/
def State.chPinsLow (s : State) (m st : Nat) : State :=
  (s.setChan m { s.chan m with wA := 0, wB := 0, compl := false, upDue := false }).setChState m st

/-- A Contained error of the channel's page with bits of INT_RAW (R237). -/
def State.chErr (s : State) (m bits : Nat) : State := s.raiseErr (chPage m) 2 bits (regAddr (chPage m) 0) midNone 0

/-- The thermal shutdown condition of channel m holds (R233). -/
def State.thmShut (s : State) (m : Nat) : Bool := s.bit (pgThm + m / 8) (Off.thmC_STAT + 0x40 * (m % 8)) 2

/-- A second cause in the period of a shutdown, lower than the first: CAUSE takes it (R225), and so the shutdown is one
of that cause: a Contained error of MODx, and LATCHED where RETRY_CNT is at its limit (R224). -/
def State.lowerCause (m cause : Nat) (s : State) : State :=
  let o := chOff m Off.modC_STAT
  let was := s.chFld m Off.modC_STAT 6 4
  let s := s.setFld (chPage m) o 6 4 cause
  let latch := s.chState m == 6 && decide (cause ≤ 3) && s.chFld m Off.modC_STAT 10 8 == s.chFld m Off.modC_RETRY 18 16
  let s := if latch then s.setChState m 7 else s
  if latch then s.chErr m (2 ^ (m % 8) + 2 ^ (8 + m % 8)) else if was = 4 then s.chErr m (2 ^ (m % 8)) else s

/-- A shutdown of channel m with a cause of R223: 1 OC, 2 SHORT, 3 SENSE, 4 THERMAL, 5 RAIL. -/
def State.shutdown (m cause : Nat) (s : State) : State :=
  let c := s.chan m
  let o := chOff m Off.modC_STAT
  if s.switching m then
    let retry := s.chFld m Off.modC_STAT 10 8
    let latch := cause == 5 || (decide (cause ≤ 3) && retry == s.chFld m Off.modC_RETRY 18 16)
    let st := if !s.chEn m then 0 else if latch then 7 else 6
    let s := s.setChan m { c with shutNow := true, cool := cause == 4 || s.thmShut m }
    let s := (s.chPinsLow m st).setFld (chPage m) o 6 4 cause
    let s := s.inc (chPage m) (chOff m Off.modC_SHUT_CNT)
    let bits := 2 ^ (m % 8) + (if st = 7 then 2 ^ (8 + m % 8) else 0)
    if cause = 4 then s.setInt (chPage m) bits else s.chErr m bits
  else if c.shutNow && decide (cause < s.chFld m Off.modC_STAT 6 4) then State.lowerCause m cause s
  else s

/-- The channel switches, or has been shut down in the present period (R225). -/
def State.inPeriod (s : State) (m : Nat) : Bool := s.switching m || (s.chan m).shutNow

/-- A stuck V or I sense shuts channel m down (R223). -/
def State.senseCheck (m : Nat) (s : State) : State :=
  if s.inPeriod m && ((s.dec (s.chV m)).stuck || (s.dec (s.chI m)).stuck) then State.shutdown m 3 s else s

def execDecStuck (n : Fin 96) (run : Nat) (s : State) : Out :=
  .next (onlyIf (s.decRuns n && !(s.dec n).stuck && decide (s.fld (decPage n) Off.decSTUCK_LEN 15 0 ≤ run)) (fun s =>
    forEach ((List.range 32).filter (fun m => s.chV m == n.val || s.chI m == n.val)) State.senseCheck (State.decStick n s)) s)

/-! ## Starts and stops (R212 to R214) -/

/-- CM_UP begins with the next switching period of channel m (R212, R214, R224). -/
def State.upDue (m : Nat) (s : State) : State := s.setChan m { s.chan m with upDue := true }

/-- PH of channel m: its own field where PH_AUTO is 0, else the offset assigned (R216). -/
def State.phase (s : State) (m : Nat) : Nat :=
  if s.chFld m Off.modC_CFG 2 2 = 0 then s.chFld m Off.modC_CFG 13 8 else s.chFld m Off.modC_STAT 21 16

/-- CM_UP begins: the window and the quantisers' errors start empty (R218, R221), and from TRIPPED it is a retry, which
is counted except after THERMAL alone (R224). -/
def State.cmUp (m : Nat) (s : State) : State :=
  let retry := s.chState m == 6
  let cnt := s.chFld m Off.modC_STAT 10 8
  let s := if retry && s.chFld m Off.modC_STAT 6 4 != 4 then s.setFld (chPage m) (chOff m Off.modC_STAT) 10 8 (min 7 (cnt + 1))
    else s
  let s := if retry then s.intBit (chPage m) 17 else s
  ((s.setChan m {}).setChState m 1).setFld (chPage m) (chOff m Off.modC_STAT) 21 16 (s.phase m)

/-- A sense instance runs and is settled. -/
def State.senseReady (s : State) (n : Nat) : Bool := decide (n < 96) && s.decRuns n && s.decSettled n

/-- The longest look-ahead stays within 2 ms (R228). -/
def State.aheadOk (s : State) (m : Nat) : Bool :=
  let r := s.rg pgRail (Off.railCM_ENV + 4 * m)
  let d := if bitN r 15 then bitsN r 24 16 else 0
  decide ((s.T + 2 + d) * 1000000 ≤ 2000 * s.fs)

/-- The checks of R212 and R228. -/
def State.chOk (s : State) (m : Nat) : Bool :=
  perOk s.per && s.senseReady (s.chV m) && s.senseReady (s.chI m)
  && s.bit pgRail Off.railCTL (m / 4) && s.bit (pgThm + m / 8) Off.thmCTL (m % 8) && s.aheadOk m

/-- The phase offset of a starting channel m: its own, or its place among the n enabled channels (R216). -/
def State.phaseOf (s : State) (m : Nat) : Nat :=
  if s.chFld m Off.modC_CFG 2 2 = 0 then s.chFld m Off.modC_CFG 13 8
  else
    let en := (List.range 32).filter s.chEn
    64 * (en.filter (fun j => decide (j < m))).length / en.length

/-- Channel m starts with no retries counted, or stays OFF with CFG_ERR (R212). -/
def State.chStart (m : Nat) (s : State) : State :=
  if s.chOk m then
    State.upDue m ((s.setFld (chPage m) (chOff m Off.modC_STAT) 21 16 (s.phaseOf m)).setFld (chPage m)
      (chOff m Off.modC_STAT) 10 8 0)
  else s.chErr m (2 ^ 16)

/-- The fade count of sample a: how many FADE-ths of the sample sound (R219). -/
def State.fadeNum (s : State) (m : Nat) (a : Int) : Nat :=
  let c := s.chan m
  let f := s.fadeLen m
  match s.chState m with
  | 3 => f
  | 2 => (clampI 0 f (c.fadeN + (a - c.fadeA))).toNat
  | 4 => (clampI 0 f (c.fadeN - (a - c.fadeA))).toNat
  | _ => 0

/-- The sample index that reaches the bridge in sample period t (R217). -/
def State.atBridge (s : State) (t : Nat) : Int := (t : Int) - (s.T + 4 : Nat)

/-- FADE_OUT from the fade count reached at sample a. -/
def State.fadeOut (m : Nat) (a : Int) (s : State) : State :=
  let n := s.fadeNum m a
  (s.setChan m { s.chan m with fadeUp := false, fadeA := a, fadeN := n }).setChState m 4

/-- A landed EN = 0 (R213); in the period of a shutdown the channel goes OFF, LATCHED or not (R225). -/
def State.chStop (m : Nat) (s : State) : State :=
  match s.chState m with
  | 2 => State.fadeOut m (s.atBridge (s.tick * s.T + 1)) s
  | 3 => State.fadeOut m (s.atBridge (s.tick * s.T + 1)) s
  | 6 => s.chPinsLow m 0
  | st => if st = 7 ∧ (s.chan m).shutNow then s.chPinsLow m 0 else s.setChan m { s.chan m with upDue := false }

/-- The landed CTL_NX of the four pages: CTL first, then every channel (R212, R213, R216). -/
def State.modLand (s : State) : State :=
  let old := (List.range 32).map s.chEn
  let s := forEach (List.range 4) (fun x st => st.setRg (pgMod + x) Off.modCTL (st.eff (pgMod + x) Off.modCTL_NX % 256)) s
  forEach (List.range 32) (fun m st =>
    if st.chEn m then (if st.chState m = 0 then State.chStart m st else st)
    else if old.getD m false then State.chStop m st else st) s

/-- Channel m goes OFF at once (R214). -/
def State.forceOff (m : Nat) (s : State) : State := (s.chEnOff m).chPinsLow m 0

/-- The channels of page x that a mask names. -/
def chansOf (x v : Nat) : List Nat := ((List.range 8).filter (bitN v)).map (fun k => 8 * x + k)

def execModForceOff (x : Fin 4) (v mid : Nat) (s : State) : Out :=
  .next (s.guarded (pgMod + x) Off.modFORCE_OFF mid true (forEach (chansOf x v) State.forceOff))

/-- CLR of a LATCHED channel (R214). -/
def State.chClear (m : Nat) (s : State) : State :=
  if s.chState m = 7 then
    let s := s.setFld (chPage m) (chOff m Off.modC_STAT) 10 8 0
    if s.chEn m then State.upDue m s else s.chPinsLow m 0
  else s

def execModClr (x : Fin 4) (v mid : Nat) (s : State) : Out :=
  .next (s.guarded (pgMod + x) Off.modCLR mid false (forEach (chansOf x v) State.chClear))

/-! ## Rail readings used by COMP (R230) -/

/-- The sense of rail group g: its word, and that it is stuck. -/
def State.railW (s : State) (g : Nat) : Int := (s.dec (s.fld pgRail (Off.railG_CFG + 0x40 * g) 14 8)).val.toInt
def State.railStuck (s : State) (g : Nat) : Bool := (s.dec (s.fld pgRail (Off.railG_CFG + 0x40 * g) 14 8)).stuck

/-- V_meas in mV (R230, R500). -/
def State.vMeas (s : State) (g : Nat) : Int :=
  (s.railW g * s.fld pgRail (Off.railG_VFS + 0x40 * g) 19 0).tdiv (2 ^ 31)

/-- The sense is replaced by the command (R230). -/
def State.railFallback (s : State) (g : Nat) : Bool :=
  s.railStuck g || decide (2 * s.vMeas g < (s.fld pgRail (Off.railG_V_MIN + 0x40 * g) 19 0 : Nat))

/-- Vr in mV. -/
def State.railVr (s : State) (g : Nat) : Int :=
  if s.railFallback g then (s.rg pgRail (Off.railG_CMD + 0x40 * g) / 1000 : Nat) else s.vMeas g

/-! ## Pulses (R217 to R219) -/

/-- Sample a of a destination as the ports took it. -/
def State.taken (s : State) (d : Nat) (a : Int) : Int :=
  if a < 0 then 0
  else
    let n := a.toNat
    match s.sig.hist.find? (fun h => h.1 == n / s.T) with
    | some h => (smapGet zeroW h.2 (sigKey d (n % s.T))).toInt
    | none => 0

/-- x' of sample a of channel m (R219). -/
def State.faded (s : State) (m : Nat) (a : Int) : Int :=
  convQ (s.taken (0x0A00 + m) a * s.fadeNum m a) (s.fadeLen m)

/-- quant of R218, h and e in units of 2^-32 counts: the count, and the error carried. -/
def quant (per minPulse : Nat) (h e : Int) : Nat × Int :=
  let v := h + e
  let n := convDiv v 32
  let n := if n < minPulse then 0 else n
  let n := if (per : Int) - minPulse < n then (per : Int) else n
  (n.toNat, v - n * 2 ^ 32)

/-- y of R218 before the clamp; a measured rail of 0 leaves it open, a free value (log entry 4). -/
def State.compensated (s : State) (m : Nat) (r : Int) : Int × State :=
  if s.chFld m Off.modC_CFG 1 1 = 0 then (r, s)
  else
    let vr := s.railVr (m / 4)
    if vr = 0 then (s.fresh.1.toInt, s.fresh.2)
    else (Int.fdiv (r * s.chFld m Off.modC_VPK 19 0) vr, s)

/-- The pulses of a period with audio whose centre lies at edge count c (R218). -/
def State.pulses (m c : Nat) (s : State) : State :=
  let a := s.atBridge (c / s.edgeS)
  let x0 := s.faded m a
  let x1 := s.faded m (a + 1)
  let r := x0 + (x1 - x0) * (c % s.edgeS : Nat) / (s.edgeS : Nat)
  let q := s.compensated m r
  let s := q.2
  let y := clampI (-2 ^ 31) (2 ^ 31 - 1) q.1
  let s := if y ≠ q.1 then s.inc (chPage m) (chOff m Off.modC_CLIP_CNT) else s
  let ch := s.chan m
  let mp := s.fld (chPage m) Off.modMIN_PULSE 7 0
  let qa := quant s.per mp (s.per * (2 ^ 31 + y)) ch.eA
  if s.chFld m Off.modC_CFG 0 0 = 1 then
    let qb := quant s.per mp (s.per * (2 ^ 31 - y)) ch.eB
    s.setChan m { ch with lastA := a, eA := qa.2, eB := qb.2, wA := qa.1, wB := qb.1, compl := false }
  else s.setChan m { ch with lastA := a, eA := qa.2, wA := qa.1, wB := s.per - qa.1, compl := true }

/-- The pulses of a ramp period (R219). -/
def State.rampPulse (m : Nat) (up : Bool) (s : State) : State :=
  let c := s.chan m
  let nr := s.rampLen m
  let k := if up then c.i + 1 else nr - 1 - c.i
  let w := s.per * k / (2 * nr)
  s.setChan m { c with i := c.i + 1, wA := w, wB := w, compl := false }

/-- An over-current period: counted once; N of the last M shut the channel down (R220, R221). -/
def State.ocPeriod (m : Nat) (s : State) : State :=
  let c := s.chan m
  let c := { c with oc := true :: c.oc.drop 1, cut := true, wA := 0, wB := 0 }
  let s := (s.setChan m c).inc (chPage m) (chOff m Off.modC_OC_CNT)
  if s.ocN m ≤ ((c.oc.take (s.ocM m)).filter id).length then State.shutdown m 1 s else s

/-- A switching period of channel m that starts at edge count e; ocStill: OC_N is still qualified (R218 to R221). A
start that waits begins with it. -/
def State.period (m e : Nat) (ocStill : Bool) (s : State) : State :=
  let s := s.setChan m { s.chan m with shutNow := false }
  let s := if (s.chan m).upDue then State.cmUp m s else s
  if s.switching m then
    let s := s.setChan m { s.chan m with oc := (false :: (s.chan m).oc).take (s.ocM m), cut := false }
    let s := match s.chState m with
      | 1 => State.rampPulse m true s
      | 5 => State.rampPulse m false s
      | _ => State.pulses m (e + s.per / 2) s
    State.senseCheck m (if ocStill then State.ocPeriod m s else s)
  else s

/-- A switching period starts at edge count e where PH places it (R216), in the tick of that count. -/
def execModSwitchingPeriod (m : Fin 32) (e : Nat) (ocStill : Bool) (s : State) : Out :=
  .next (onlyIf (s.per != 0 && s.works 10 && ((e : Int) - s.phase m * s.per / 64) % s.per == 0
    && e / s.edgeS / s.T == s.tick) (State.period m e ocStill) s)

/-- The ramp up has ended, at edge count e: FADE_IN from the first sample whose segment begins then or later. Where
EN = 0 landed during the ramp, the channel goes on as R213 has it from FADE_IN (log entry 21). DESIGN CHOICE. -/
def execModCmUpEnd (m : Fin 32) (e : Nat) (s : State) : Out :=
  .next (onlyIf (s.chState m == 1 && decide (s.rampLen m ≤ (s.chan m).i)) (fun s =>
    let a := s.atBridge (ceilDiv e s.edgeS) - 1
    let s := (s.setChan m { s.chan m with fadeUp := true, fadeA := a, fadeN := 0, lastA := a, zV := 0, zI := 0, zOn := false
                                          zFrom := 0 }).setChState m 2
    if s.chEn m then s else State.fadeOut m a s) s)

def execModFadeInEnd (m : Fin 32) (s : State) : Out :=
  .next (onlyIf (s.chState m == 2 && s.fadeNum m (s.chan m).lastA == s.fadeLen m) (fun s => s.setChState m 3) s)

def execModFadeOutEnd (m : Fin 32) (s : State) : Out :=
  .next (onlyIf (s.chState m == 4 && s.fadeNum m (s.chan m).lastA == 0) (fun s =>
    (s.setChan m { s.chan m with i := 0, zOn := false }).setChState m 5) s)

def execModCmDownEnd (m : Fin 32) (s : State) : Out :=
  .next (onlyIf (s.chState m == 5 && decide (s.rampLen m ≤ (s.chan m).i)) (fun s => s.chPinsLow m 0) s)

/-! ## The pins (R210, R218, R219) -/

/-- A pulse of w counts in the middle of a period of per counts, at count i. -/
def pulseAt (per w i : Nat) : Bool := decide ((per - w) / 2 ≤ i) && decide (i < (per - w) / 2 + w)

/-- PWM_A and PWM_B of channel m in count i of its present period. -/
def State.pwmA (s : State) (m i : Nat) : Bool := s.drvEn m && !(s.chan m).cut && pulseAt s.per (s.chan m).wA i
def State.pwmB (s : State) (m i : Nat) : Bool :=
  s.drvEn m && !(s.chan m).cut
    && (if (s.chan m).compl then !pulseAt s.per (s.chan m).wA i else pulseAt s.per (s.chan m).wB i)

/-- OC_N of channel m has been low for OC_FILT counts (R220). A period counts once, and counts also where another cause
has shut the channel down in it (R225). -/
def execOcQualify (m : Fin 32) (s : State) : Out :=
  .next (onlyIf (s.inPeriod m && !(s.chan m).cut) (State.ocPeriod m) s)

/-! ## The impedance monitor (R222) -/

/-- |w| of sample j of the block being collected of sense n. -/
def State.senseMag (s : State) (n j : Nat) : Nat := (smapGet zeroW s.sig.next (sigKey (senseSrc n) j)).toInt.natAbs

/-- The sums of channel m with positions zFrom to j - 1 of the block being collected. -/
def State.zSum (m j : Nat) (s : State) : State :=
  let c := s.chan m
  let js := (List.range j).filter (fun i => decide (c.zFrom ≤ i))
  s.setChan m { c with zV := js.foldl (fun a i => a + s.senseMag (s.chV m) i) c.zV
                       zI := js.foldl (fun a i => a + s.senseMag (s.chI m) i) c.zI
                       zFrom := j }

/-- The boundary's part: the block's samples enter the sums of the channels that carry audio. -/
def State.zBoundary (s : State) : State :=
  forEach ((List.range 32).filter s.audible) (fun m st =>
    let st := State.zSum m st.T st
    st.setChan m { st.chan m with zFrom := 0 }) s

/-- The window of channel m has ended (R222). Sums are exact; a ratio to 0, or one beyond 32 bits, is not stated: a
free value (log entry 4). -/
def State.zEnd (m : Nat) (s : State) : State :=
  let c := s.chan m
  let v := c.zV * s.chFld m Off.modC_VFS 19 0
  let i := c.zI * s.chFld m Off.modC_IFS 19 0
  let s := s.setChan m { c with zV := 0, zI := 0, zOn := true }
  if c.zOn then
    let zw := s.chFld m Off.modC_Z_CFG 7 0
    let short := decide (s.chFld m Off.modC_Z_IMIN 15 0 * zw * 2 ^ 31 ≤ i)
      && decide (v * 1000 < s.chFld m Off.modC_Z_CFG 31 16 * i)
    let r := if i = 0 ∨ 2 ^ 32 ≤ v * 1000 / i then (s.fresh.1.toNat, s.fresh.2) else (v * 1000 / i, s)
    let s := r.2.setRg (chPage m) (chOff m Off.modC_Z_LAST) r.1
    if short then State.shutdown m 2 s else s
  else s

/-- A window of channel m ends with position j of the block being collected. The monitor of a channel that carries
audio acts, also where another cause has shut that channel down in the period (R222, R225). -/
def execZWindowEnd (m : Fin 32) (j : Nat) (s : State) : Out :=
  .next (onlyIf ((s.audible m || (s.chan m).shutNow && (s.chan m).zOn) && decide (j < s.T)
      && ((s.tick + 1) * s.T + j + 1) % s.chFld m Off.modC_Z_CFG 7 0 == 0)
    (fun s => State.zEnd m (State.zSum m (j + 1) s)) s)

/-! ## Retries (R224) -/

/-- The coil has cooled where it must (R224). -/
def State.cooled (s : State) (m : Nat) : Bool :=
  !(s.chan m).cool ||
    decide ((smapGet (fun _ => ({} : ThmSt)) s.drive.thm m).tc
      < (s.fld (pgThm + m / 8) (Off.thmC_TW_TL + 0x40 * (m % 8)) 15 0 * 4096 : Nat))

/-- RETRY.DELAY has passed since the shutdown, and the coil has cooled: the next switching period begins CM_UP. -/
def execModRetry (m : Fin 32) (s : State) : Out := .next (onlyIf (s.chState m == 6 && s.cooled m) (State.upDue m) s)

def execRetryCntClear (m : Fin 32) (s : State) : Out :=
  .next (onlyIf (s.chState m == 3) (fun s => s.setFld (chPage m) (chOff m Off.modC_STAT) 10 8 0) s)

end Sys2Proof.Machine
end

