-- ==== Sys2Proof/Machine/Rail.lean ====
section
/-! DEFINITION. The rail groups: the look-ahead command, its pulse width, and supervision (R226 to R230). -/

namespace Sys2Proof.Machine

def railReset : Nat → RailSt := fun _ => {}
def State.rail (s : State) (g : Nat) : RailSt := smapGet railReset s.drive.rail g
def State.setRail (s : State) (g : Nat) (r : RailSt) : State :=
  { s with drive := { s.drive with rail := smapSet railReset s.drive.rail g r } }

/-- A register of group g. -/
def railOff (g o : Nat) : Nat := o + 0x40 * g
def State.railFld (s : State) (g o hi lo : Nat) : Nat := s.fld pgRail (railOff g o) hi lo

/-- The group runs; it is latched by an over-voltage. -/
def State.railRuns (s : State) (g : Nat) : Bool := s.bit pgRail Off.railCTL g && s.works 10
def State.railLatched (s : State) (g : Nat) : Bool := s.bit pgRail (railOff g Off.railG_STAT) 1

/-- The channels of group g. -/
def railChans (g : Nat) : List Nat := (List.range 4).map (fun k => 4 * g + k)

/-- V_MIN as a command, in µV. -/
def State.railMin (s : State) (g : Nat) : Nat := s.railFld g Off.railG_V_MIN 19 0 * 1000

/-! ## Starting and stopping (R226) -/

/-- Group g starts with V_MIN (R226, R228). -/
def State.railStart (g : Nat) (s : State) : State :=
  ((s.setRail g {}).setRg pgRail (railOff g Off.railG_CMD) (s.railMin g)).setFld pgRail (railOff g Off.railG_STAT) 0 0 1

/-- The channels of group g that are not OFF or LATCHED, or wait to start, go OFF as by FORCE_OFF. -/
def State.railOff4 (g : Nat) (s : State) : State :=
  forEach ((railChans g).filter (fun m =>
    (s.chState m != 0 || (s.chan m).upDue) && s.chState m != 7)) State.forceOff s

/-- Group g stops: its channels go OFF, and RAIL_PWM low. -/
def State.railStop (g : Nat) (s : State) : State :=
  let s := State.railOff4 g s
  (s.setRail g {}).setFld pgRail (railOff g Off.railG_STAT) 0 0 0

/-- The landed CTL_NX: every landing of a 0 acts on the channels (R226). -/
def State.railLand (s : State) : State :=
  let old := s.rg pgRail Off.railCTL
  let new := s.eff pgRail Off.railCTL_NX % 256
  forEach (List.range 8) (fun g st =>
    if bitN new g && !bitN old g then State.railStart g st
    else if !bitN new g && bitN old g then State.railStop g st
    else if !bitN new g then State.railOff4 g st
    else st) (s.setRg pgRail Off.railCTL new)

/-! ## The command (R227, R228) -/

/-- CHm_ENV of channel m. -/
def State.envReg (s : State) (m : Nat) : Nat := s.rg pgRail (Off.railCM_ENV + 4 * m)
def State.envEn (s : State) (m : Nat) : Bool := bitN (s.envReg m) 15
def State.envD (s : State) (m : Nat) : Nat := if s.envEn m then bitsN (s.envReg m) 24 16 else 0

/-- Sample n of the envelope source of channel m. -/
def State.envAt (s : State) (m : Nat) (n : Int) : Int :=
  if n < 0 then 0
  else
    match (smapGet (fun _ => []) s.drive.env m).find? (fun b => b.1 == n.toNat / s.T) with
    | some b => (b.2.getD (n.toNat % s.T) 0).toInt
    | none => 0

/-- The blocks of the envelope sources of the tick in the fabric reach the rail unit as its outputs are taken
(R228). -/
def State.takeEnv (s : State) : State :=
  forEach ((List.range 32).filter s.envEn) (fun m st =>
    let r := st.srcBlock st.beatsN (bitsN (st.envReg m) 13 0)
    let s := r.2
    let old := smapGet (fun _ => []) s.drive.env m
    let new := ((s.esc.running, r.1) :: old.filter (fun b => b.1 != s.esc.running)).take 400
    { s with drive := { s.drive with env := smapSet (fun _ => []) s.drive.env m new } }) s

/-- e_m of sample a, and the look-ahead h for a sample at position j of its tick (R227, R228). -/
def State.envelope (s : State) (m : Nat) (a : Int) : Nat :=
  if s.envEn m then (s.envAt m (a - s.envD m)).natAbs else (s.faded m a).natAbs
def State.ahead (s : State) (m : Nat) (a : Int) : Nat :=
  let j := (a % (s.T : Int)).toNat
  ((j + 3) / s.T + 1) * s.T - 1 - j + s.envD m

/-- req(a + i) in µV, over the channels known that far ahead at sample a. -/
def State.railReq (s : State) (g : Nat) (a : Int) (i : Nat) : Nat :=
  let hr := 256 + s.railFld g Off.railG_CFG 31 16
  let need := ((railChans g).filter (fun m => s.audible m && decide (i ≤ s.ahead m a))).foldl (fun x m =>
    max x (s.envelope m (a + i) * s.chFld m Off.modC_VPK 19 0 * 1000 * hr / (2 ^ 31 * 256))) 0
  min (max (s.railFld g Off.railG_V_DROP 19 0 * 1000 + need) (s.railMin g)) (s.railFld g Off.railG_V_MAX 19 0 * 1000)

/-- The plan of group g for sample a, up the slew in µV per sample. -/
def State.railPlan (s : State) (g : Nat) (a : Int) (up : Nat) : Int :=
  let h := (railChans g).foldl (fun x m => max x (s.ahead m a)) 0
  (List.range h).foldl (fun x i => max x ((s.railReq g a (i + 1) : Int) - (i + 1 : Nat) * up)) (s.railReq g a 0)

/-- The next command of group g (R226, R228). -/
def State.railNext (g : Nat) (a : Int) (s : State) : State :=
  let o := railOff g Off.railG_CMD
  if s.railFld g Off.railG_CFG 0 0 = 0 then s.setRg pgRail o (s.railFld g Off.railG_V_FIX 19 0 * 1000)
  else
    let up := s.railFld g Off.railG_SLEW_UP 19 0 * 1000000 / s.fs
    let dn := s.railFld g Off.railG_SLEW_DN 19 0 * 1000000 / s.fs
    let c := s.rg pgRail o
    let plan := s.railPlan g a up
    if ((c + up : Nat) : Int) < plan then
      ((s.setRg pgRail o (c + up)).inc pgRail (railOff g Off.railG_LATE_CNT)).intBit pgRail (24 + g)
    else s.setRg pgRail o (max plan ((c : Int) - dn)).toNat

/-- The rail sense of group g: V_MEAS, and SENSE as the fallback begins (R230). A reading below 0 has no place in
V_MEAS: a free value (log entry 4). -/
def State.railSense (g : Nat) (s : State) : State :=
  let v := s.vMeas g
  let fb := s.railFallback g
  let entered := fb && !s.bit pgRail (railOff g Off.railG_STAT) 2
  let s := s.setBit pgRail (railOff g Off.railG_STAT) 2 fb
  let s := if entered then s.intBit pgRail (16 + g) else s
  let m := if v < 0 then (s.fresh.1.toNat, s.fresh.2) else (v.toNat, s)
  m.2.setRg pgRail (railOff g Off.railG_V_MEAS) (m.1 % 2 ^ 20)

/-- Supervision of group g against its command (R230). -/
def State.railWatch (g : Nat) (s : State) : State :=
  let v := s.vMeas g
  let r := s.rail g
  let tol := s.railFld g Off.railG_TOL 19 0
  let low := decide (v < ((s.rg pgRail (railOff g Off.railG_CMD) / 1000 : Nat) : Int) - tol)
  let above := decide (((s.railFld g Off.railG_V_MAX 19 0 + tol : Nat) : Int) < v)
  State.railSense g (s.setRail g { r with low := if low then r.low + 1 else 0, above := if above then r.above + 1 else 0
                                          lowSent := r.lowSent && low })

/-- The sample period at position j of the tick whose boundary was placed last (R228). A group latched by an
over-voltage keeps its command, and its sense is read on (R230; log entry 55). DEDUCED. -/
def execRailCommand (g : Fin 8) (j : Nat) (s : State) : Out :=
  .next (onlyIf (s.railRuns g && decide (j < s.T)) (fun s =>
    if s.railLatched g then State.railSense g s
    else State.railWatch g (State.railNext g (s.atBridge (s.tick * s.T + j)) s)) s)

/-! ## The pulse width and the limits (R229, R230) -/

/-- quant of R218 with an exact rational h and no minimum pulse, clamped to 0 to RPER. -/
def quantRat (per : Nat) (h e : Rat) : Nat × Rat :=
  let v := h + e
  let n := clampI 0 per (convQ v.num v.den)
  (n.toNat, v - (n : Rat))

/-- RPER lies in its range (R229). -/
def rperOk (p : Nat) : Bool := decide (256 ≤ p) && decide (p ≤ 16384)

/-- A RAIL_PWM period starts. Without a full scale, or with RPER outside its range, the width is not stated: a free
value (log entry 4). -/
def State.railPwm (g : Nat) (s : State) : State :=
  let per := s.railFld g Off.railG_RPER 14 0
  let vfs := s.railFld g Off.railG_VFS 19 0
  let r := s.rail g
  if vfs = 0 ∨ !rperOk per then s.fresh.2.setRail g { r with high := s.fresh.1.toNat % (per + 1) }
  else
    let q := quantRat per (((per * s.rg pgRail (railOff g Off.railG_CMD) : Nat) : Rat) / ((vfs * 1000 : Nat) : Rat)) r.e
    s.setRail g { r with high := q.1, e := q.2 }

/-- RAIL_PWM of group g in count i of its present period (R229); low while the unit is STRUCK (R338, R347). -/
def State.railPin (s : State) (g i : Nat) : Bool :=
  s.railRuns g && !s.railLatched g && !s.pair.fenced && pulseAt (s.railFld g Off.railG_RPER 14 0) (s.rail g).high i

def execRailPwmPeriod (g : Fin 8) (s : State) : Out :=
  .next (onlyIf (s.railRuns g && !s.railLatched g) (State.railPwm g) s)

def execRailLow (g : Fin 8) (s : State) : Out :=
  .next (onlyIf (s.railRuns g && !(s.rail g).lowSent && decide (1 ≤ (s.rail g).low)
      && decide (s.railFld g Off.railG_TIME 15 0 ≤ (s.rail g).low)) (fun s =>
    let s := s.setRail g { s.rail g with lowSent := true }
    (s.inc pgRail (railOff g Off.railG_LOW_CNT)).pageErr pgRail 2 g) s)

/-- A channel of a group with an over-voltage, which is not OFF, latches with cause RAIL (R230); a lower cause of the
same period stays in CAUSE (R225). A start that waits for a CLR written earlier is void. -/
def State.railTrip (m : Nat) (s : State) : State :=
  if s.switching m then State.shutdown m 5 s
  else
    let c := if (s.chan m).shutNow then s.chFld m Off.modC_STAT 6 4 else 5
    let latched := (s.chPinsLow m 7).setFld (chPage m) (chOff m Off.modC_STAT) 6 4 c
    if s.chState m = 6 then latched.chErr m (2 ^ (8 + m % 8))
    else if s.chState m = 7 then latched
    else s

def execRailOv (g : Fin 8) (s : State) : Out :=
  .next (onlyIf (s.railRuns g && !s.railLatched g && decide (4 ≤ (s.rail g).above)) (fun s =>
    let s := (s.setRail g { s.rail g with high := 0, above := 0 }).setBit pgRail (railOff g Off.railG_STAT) 1 true
    forEach (railChans g) State.railTrip (s.pageErr pgRail 2 (8 + g))) s)

/-- CLR of group g (R230). -/
def State.railClear (g : Nat) (s : State) : State :=
  if s.railLatched g then
    (s.setBit pgRail (railOff g Off.railG_STAT) 1 false).setRg pgRail (railOff g Off.railG_CMD) (s.railMin g)
  else s

def execRailClr (v mid : Nat) (s : State) : Out :=
  .next (s.guarded pgRail Off.railCLR mid false (forEach ((List.range 8).filter (bitN v)) State.railClear))

end Sys2Proof.Machine
end

