-- ==== Sys2Proof/Machine/Thm.lean ====
section
/-! DEFINITION. The loudspeaker model: power, temperatures, resistance, gain, and the gain words in the shared store
(R231 to R234). -/

namespace Sys2Proof.Machine

def thmReset : Nat → ThmSt := fun _ => {}
def State.thm (s : State) (m : Nat) : ThmSt := smapGet thmReset s.drive.thm m
def State.setThm (s : State) (m : Nat) (t : ThmSt) : State :=
  { s with drive := { s.drive with thm := smapSet thmReset s.drive.thm m t } }

/-- The page of channel m, and a register of the channel. -/
def thmPage (m : Nat) : Nat := pgThm + m / 8
def thmOff (m o : Nat) : Nat := o + 0x40 * (m % 8)
def State.thmFld (s : State) (m o hi lo : Nat) : Nat := s.fld (thmPage m) (thmOff m o) hi lo
def State.thmRg (s : State) (m o : Nat) : Nat := s.rg (thmPage m) (thmOff m o)

/-- Bit k of CTL; the model of channel m runs. -/
def State.thmOn (s : State) (m : Nat) : Bool := s.bit (thmPage m) Off.thmCTL (m % 8)
def State.thmRuns (s : State) (m : Nat) : Bool := s.thmOn m && s.works 10

/-- T_AMB in 2^-16 degrees. -/
def State.thmAmb (s : State) (m : Nat) : Int := toSigned 16 (s.rg (thmPage m) Off.thmT_AMB) * 4096

/-- The temperatures that registers show. -/
def State.showThm (m : Nat) (s : State) : State :=
  let t := s.thm m
  (s.setRgS (thmPage m) (thmOff m Off.thmC_DT_VC) t.dTvc).setRg (thmPage m) (thmOff m Off.thmC_T) (ofSigned 16 (t.tc / 4096))

/-- A landed bit of CTL_NX: enabling restarts the model (R231). -/
def State.thmStart (m : Nat) (s : State) : State :=
  let s := s.setThm m { tc := s.thmAmb m }
  (State.showThm m s).setRg (thmPage m) (thmOff m Off.thmC_GAIN) 0x7FFFFFFF

/-- The landed CTL_NX of the four pages. -/
def State.thmLand (s : State) : State :=
  let old := (List.range 32).map s.thmOn
  let s := forEach (List.range 4) (fun x st => st.setRg (pgThm + x) Off.thmCTL (st.eff (pgThm + x) Off.thmCTL_NX % 256)) s
  forEach (List.range 32) (fun m st => if st.thmOn m && !old.getD m false then State.thmStart m st else st) s

/-- The sense block of instance n of the tick. -/
def State.senseBlock (s : State) (n : Nat) : List Int := (getBlock (s.sig.due.getLast?.getD s.sig.cur) (senseSrc n) s.T).map BitVec.toInt

/-- The sum of the products of two blocks. -/
def dotI (a b : List Int) : Int := (a.zip b).foldl (fun x p => x + p.1 * p.2) 0

/-- The temperatures of channel m at a boundary (R231), and the sums of its window (R232). -/
def State.thmHeat (m : Nat) (s : State) : State :=
  let wv := s.senseBlock (s.chV m)
  let wi := s.senseBlock (s.chI m)
  let p : Int := if s.switching m then
      dotI wv wi * s.chFld m Off.modC_VFS 19 0 * s.chFld m Off.modC_IFS 19 0 / (2 ^ 62 * s.T : Nat)
    else 0
  let tvc := p * s.thmFld m Off.thmC_RTH 15 0 * 2 ^ 16 / (256 * 10 ^ 6)
  let tm := p * s.thmFld m Off.thmC_RTH 31 16 * 2 ^ 16 / (256 * 10 ^ 6)
  let t := s.thm m
  let dTvc := t.dTvc + (tvc - t.dTvc) * s.thmRg m Off.thmC_A_VC / 2 ^ 32
  let dTm := t.dTm + (tm - t.dTm) * s.thmRg m Off.thmC_A_M / 2 ^ 32
  State.showThm m (s.setThm m { t with dTvc := dTvc, dTm := dTm, tc := s.thmAmb m + dTm + dTvc
                                       svi := t.svi + dotI wv wi, sii := t.sii + dotI wi wi, cnt := t.cnt + 1 })

/-- gt of R233; thresholds that leave no range leave it open, a free value (log entry 4). -/
def State.thmTarget (m : Nat) (s : State) : Int × State :=
  let tc := (s.thm m).tc
  let lim : Int := (s.thmFld m Off.thmC_TW_TL 31 16 * 4096 : Nat)
  let shut : Int := (s.thmFld m Off.thmC_TS 15 0 * 4096 : Nat)
  let fl := toSigned 32 (s.thmRg m Off.thmC_G_FLOOR)
  if tc ≤ lim then (0x7FFFFFFF, s)
  else if shut = lim then (max fl s.fresh.1.toInt, s.fresh.2)
  else (max fl (Int.fdiv (0x7FFFFFFF * (shut - tc)) (shut - lim)), s)

/-- A flag of CHk_STAT of channel m follows a condition; INT_RAW is set as it begins, and, again says, at each further
thermal shutdown (R223, R241). -/
def State.thmFlag (m i : Nat) (b again : Bool) (s : State) : State :=
  let was := s.bit (thmPage m) (thmOff m Off.thmC_STAT) i
  let s := s.setBit (thmPage m) (thmOff m Off.thmC_STAT) i b
  if b && (!was || again) then
    (if i = 2 then s.raiseErr (thmPage m) 2 (2 ^ (16 + m % 8)) (regAddr (thmPage m) 0) midNone 0
    else s.setInt (thmPage m) (2 ^ (8 * i + m % 8)))
  else s

/-- The three steps of R233 after the update of channel m. A tripped channel waits for the coil (R224). -/
def State.thmGain (m : Nat) (s : State) : State :=
  let r := State.thmTarget m s
  let s := r.2
  let g := toSigned 32 (s.thmRg m Off.thmC_GAIN)
  let k : Nat := if r.1 < g then s.thmFld m Off.thmC_AR 15 0 else s.thmFld m Off.thmC_AR 31 16
  let s := s.setRgS (thmPage m) (thmOff m Off.thmC_GAIN) (g + (r.1 - g) * k / 2 ^ 16)
  let tc := (s.thm m).tc
  let s := State.thmFlag m 0 (decide ((s.thmFld m Off.thmC_TW_TL 15 0 * 4096 : Nat) ≤ tc)) false s
  let s := State.thmFlag m 1 (decide ((s.thmFld m Off.thmC_TW_TL 31 16 * 4096 : Nat) < tc)) false s
  let hot := decide ((s.thmFld m Off.thmC_TS 15 0 * 4096 : Nat) ≤ tc)
  let s := State.thmFlag m 2 hot (s.switching m) s
  if hot then State.shutdown m 4 (s.setChan m { s.chan m with cool := true }) else s

/-- The gain word of channel m goes to the shared store as master 0x30 (R233). -/
def State.thmWrite (m : Nat) (s : State) : State :=
  let v := if s.thmRuns m then s.thmRg m Off.thmC_GAIN else 0x7FFFFFFF
  let a := 0x10000000 + s.rg (thmPage m) Off.thmGAIN_BASE + 4 * (m % 8)
  let w := s.memWriteBus midRouter a (toLE 4 v)
  if w.1 then w.2 else w.2.setThm m { w.2.thm m with err := true }

/-- The boundary's part: every running model, then the gain word of every channel (R231, R233). -/
def State.thmBoundary (s : State) : State :=
  let s := forEach ((List.range 32).filter s.thmRuns) (fun m st => State.thmGain m (State.thmHeat m st)) s
  forEach ((List.range 32).filter (fun m => s.pageEn (thmPage m) && s.works 10)) State.thmWrite s

/-- The window of channel m ends (R232). A resistance or a correction by 0 is not stated: a free value (log
entry 4). -/
def State.thmWindow (m : Nat) (s : State) : State :=
  let t := s.thm m
  let ifs := s.chFld m Off.modC_IFS 19 0
  let n := t.cnt * s.T
  let valid := decide ((s.thmFld m Off.thmC_IMIN 15 0 ^ 2 * 2 ^ 62 * n : Nat) ≤ t.sii * (ifs ^ 2 : Nat))
  let s := (s.setThm m { t with svi := 0, sii := 0, cnt := 0 }).setBit (thmPage m) (thmOff m Off.thmC_STAT) 3 valid
  if valid then
    let den := t.sii * ifs
    let r := if den = 0 then (s.fresh.1.toInt, s.fresh.2) else (Int.fdiv (t.svi * s.chFld m Off.modC_VFS 19 0 * 1000) den, s)
    let s := r.2.setRgS (thmPage m) (thmOff m Off.thmC_R_MEAS) r.1
    let ref := s.thmFld m Off.thmC_R_REF 19 0
    let al := s.thmFld m Off.thmC_REF 31 16
    let q := if ref * al = 0 then (s.fresh.1.toInt, s.fresh.2) else (Int.fdiv ((r.1 - ref) * 10 ^ 6 * 2 ^ 16) (ref * al : Nat), s)
    let s := q.2
    let tm := (s.thmFld m Off.thmC_REF 15 0 * 4096 : Nat) + q.1
    let t := s.thm m
    State.showThm m (s.setThm m { t with dTvc := t.dTvc + (tm - t.tc) * s.thmFld m Off.thmC_CORR 7 0 / 256 })
  else s

def execThmWindowEnd (m : Fin 32) (s : State) : Out :=
  .next (onlyIf (s.thmRuns m && decide (1 ≤ (s.thm m).cnt) && decide (s.thmFld m Off.thmC_CORR 31 16 ≤ (s.thm m).cnt))
    (State.thmWindow m) s)

/-- A gain word of channel m met an error response at the last boundary (R233). -/
def execThmStoreError (m : Fin 32) (s : State) : Out :=
  .next (onlyIf (s.thm m).err (fun s =>
    (s.setThm m { s.thm m with err := false }).pageErr (thmPage m) 2 24 midRouter) s)

end Sys2Proof.Machine
end

