-- ==== Sys2Proof/Machine/Dpll.lean ====
section
/-! DEFINITION. The monitors of the references, writes of REF, the DPLL's events, slews and steps, the pennant pins, and
steps over a stack (R243 to R258, R321 to R324). -/

namespace Sys2Proof.Machine

/-- Reference n is active (R243). -/
def State.refLive (n : Nat) (s : State) : State :=
  if s.pageEn pgRef then (s.setBit pgRef Off.refQUAL_STAT (8 + n) true).setBit pgRef (refOff n Off.refR_STAT) 0 true else s

/-- The activity of reference n is lost (R243, R245); the result of its last window stays (R260). -/
def State.refInactive (n : Nat) (s : State) : State :=
  let s := (s.setBit pgRef Off.refQUAL_STAT (8 + n) false).setBit pgRef (refOff n Off.refR_STAT) 0 false
  State.disqualify n (s.setRefMon n { s.refMon n with bad := 0, good := 0 })

def execRefActivityLost (n : Fin 7) (s : State) : Out :=
  .next (onlyIf (s.pageEn pgRef && s.refActive n) (State.withLost (State.refInactive n)) s)

/-! ## Windows, drift, conflict (R243 to R248) -/

/-- The drift monitor of the selected reference (R247). -/
def State.drift (n : Nat) (s : State) : State :=
  let d := ((s.refMon n).avg.tdiv (2 ^ 20) - s.rgS pgRef (refOff n Off.refR_LOCK_OFS)).natAbs
  let lim := s.fld pgRef Off.refDRIFT_PPB 19 0
  let o := refOff n Off.refR_STAT
  if lim < d ∧ ¬ s.bit pgRef o 5 then (s.setBit pgRef o 5 true).intBit pgRef 15
  else if 2 * d < lim then s.setBit pgRef o 5 false
  else s

/-- The evaluation of the pair of references a < b (R248). -/
def State.conflict (a b : Nat) (s : State) : State :=
  let k := 8 * a + b
  if s.refQual a && s.refQual b && s.refRank a == s.refRank b then
    let d := (s.rgS pgRef (refOff a Off.refR_OFFSET) - s.rgS pgRef (refOff b Off.refR_OFFSET)).natAbs
    let c := if s.fld pgRef Off.refCONFLICT_PPB 19 0 < d then smapGet zeroN s.dpll.conf k + 1 else 0
    let s := { s with dpll := { s.dpll with conf := smapSet zeroN s.dpll.conf k c } }
    if c = 3 then
      let low := (s.dpll.conf.filter (fun e => decide (3 ≤ e.2))).head?.map (fun e => e.1)
      let p := low.getD k
      (s.setRg pgRef Off.refCONFLICT_PAIR (p / 8 + 16 * (p % 8) + 256)).intBit pgRef 16
    else s
  else { s with dpll := { s.dpll with conf := smapSet zeroN s.dpll.conf k 0 } }

/-- The average after a window of w ms with the result x in ppb: the time constant is 100 s. The weight of a window,
1 - e^(-w/100 s), is taken as w/100 s (log entry 90). DESIGN CHOICE. -/
def driftAvg (w : Nat) (x avg : Int) : Int := avg + (x * 2 ^ 20 - avg) * w / 100000

/-- A window of reference n ends with its result in ppb, and the signed difference in ps from the output phase to the
phase that reference n gives: its edges at the ball, or the arrival of a marker. The time base gives that of reference 4
(R242 to R248, R304, R319). -/
def State.refWindowEnd (n : Nat) (ofs phase : Int) (s : State) : State :=
  let acc := decide (ofs.natAbs ≤ s.refFld n Off.refR_ACCEPT 23 0)
  let rej := decide (s.refFld n Off.refR_REJECT 23 0 < ofs.natAbs)
  let o := refOff n Off.refR_STAT
  let s := s.setRgS pgRef (refOff n Off.refR_OFFSET) ofs
  let s := ((State.refLive n s).setBit pgRef o 1 acc).setBit pgRef o 2 rej
  let m := s.refMon n
  let bad := if rej then m.bad + 1 else 0
  let s := s.setRefMon n { bad := bad, good := if acc then m.good + 1 else 0
                           phase := if n = 4 then s.mediaPhase else phase * psUnit
                           avg := if s.refSel = n then driftAvg (s.refWindow n) ofs m.avg else m.avg }
  let s := if s.refSel = n ∧ s.dpllState = 2 then State.drift n s else s
  let s := forEach ((List.range 7).filter (fun m => m != n)) (fun m st => State.conflict (min m n) (max m n) st) s
  if 1 ≤ bad ∧ s.refFld n Off.refR_TIMES 31 16 ≤ (bad - 1) * s.refWindow n then State.disqualify n s else s

def execRefWindowEnd (n : Fin 7) (ofs phase : Int) (s : State) : Out :=
  .next (onlyIf (s.pageEn pgRef && s.refWindow n != 0 && (n.val != 4 || s.timeQual == 2)
    && (decide (n.val < 5) || (s.crxPort (n - 5)).mark && s.bit (pgCrx + (n - 5)) Off.crxSTAT 0)) (State.withLost (State.refWindowEnd n ofs phase)) s)

/-- The references of the mask refs reach QUAL_T at one moment (R244); all qualify before one is selected (R257). -/
def State.refsQualify (refs : Nat) (s : State) : State :=
  let ready := (List.range 7).filter (fun n => bitN refs n && s.refReady n)
  onlyIf (!ready.isEmpty) State.autoSelect (forEach ready State.qualify s)

def execRefQualified (refs : Nat) (s : State) : Out :=
  .next (onlyIf (s.pageEn pgRef) (State.withLost (State.refsQualify refs)) s)

/-- Reference n has been qualified, and better than the selected one, for REVERT_WAIT (R250, rule 3). A forced
reference stays. -/
def execRefRevert (n : Fin 7) (s : State) : Out :=
  .next (onlyIf (s.bit pgRef Off.refCTL 0 && !s.forced && decide (s.refSel < 7) && s.candidates.contains n.val
    && decide (s.refRank n < s.refRank s.refSel)) (State.selectRef n) s)

/-! ## Register writes of REF (R245, R246, R250, R257) -/

/-- A refused write of REF: CFG_ERR, Contained; the write completes normally (R499). -/
def State.refRefuse (s : State) (off mid : Nat) : State := s.writeErr pgRef off mid 17

/-- A write of REFn_CFG. -/
def State.refCfg (n v mid : Nat) (s : State) : State :=
  let o := refOff n Off.refR_CFG
  let old := s.rg pgRef o
  if s.refSel = n ∧ (bitsN old 2 1 ≠ bitsN v 2 1 ∨ bitsN old 6 4 ≠ bitsN v 6 4) then s.refRefuse o mid
  else
    let v := v &&& 0x1F777
    let v := if 5 ≤ n then putBits v 15 12 (bitsN old 15 12) else v
    let s := s.setRg pgRef o v
    let s := s.setFld pgRef (refOff n Off.refR_STAT) 11 8 (bitsN v 15 12)
    if !bitN v 0 || bitsN v 15 12 == 15 then State.disqualify n s else s

def execRefCfgWrite (n : Fin 7) (v mid : Nat) (s : State) : Out :=
  .next (s.guarded pgRef (refOff n Off.refR_CFG) mid false (State.withLost (State.refCfg n v mid)))

/-- A write of REFn_ACCEPT or REFn_REJECT. -/
def State.refLimit (n : Nat) (reject : Bool) (v mid : Nat) (s : State) : State :=
  let v := v % 2 ^ 24
  let a := if reject then s.refFld n Off.refR_ACCEPT 23 0 else v
  let r := if reject then v else s.refFld n Off.refR_REJECT 23 0
  let o := refOff n (if reject then Off.refR_REJECT else Off.refR_ACCEPT)
  if r ≤ a then s.refRefuse o mid else s.setRg pgRef o v

def execRefLimitWrite (n : Fin 7) (reject : Bool) (v mid : Nat) (s : State) : Out :=
  .next (s.guarded pgRef (refOff n (if reject then Off.refR_REJECT else Off.refR_ACCEPT)) mid false
    (State.refLimit n reject v mid))

/-- A write of REF.CTL (R250, rule 5). -/
def State.refCtl (v mid : Nat) (s : State) : State :=
  let n := bitsN v 6 4
  if bitN v 1 then
    (if s.candidates.contains n then
      let s := s.setRg pgRef Off.refCTL (v &&& 0x73)
      (State.selectRef n s).setBit pgRef Off.refSEL 8 true
    else s.refRefuse Off.refCTL mid)
  else (s.setRg pgRef Off.refCTL (v &&& 0x73)).setBit pgRef Off.refSEL 8 false

def execRefForce (v mid : Nat) (s : State) : Out :=
  .next (onlyIf (bitN v 1) (fun s => s.guarded pgRef Off.refCTL mid false (State.withLost (State.refCtl v mid))) s)

/-- The history expires (R253). -/
def State.histExpire (s : State) : State :=
  let s := s.setBit pgDpll Off.dpllSTATE 8 false
  if s.dpllState = 3 then State.dpllTo 4 s else s

/-- A write of HOLD_LIMIT: below the seconds since LOCK ended, HOLD ends (R253, R257). -/
def State.holdLimit (v : Nat) (s : State) : State :=
  let v := min (v % 2 ^ 17) 86400
  let s := s.setRg pgRef Off.refHOLD_LIMIT v
  if s.dpllState = 3 ∧ (rawSec v < s.histElapsed ∨ v = 0) then s.histExpire else s

def execHoldLimitWrite (v mid : Nat) (s : State) : Out :=
  .next (s.guarded pgRef Off.refHOLD_LIMIT mid false (State.withLost (State.holdLimit v)))

/-! ## Events of the DPLL (R252 to R258) -/

/-- The phase error has exceeded UNLOCK_PHASE for 100 ms; it does so at the end of that time (R252). -/
def execDpllUnlock (s : State) : Out :=
  .next (onlyIf (s.dpllState == 2
    && decide (s.fld pgDpll Off.dpllUNLOCK_PHASE 23 0 * psUnit < (s.phaseDiff s.refSel).natAbs)) (State.dpllTo 1) s)

def execDpllHistoryValid (s : State) : Out :=
  .next (onlyIf (s.dpllState == 2 && !s.dpll.histLive) (fun s =>
    { s with dpll := { s.dpll with histLive := true } }.setBit pgDpll Off.dpllSTATE 8 true) s)

def execDpllHoldExpire (s : State) : Out :=
  .next (onlyIf (s.histValid && !s.dpll.histLive) (State.withLost State.histExpire) s)

/-- The slew ends with its part of the tick in progress; without ticks it ends by itself. -/
def execDpllSlewDone (s : State) : Out :=
  .next (onlyIf (s.slewing && (s.dpll.slew == s.dpll.part || !s.pageEn pgEsc)) (fun s =>
    let s := if s.dpll.slew = s.dpll.part then s else (State.movePhase s.dpll.slew s)
    ({ s with dpll := { s.dpll with slew := 0 } }.setBit pgDpll Off.dpllSTATE 9 false).intBit pgDpll 3) s)

def execPnt3PulseEnd (s : State) : Out :=
  .next (onlyIf s.dpll.pnt3 (fun s => { s with dpll := { s.dpll with pnt3 := false } }) s)

/-- Steps not completed follow STEP_PENDING. -/
def State.setSteps (s : State) (l : List (Int × Nat)) : State :=
  { s with dpll := { s.dpll with steps := l } }.setBit pgDpll Off.dpllSTATE 10 (!l.isEmpty)

/-- A write to STEP is refused (R256). -/
def State.stepRefused (s : State) (v : Int) : Bool :=
  decide (s.fld pgDpll Off.dpllSTEP_MAX 23 0 < v.natAbs) || decide (s.T * 10 ^ 9 < v.natAbs * s.fs)
  || s.bit pgDpll Off.dpllSTATE 10
  || (let p := s.rgS pgDpll Off.dpllPHASE_OFS + v; decide (p < -2 ^ 31) || decide (2 ^ 31 ≤ p))
  || s.refInUse == 5 || s.refInUse == 6

/-- A write to STEP: the step is applied over the tick that begins at the next boundary. -/
def State.stepWrite (v mid : Nat) (s : State) : State :=
  let i := toSigned 32 v
  if s.stepRefused i then s.writeErr pgDpll Off.dpllSTEP mid 5
  else { s with dpll := { s.dpll with announced := false } }.setSteps [(i, s.tick + 1)]

def execDpllStepWrite (v mid : Nat) (s : State) : Out :=
  .next (s.guarded pgDpll Off.dpllSTEP mid false (State.stepWrite v mid))

/-- The tick of a step has ended (R256). PHASE_OFS is the sum of completed steps. -/
def execDpllStepDone (s : State) : Out :=
  .next (onlyIf (s.dpll.steps.any (fun p => decide (p.2 < s.tick))) (fun s =>
    let done := s.dpll.steps.filter (fun p => decide (p.2 < s.tick))
    let s := s.setRgS pgDpll Off.dpllPHASE_OFS (done.foldl (fun x p => x + p.1) (s.rgS pgDpll Off.dpllPHASE_OFS))
    (s.setSteps (s.dpll.steps.filter (fun p => !decide (p.2 < s.tick)))).intBit pgDpll 4) s)

/-- The levels of PNT3 to PNT0 (R258, R259), at the first 1 ms of a second or not, and in the first sample period of a
tick or not; their clamp is 0 (R453). -/
def State.pennant (s : State) (sec first : Bool) : Nat :=
  let p3 := 8 * b2n s.dpll.pnt3
  let cfg := s.rg pgDpll Off.dpllPNT_CFG
  if s.mode = 4 then 0
  else if s.mode = 0 ∨ s.mode = 5 ∨ s.bit pgPair Off.pairSTATE 3 then p3 + s.dpllState
  else
    match bitsN cfg 1 0 with
    | 0 => p3 + s.dpllState
    | 1 => p3 + s.refSel
    | 2 => p3 + 4 * b2n (s.dpllState == 2) + 2 * b2n sec + b2n first
    | _ => bitsN cfg 7 4

/-! ## Steps over a stack (R321, R322) -/

/-- The crown sends the STEP block on both ports as the step's tick begins. -/
def execStepAnnounce (s : State) : Out :=
  .next (onlyIf (s.sendsCrown && !s.dpll.announced && s.dpll.steps.any (fun p => p.2 == s.tick)) (fun s =>
    let step := (s.dpll.steps.find? (fun p => p.2 == s.tick)).map (fun p => p.1)
    let blk (n : Nat) := (n, s.stackId, step.getD 0, s.tick)
    { s with dpll := { s.dpll with announced := true, sent := [blk 0, blk 1] } }) s)

/-- The tick number nearest to t whose low 24 bits are b. -/
def nearestTick (t b : Nat) : Nat :=
  let base := t / 2 ^ 24 * 2 ^ 24 + b
  let near (x y : Nat) : Bool := decide (((x : Int) - t).natAbs ≤ ((y : Int) - t).natAbs)
  let c := if near base (base + 2 ^ 24) then base else base + 2 ^ 24
  if 2 ^ 24 ≤ base ∧ !near c (base - 2 ^ 24) then base - 2 ^ 24 else c

/-- A received STEP block pair that agrees and comes from the followed crown: applied in tick b where it came in time,
else over tick b + 2; relayed on the other port. A pair received before is not applied again (log entry 23). -/
def State.stepTake (n v : Nat) (inTime : Bool) (s : State) : State :=
  let step := toSigned 24 (v / 2 ^ 16)
  let b := nearestTick s.tick (v / 2 ^ 40)
  let blk := (1 - n, s.crownId, step, b)
  if s.dpll.sent.any (fun x => x.2 == blk.2) then s
  else
    let s := { s with dpll := { s.dpll with sent := [blk] } }
    if inTime ∧ s.tick ≤ b then s.setSteps (s.dpll.steps ++ [(step, b)])
    else
      let s := (s.inc (pgCrx + n) (Off.crxCounters + 4 * 9)).intBit (pgCrx + n) 9
      s.setSteps (s.dpll.steps ++ [(step, b + 2)])

/-- Two copies of a STEP block on port n, as 64-bit blocks; one or both may not have arrived. -/
def execStepBlockRx (n : Fin 2) (c0 c1 : Option Nat) (inTime : Bool) (s : State) : Out :=
  .next (onlyIf (s.bit (pgCrx + n) Off.crxCTL 0 && (c0.isSome || c1.isSome)) (fun s =>
    match c0 with
    | some v =>
      if c1 = some v ∧ v % 256 = 0x96 ∧ v / 256 % 256 = s.crownId ∧ (s.sendsCrown ∨ s.follows.isSome) then
        (if s.sendsCrown then s else State.stepTake n v inTime s)
      else (s.inc (pgCrx + n) (Off.crxCounters + 4 * 2)).intBit (pgCrx + n) 1
    | none => (s.inc (pgCrx + n) (Off.crxCounters + 4 * 2)).intBit (pgCrx + n) 1) s)

/-! ## Roles (R323, R324) -/

/-- A write of STACK.ROLE: a selected reference that becomes ineligible counts as disqualified. -/
def State.roleWrite (v : Nat) (s : State) : State :=
  (s.setRg pgStack Off.stackROLE (v % 2)).recheckRef

def execStackRoleWrite (v mid : Nat) (s : State) : Out :=
  .next (s.guarded pgStack Off.stackROLE mid false (State.withLost (State.roleWrite v)))

/-- STACK.CLR clears a crown conflict. -/
def State.stackClr (v : Nat) (s : State) : State :=
  if bitN v 0 then
    let s := { s with dpll := { s.dpll with shut := 0 } }
    ((s.setBit pgStack Off.stackSTAT 0 false).setRg pgStack Off.stackCONFLICT_ID 0).autoSelect
  else s

def execStackClr (v mid : Nat) (s : State) : Out :=
  .next (s.guarded pgStack Off.stackCLR mid false (State.withLost (State.stackClr v)))

end Sys2Proof.Machine
end

