-- ==== Sys2Proof/Machine/Ptp.lean ====
section
/-! DEFINITION. The time base: reading, rate, steps, quality, and recovery from the ledger (R295 to R307). -/

namespace Sys2Proof.Machine

/-- The quality becomes q: QUAL_CHG where it changes; leaving SYNC, the PTP media reference is no longer active; UNC
reads 0 outside LEDGER (R300, R301, R306). -/
def State.setQual (q : Nat) (s : State) : State :=
  let old := s.timeQual
  let s := s.setFld pgPtp Off.ptpSTAT 1 0 q
  let s := if q ≠ 3 then s.setRg pgPtp Off.ptpUNC 0 else s
  if old = q then s
  else
    let s := s.intBit pgPtp 3
    if old = 2 then State.withLost (State.refInactive 4) s else if q = 2 then State.refLive 4 s else s

/-- STEP_ARMED. -/
def State.setArmed (s : State) (b : Bool) : State := s.setBit pgPtp Off.ptpSTAT 2 b
def State.stepArmed (s : State) : Bool := s.bit pgPtp Off.ptpSTAT 2

/-! ## Reading (R296, R297) -/

/-- The words of a reading: TIME_NS, TIME_S_LO and TIME_S_HI. -/
def timeNs (t : Int) (q : Nat) : Nat := tqNs t + q * 2 ^ 30
def timeHi (t : Int) : Nat := tqSec t / 2 ^ 32 + tqFrac t * 2 ^ 16

/-- A read of TIME_NS captures the time and its quality. -/
def State.timeRead (s : State) : State :=
  let t := s.tq
  let s := s.setRg pgPtp Off.ptpTIME_NS (timeNs t s.timeQual)
  let s := (s.setRg pgPtp Off.ptpTIME_S_LO (tqSec t)).setRg pgPtp Off.ptpTIME_S_HI (timeHi t)
  s.deliver (toLE 4 (timeNs t s.timeQual))

def execPtpTimeRead (mid : Nat) (s : State) : Out :=
  .next (s.guardRead pgPtp Off.ptpTIME_NS mid (fun _ => 0) State.timeRead)

/-! ## Rate (R298) -/

/-- The limits of RATE, 2^41 x (1 - 0.0005) and 2^41 x (1 + 0.0005), rounded to the nearest integer; a value outside
the exact limits is clamped. -/
def rateMin : Nat := 2197923743924
def rateMax : Nat := 2200122767180

def rateOut (v : Nat) : Bool := decide (2000 * v < 1999 * 2 ^ 41) || decide (2001 * 2 ^ 41 < 2000 * v)

/-- The raw counter counts: a step is applied at the new count, and then a rate committed takes effect, at which the
time is continuous (R298, R299, R307). -/
def PtpSt.count (p : PtpSt) : PtpSt :=
  let c := (p.raw + 1) % 2 ^ 64
  let p := { p with raw := c, offset := p.offset + p.step.getD 0, step := none }
  match p.commit with
  | none => p
  | some r =>
    { p with rate := r, commit := none, committed := some c
             offset := p.offset + ((c * p.rate / 2 ^ 24 : Nat) : Int) - (c * r / 2 ^ 24 : Nat) }

/-- The raw counter counts. A step that is applied sets the quality to FREE and invalidates the anchor (R299, R305). -/
def State.timeCount (s : State) : State :=
  let t := { s with ptp := s.ptp.count }
  if s.ptp.step.isSome then (State.setQual 1 ((t.inc pgPtp Off.ptpSTEP_CNT).intBit pgPtp 0)).dropAnchor else t

/-- The 48-bit value of RATE_HI and RATE_LO is committed at the next raw count. -/
def State.rateCommit (v : Nat) (s : State) : State :=
  let want := s.rg pgPtp Off.ptpRATE_LO + v % 2 ^ 16 * 2 ^ 32
  let r := clampN rateMin rateMax want
  let s := { s with ptp := { s.ptp with commit := some r } }
  let s := (s.setRg pgPtp Off.ptpRATE_LO r).setRg pgPtp Off.ptpRATE_HI (r / 2 ^ 32)
  if rateOut want then s.intBit pgPtp 5 else s

def execPtpRateCommit (v mid : Nat) (s : State) : Out :=
  .next (s.guarded pgPtp Off.ptpRATE_HI mid false (State.rateCommit v))

/-! ## Steps and quality (R299 to R301) -/

/-- A refused GO or SYNC: REFUSE holds the reason; the write completes normally (R499). -/
def State.ptpRefuse (s : State) (off mid why : Nat) : State :=
  (s.setFld pgPtp Off.ptpSTAT 6 4 why).writeErr pgPtp off mid 1

/-- S of R299 in units of 2^-16 ns, with FRAC. -/
def State.stepSize (s : State) (frac : Nat) : Int :=
  toSigned 64 (s.rg64 pgPtp Off.ptpSTEP_LO Off.ptpSTEP_HI) * 2 ^ 16 + (frac : Int)

/-- A write of STEP_CTL: FRAC is stored, and GO asks for the step, which clears STEP_ARMED and is applied at the next raw
count (R307). A refused GO changes nothing. -/
def State.stepCtl (v mid : Nat) (s : State) : State :=
  let t := s.setRg pgPtp Off.ptpSTEP_CTL (v % 2 ^ 16)
  let size := s.stepSize (v % 2 ^ 16)
  let time := tqAt s.ptp (s.ptp.raw + 1) + size
  if !bitN v 31 then t
  else if !s.stepArmed || s.ptp.step.isSome then s.ptpRefuse Off.ptpSTEP_CTL mid 1
  else if time < 0 ∨ 2 ^ 48 * 10 ^ 9 * 2 ^ 16 ≤ time then s.ptpRefuse Off.ptpSTEP_CTL mid 3
  else { t with ptp := { t.ptp with step := some size } }.setArmed false

def execPtpStepGo (v mid : Nat) (s : State) : Out :=
  .next (onlyIf (bitN v 31) (fun s => s.guarded pgPtp Off.ptpSTEP_CTL mid false (State.stepCtl v mid)) s)

/-- A write of CTL: UNSYNC acts before SYNC, which it replaces (R300, R307). -/
def State.ptpCtl (v mid : Nat) (s : State) : State :=
  if bitN v 1 then (State.setQual 1 s).setArmed true
  else if bitN v 0 then
    (match s.timeQual with
    | 0 => s.ptpRefuse Off.ptpCTL mid 2
    | 2 => s
    | _ => (State.setQual 2 s).setArmed false)
  else s

/-- A write of CTL that carries bit i. -/
def State.ptpCtlWrite (i v mid : Nat) (s : State) : State :=
  onlyIf (bitN v i) (fun s => s.guarded pgPtp Off.ptpCTL mid false (State.ptpCtl v mid)) s

def execPtpSync (v mid : Nat) (s : State) : Out := .next (State.ptpCtlWrite 0 v mid s)
def execPtpUnsync (v mid : Nat) (s : State) : Out := .next (State.ptpCtlWrite 1 v mid s)

/-- KEEPALIVE restarts the watchdog, whose time is the outside world's in this model (log entry 19). -/
def execPtpKeepalive (v mid : Nat) (s : State) : Out := .next (State.ptpCtlWrite 2 v mid s)

/-- SYNC_WD ms have passed without a commit or a KEEPALIVE (R301); a commit of the same count counts (R307). -/
def execPtpSyncWatchdog (s : State) : Out :=
  .next (onlyIf (s.timeQual == 2 && s.mode != 4 && s.ptp.commit.isNone && s.ptp.committed != some s.ptp.raw) (fun s => State.setQual 1 (s.intBit pgPtp 2)) s)

/-- MEDIA_OFS: a write invalidates the anchor (R305). -/
def State.mediaOfs (v : Nat) (s : State) : State := (s.setRg pgPtp Off.ptpMEDIA_OFS v).dropAnchor

def execMediaOfsWrite (v mid : Nat) (s : State) : Out :=
  .next (s.guarded pgPtp Off.ptpMEDIA_OFS mid false (State.mediaOfs v))

/-! ## The ledger (R452) and recovery (R306) -/

/-- The ledger, 48 bits of RTC_CLK edges, after n more of them. -/
def State.ledger (s : State) : Nat := s.rg64 pgPwr Off.pwrLEDGER_LO Off.pwrLEDGER_HI
def State.setLedger (s : State) (n : Nat) : State := s.setRg64 pgPwr Off.pwrLEDGER_LO Off.pwrLEDGER_HI (n % 2 ^ 48)
def State.ledgerCount (s : State) (n : Nat) : State := s.setLedger (s.ledger + n)

/-- The ledger as a read finds it: no command brings the edges of RTC_CLK, so how many have come since it was known last
is a free value (log entry 4); none while RTC_CLK is inactive. -/
def State.ledgerLook (s : State) : State :=
  if s.bit pgPwr Off.pwrRTC_STAT 0 then s.fresh.2.ledgerCount s.fresh.1.toNat else s

/-- A WDOG, SOFT or BLOCK reset: SYNC becomes FREE. -/
def State.ptpKeep (s : State) : State := if s.timeQual = 2 then State.setQual 1 s else s

/-- UNC after a sleep of l edges (R306). -/
def State.sleepUnc (s : State) (l : Nat) : Nat :=
  let prev := if s.timeQual = 3 then s.rg pgPtp Off.ptpUNC else 0
  min (prev + ceilDiv (l * 10 ^ 9 * s.fld pgPtp Off.ptpRTC_TOL 19 0) (32768 * 10 ^ 12)) 0xFFFFFFFF

/-- Recovery from DORMANT or a BOR with l edges of RTC_CLK counted since the stop, valid or not. -/
def State.ledgerRecover (l : Nat) (valid : Bool) (s : State) : State :=
  let at0 := s.pwr.ledgerStop.getD s.ledger
  let s := { s with pwr := { s.pwr with ledgerStop := none } }
  let s := s.setLedger (at0 + l)
  let s := (s.setRg pgPtp Off.ptpSLEEP_LO l).setRg pgPtp Off.ptpSLEEP_HI (l / 2 ^ 32 % 2 ^ 16)
  let s := if s.ptp.commit.isSome || s.ptp.step.isSome then s.timeCount else s
  if valid then
    let unc := s.sleepUnc l
    let s := { s with ptp := { s.ptp with raw := (s.ptp.raw + l * 10 ^ 9 * 2 ^ 25 / s.ptp.rate) % 2 ^ 64 } }
    ((State.setQual 3 s).setRg pgPtp Off.ptpUNC unc).setArmed true
  else ((State.setQual 0 s).setArmed true).intBit pgPtp 4

end Sys2Proof.Machine
end

