-- ==== Sys2Proof/Machine/Net.lean ====
section
/-! DEFINITION. The network ports: rings, received frames, pause, low-power idle, transmission, gate lists and event
timestamps (R265 to R274, R288, R289, R294, R302, R303). -/

namespace Sys2Proof.Machine

/-! ## Rings (R288, R289) -/

/-- A ring by its page and the place of its registers. -/
structure Ring where
  page : Nat
  off : Nat
  deriving DecidableEq, Repr

def State.ringLen (s : State) (r : Ring) : Nat := s.fld r.page (r.off + 8) 15 0
def State.ringHead (s : State) (r : Ring) : Nat := s.fld r.page (r.off + 8) 31 16
def State.ringTail (s : State) (r : Ring) : Nat := s.fld r.page (r.off + 12) 15 0

/-- The ring holds work for hardware. -/
def State.ringWork (s : State) (r : Ring) : Bool := s.ringHead r != s.ringTail r && s.ringLen r != 0

/-- The address of descriptor HEAD. -/
def State.ringAddr (s : State) (r : Ring) : Nat :=
  s.rg r.page r.off / 16 * 16 + s.fld r.page (r.off + 4) 7 0 * 2 ^ 32 + 16 * s.ringHead r

/-- HEAD advances. -/
def State.ringNext (s : State) (r : Ring) : State :=
  s.setFld r.page (r.off + 8) 31 16 (if s.ringHead r + 1 < s.ringLen r then s.ringHead r + 1 else 0)

/-- The descriptor at HEAD: buffer address and length; none where its read gets an error response. -/
def State.ringDesc (s : State) (r : Ring) : Option (Nat × Nat) × State :=
  match s.memRead midStream (s.ringAddr r) 16 with
  | (some bs, s') => (some (leAt bs 0 8 % 2 ^ 40, leAt bs 12 2), s')
  | (none, s') => (none, s')

/-- A write of a ring transfer, which belongs to the control plane: into a slot of a running engine it gets an error
response (R81, R288). -/
def State.ringBus (s : State) (a : Nat) (bs : List Byte) : Bool × State :=
  if (s.slotOwners a bs.length).isEmpty then s.memWriteBus midStream a bs
  else (false, s.slotCapture midStream a bs.length)

/-- BLEN and STATUS written at HEAD. -/
def State.ringStatus (s : State) (r : Ring) (blen st : Nat) : State :=
  (s.ringBus (s.ringAddr r + 12) (toLE 2 blen ++ toLE 2 st)).2

/-- A timestamp put over bytes 0 to 11 of the descriptor at HEAD (R303). -/
def State.ringStamp (s : State) (r : Ring) (t : Int) : State :=
  (s.ringBus (s.ringAddr r)
    (toLE 4 (tqNs t + s.timeQual * 2 ^ 30) ++ toLE 6 (tqSec t) ++ toLE 2 (tqFrac t))).2

/-- What became of a block handed to a receive ring. -/
inductive RingPut
  | full | long | done | lost
  deriving DecidableEq, Repr

/-- Bytes written to the receive ring r, with the status bits beside DONE, and a timestamp for an event frame. A ring
transfer that gets an error response leaves ERR in the descriptor (log entry 24). DESIGN CHOICE. -/
def State.ringPut (s : State) (r : Ring) (bs : List Byte) (flags : Nat) (stamp : Option Int) : RingPut × State :=
  if !s.ringWork r then (.full, s)
  else
    match s.ringDesc r with
    | (none, s) => (.lost, s)
    | (some (addr, blen), s) =>
      if blen < bs.length then (.long, (s.ringStatus r 0 3).ringNext r)
      else
        let w := s.ringBus addr bs
        let s := w.2
        if w.1 then
          let s := s.ringStatus r bs.length (1 + flags + (if stamp.isSome then 4 else 0))
          let s := match stamp with
            | some t => s.ringStamp r t
            | none => s
          (.done, s.ringNext r)
        else (.lost, (s.ringStatus r 0 3).ringNext r)

/-- A write of TAIL. -/
def State.ringTailWrite (r : Ring) (v : Nat) (s : State) : State := s.setRg r.page (r.off + 12) (v % 2 ^ 16)

/-- Ring k of unit u: ports 0 to 4 have the receive ring 0 and transmit rings 1 to 7; 5 and 6 are the message rings of
the Carix ports, 0 outgoing and 1 incoming. -/
def ringOf (u k : Nat) : Option Ring :=
  if u < 5 then
    (if k = 0 then some ⟨pgMac + u, Off.macRXR⟩
    else if k < (if u = 4 then 2 else 8) then some ⟨pgMac + u, Off.macTXQ + 16 * (k - 1)⟩
    else none)
  else if u < 7 ∧ k < 2 then some ⟨pgCrx + (u - 5), Off.crxMTX + 16 * k⟩
  else none

def execRingTailWrite (u : Fin 7) (k : Fin 8) (v mid : Nat) (s : State) : Out :=
  .next (match ringOf u k with
    | some r => s.guarded r.page (r.off + 12) mid false (State.ringTailWrite r v)
    | none => s)

/-! ## Frames (R266, R303). Field places are those of the standards of R264 (log entry 25). PRESUMED. -/

/-- Big-endian fields of a frame. -/
def beAt (bs : List Byte) (off n : Nat) : Nat := ofBE (bytesAt bs off n)

/-- A tagged frame, and where its EtherType's payload begins. -/
def tagged (bs : List Byte) : Bool := beAt bs 12 2 == 0x8100
def l3 (bs : List Byte) : Nat := if tagged bs then 18 else 14
def etherType (bs : List Byte) : Nat := beAt bs (l3 bs - 2) 2

/-- The frame is IPv4 with UDP; where its UDP header begins. -/
def isUdp (bs : List Byte) : Bool := etherType bs == 0x0800 && beAt bs (l3 bs) 1 / 16 == 4 && beAt bs (l3 bs + 9) 1 == 17
def l4 (bs : List Byte) : Nat := l3 bs + beAt bs (l3 bs) 1 % 16 * 4

/-- An IEEE 1588 event frame (R303). -/
def isEvent (bs : List Byte) : Bool :=
  (etherType bs == 0x88F7 && decide (beAt bs (l3 bs) 1 % 16 ≤ 3))
  || (isUdp bs && beAt bs (l4 bs + 2) 2 == 319 && decide (beAt bs (l4 bs + 8) 1 % 16 ≤ 3))

/-- A PAUSE frame, and its quanta. -/
def isPause (bs : List Byte) : Bool := beAt bs 12 2 == 0x8808 && beAt bs 14 2 == 1
def pauseQuanta (bs : List Byte) : Nat := beAt bs 16 2

/-! ## Ports -/

def macReset : Nat → MacSt := fun _ => {}
def State.mac (s : State) (p : Nat) : MacSt := smapGet macReset s.net.mac p
def State.setMac (s : State) (p : Nat) (m : MacSt) : State :=
  { s with net := { s.net with mac := smapSet macReset s.net.mac p m } }

def State.macEn (s : State) (p : Nat) : Bool := s.bit (pgMac + p) Off.macCTL 0 && s.works 2
def State.macCfg (s : State) (p i : Nat) : Bool := s.bit (pgMac + p) Off.macCFG i
def State.macStat (s : State) (p i : Nat) : Bool := s.bit (pgMac + p) Off.macSTAT i
def State.setMacStat (s : State) (p i : Nat) (b : Bool) : State := s.setBit (pgMac + p) Off.macSTAT i b
def State.maxFrame (s : State) (p : Nat) : Nat := s.fld (pgMac + p) Off.macMAX_FRAME 13 0

/-- A 64-bit port counter raised by k; it saturates as counters do (log entry 26). -/
def State.count64 (s : State) (p i k : Nat) : State :=
  let o := Off.macCounters + 8 * i
  s.setRg64 (pgMac + p) o (o + 4) (min (s.rg64 (pgMac + p) o (o + 4) + k) (2 ^ 64 - 1))

/-- The stamp of R302 at the raw count in sixteenths, with the compensation in ps taken off. -/
def State.stampAt (s : State) (raw16 : Nat) (ps : Int) : Int :=
  s.ptp.offset + ((raw16 * s.ptp.rate / 2 ^ 28 : Nat) : Int) - convQ (ps * 8192) 125

/-! ## Receive (R266, R269, R288) -/

/-- The checks of R266 on a frame that ends with its FCS: the counter of a frame that fails. -/
def State.rxCheck (s : State) (p : Nat) (bs : List Byte) : Option Nat :=
  let n := bs.length
  if n < 64 then some 2
  else if s.maxFrame p + (if tagged bs then 4 else 0) < n then some 3
  else if crc32 (bs.take (n - 4)) ≠ leAt bs (n - 4) 4 then some 4
  else none

/-- A frame delivered to the receive ring of port p (R289, R303). -/
def State.rxRing (p raw16 : Nat) (bs : List Byte) (s : State) : State :=
  let ev := isEvent bs
  let stamp := if ev then some (s.stampAt raw16 (s.rgS (pgMac + p) Off.macTS_LAT_RX)) else none
  match s.ringPut ⟨pgMac + p, Off.macRXR⟩ bs ((if tagged bs then 16 else 0) + (if ev then 32 else 0)) stamp with
  | (.done, s) => s.intBit (pgMac + p) 4
  | (.lost, s) => s
  | (_, s) => (s.count64 p 6 1).intBit (pgMac + p) 3

/-- A PAUSE frame accepted by port p (R269, R270). -/
def State.rxPause (p : Nat) (bs : List Byte) (s : State) : State :=
  let s := s.count64 p 5 1
  if s.macCfg p 2 && !s.macStat p 3 then s.setMacStat p 2 (pauseQuanta bs != 0) else s

def execMacPauseFrame (p : Fin 5) (bs : List Byte) (s : State) : Out :=
  .next (onlyIf (s.macEn p && isPause bs) (fun s =>
    match s.rxCheck p bs with
    | some i => s.count64 p i 1
    | none => State.rxPause p bs ((s.count64 p 0 1).count64 p 1 bs.length)) s)

def execPauseEnd (p : Fin 5) (s : State) : Out :=
  .next (onlyIf (s.macStat p 2) (fun s => s.setMacStat p 2 false) s)

/-- The pause has lasted PAUSE_WD (R270). -/
def execPauseWatchdog (p : Fin 5) (s : State) : Out :=
  .next (onlyIf (s.macStat p 2) (fun s =>
    (((s.setMacStat p 2 false).setMacStat p 3 true).count64 p 10 1).intBit (pgMac + p) 1) s)

def execPauseHoldoffEnd (p : Fin 5) (s : State) : Out :=
  .next (onlyIf (s.macStat p 3) (fun s => s.setMacStat p 3 false) s)

/-! ## Link and counters (R265, R268) -/

/-- LINK of port p becomes b. -/
def State.setLink (s : State) (p : Nat) (b : Bool) : State :=
  if s.macStat p 0 = b then s
  else
    let s := (s.setMacStat p 0 b).intBit (pgMac + p) 0
    if b then s else s.count64 p 12 1

/-- LINK follows EN, block lock and the absence of faults (R265). -/
def State.macLink (p : Nat) (s : State) : State := s.setLink p (s.bit (pgMac + p) Off.macCTL 0 && s.macStat p 1 && (s.mac p).clean)

/-- Block lock of port p, and whether no local or remote fault is signalled. -/
def execMacLinkChange (p : Fin 5) (lock clean : Bool) (s : State) : Out :=
  .next (onlyIf (s.pageEn (pgMac + p)) (fun s =>
    State.macLink p ((s.setMacStat p 1 lock).setMac p { s.mac p with clean := clean })) s)

/-- All counters of port p become 0. -/
def State.clearCounters (p : Nat) (s : State) : State :=
  forEach (List.range 27) (fun i st => st.setRg (pgMac + p) (Off.macCounters + 4 * i) 0) s

/-- A write of MAC.CTL. A port that is disabled has no LINK and sends nothing. -/
def State.macCtl (p v : Nat) (s : State) : State :=
  let s := s.setRg (pgMac + p) Off.macCTL (v % 2)
  let s := State.macLink p (if bitN v 0 then s else s.setMac p { clean := (s.mac p).clean })
  if bitN v 1 then State.clearCounters p s else s

def execMacCntClr (p : Fin 5) (v mid : Nat) (s : State) : Out :=
  .next (onlyIf (bitN v 1) (fun s => s.guarded (pgMac + p) Off.macCTL mid false (State.macCtl p v)) s)

/-! ## Gate lists (R273, R294) -/

def gclReset : Nat → GclSt := fun _ => {}
def State.gcl (s : State) (p : Nat) : GclSt := smapGet gclReset s.net.gcl p
def State.setGcl (s : State) (p : Nat) (g : GclSt) : State :=
  { s with net := { s.net with gcl := smapSet gclReset s.net.gcl p g } }
def tsnOff (p o : Nat) : Nat := o + 0x40 * p

/-- CONFIG_PENDING of port p, and its gates as a mask (R273). -/
def State.gclPending (s : State) (p : Nat) : Bool := s.bit pgTsn (tsnOff p Off.tsnP_CTL) 1
def State.gates (s : State) (p : Nat) : Nat :=
  if p < 4 ∧ s.bit pgTsn (tsnOff p Off.tsnP_CTL) 0 then s.fld pgTsn (tsnOff p Off.tsnP_OPER) 31 24 else 0xFF

/-- A write of Pp_CTL: EN, and CHANGE, which writing 1 sets. -/
def State.tsnCtl (p v : Nat) (s : State) : State :=
  let s := s.setBit pgTsn (tsnOff p Off.tsnP_CTL) 0 (bitN v 0)
  if bitN v 1 then s.setBit pgTsn (tsnOff p Off.tsnP_CTL) 1 true else s

def execGclChange (p : Fin 4) (v mid : Nat) (s : State) : Out :=
  .next (onlyIf (bitN v 1) (fun s => s.guarded pgTsn (tsnOff p Off.tsnP_CTL) mid false (State.tsnCtl p v)) s)

/-- Entry i of the oper list takes effect. -/
def State.gateEntry (p i : Nat) (s : State) : State :=
  let o := tsnOff p Off.tsnP_OPER
  (s.setFld pgTsn o 23 16 i).setFld pgTsn o 31 24 (smapGet zeroW (s.gcl p).oper i).toNat

/-- The admin list becomes oper (R273). -/
def State.gclTake (p : Nat) (s : State) : State :=
  let r (o : Nat) := s.rg pgTsn (tsnOff p o)
  let g := s.gcl p
  let base := (r Off.tsnP_BASE_S_LO + 2 ^ 32 * r Off.tsnP_BASE_S_HI) * 10 ^ 9 + r Off.tsnP_BASE_NS
  let cyc := if r Off.tsnP_CYCLE = 0 then 10 ^ 9 else r Off.tsnP_CYCLE
  let n := r Off.tsnP_LEN % 512
  let s := s.setGcl p { g with oper := smapKeep (fun k => decide (k < n)) g.admin, base := base, cycle := cyc }
  let s := (s.setFld pgTsn (tsnOff p Off.tsnP_OPER) 8 0 n).setBit pgTsn (tsnOff p Off.tsnP_CTL) 1 false
  (State.gateEntry p 0 s).intBit pgTsn 1

/-- The first cycle start at or after the change time. -/
def execGclConfigChange (p : Fin 4) (s : State) : Out :=
  .next (onlyIf (s.gclPending p) (State.gclTake p) s)

/-- The interval of the entry in effect ends, or the cycle does (R273): the last entry lasts to the end of the
cycle. -/
def execGateEntryChange (p : Fin 4) (cycleEnd : Bool) (s : State) : Out :=
  .next (onlyIf (s.fld pgTsn (tsnOff p Off.tsnP_OPER) 8 0 != 0) (fun s =>
    let o := tsnOff p Off.tsnP_OPER
    let i := s.fld pgTsn o 23 16
    if cycleEnd then State.gateEntry p 0 s
    else if i + 1 < s.fld pgTsn o 8 0 then State.gateEntry p (i + 1) s
    else s) s)

/-- A write of GCL_DATA: oper lists are read only; an admin list with its change pending refuses it. -/
def State.gclData (v mid : Nat) (s : State) : State :=
  let a := s.rg pgTsn Off.tsnGCL_ADDR
  let p := bitsN a 9 8
  if bitN a 10 then s
  else if s.gclPending p then s.writeErr pgTsn Off.tsnGCL_DATA mid 0
  else
    let g := s.gcl p
    s.setGcl p { g with admin := smapSet zeroW g.admin (bitsN a 7 0) (w32 v) }

def execGclDataWrite (v mid : Nat) (s : State) : Out :=
  .next (s.guarded pgTsn Off.tsnGCL_DATA mid false (State.gclData v mid))

/-- The word that GCL_DATA reads. -/
def State.gclRead (s : State) : Nat :=
  let a := s.rg pgTsn Off.tsnGCL_ADDR
  let g := s.gcl (bitsN a 9 8)
  (smapGet zeroW (if bitN a 10 then g.oper else g.admin) (bitsN a 7 0)).toNat

/-! ## Transmit (R267, R271, R272, R274) -/

/-- The transmit ring that feeds queue q of port p. -/
def txRing (p q : Nat) : Ring := ⟨pgMac + p, Off.macTXQ + 16 * q⟩

/-- A frame of n bytes before its FCS is refused where it is too long with it (R267). -/
def State.tooLong (s : State) (p n : Nat) (tag : Bool) : Bool :=
  decide (s.maxFrame p + (if tag then 4 else 0) < n + 4)

/-- Frames at the head of ring q that are too long are refused, at most n of them (R267). -/
def State.refuseLong (p q : Nat) : Nat → State → State
  | 0, s => s
  | n + 1, s =>
    let r := txRing p q
    if !s.ringWork r then s
    else
      match s.ringDesc r with
      | (none, s) => s
      | (some (addr, blen), s) =>
        let b := s.memRead midStream addr (min blen 14)
        if s.tooLong p blen (b.1.any tagged) then
          let a := s.ringAddr r
          let s := (b.2.ringStatus r blen 0x9).count64 p 9 1
          State.refuseLong p q n ((s.raiseErr (pgMac + p) 2 4 a midStream (accType true false false 8)).ringNext r)
        else s

/-- A frame as sent: padded to 60 bytes, and its FCS appended (R267). -/
def withFcs (bs : List Byte) : List Byte :=
  let f := bs ++ List.replicate (60 - bs.length) 0
  f ++ toLE 4 (crc32 f)

/-- The frame at the head of ring q as it is sent; none where there is none, or its buffer cannot be read. -/
def State.ringFrame (s : State) (p q : Nat) : Option (List Byte) :=
  let r := txRing p q
  if s.ringWork r then
    (match s.ringDesc r with
    | (some (addr, blen), s) =>
      ((s.memRead midStream addr blen).1).map withFcs
    | (none, _) => none)
  else none

/-- The bit rate of port p in Mb/s. MACM's is that of its link, 1,000. -/
def State.mbps (s : State) (p : Nat) : Nat := if 4 ≤ p then 1000 else if s.macCfg p 0 then 25000 else 10000

/-- A frame of n bytes with its FCS, its preamble and the gap end before left ns have passed. -/
def State.endsBefore (s : State) (p n left : Nat) : Bool := decide ((n + 20) * 8 * 1000 < left * s.mbps p)

/-- The idle slope of queue q, 5 or 6, in kb/s, 0 where its shaper is off; its credit. -/
def State.slope (s : State) (p q : Nat) : Nat :=
  if p < 4 ∧ (q = 5 ∨ q = 6) then s.rg pgTsn (tsnOff p (if q = 5 then Off.tsnP_CBS5 else Off.tsnP_CBS6)) else 0
def MacSt.credit (m : MacSt) (q : Nat) : Int := if q = 5 then m.credit5 else m.credit6

/-- Queue q of port p may start a frame of n bytes: its gate is open and stays so until the frame has ended, it is not
paused, and its shaper has credit (R269, R272 to R274). left: ns to the end of each gate. -/
def State.mayStart (s : State) (p q n : Nat) (left : List Nat) : Bool :=
  bitN (s.gates p) q
  && (!(decide (p < 4) && s.bit pgTsn (tsnOff p Off.tsnP_CTL) 0) || s.endsBefore p n (left.getD q 0))
  && (q == 7 || !s.macStat p 2)
  && (s.slope p q == 0 || decide (0 ≤ (s.mac p).credit q))

/-- The frame that queue q would send next: a stream's packet before a ring's (log entry 27). DESIGN CHOICE. -/
def State.queueHead (s : State) (p q : Nat) : Option (TxItem × Nat) :=
  match (s.mac p).q.find? (fun x => x.queue == q) with
  | some x => some (.strm x, x.frame.length)
  | none =>
    if q < (if 4 ≤ p then 1 else 7) then (s.ringFrame p q).map (fun bs => (.ring q bs, bs.length)) else none

/-- What the port would send, from the highest queue down. -/
def State.nextFrame (s : State) (p : Nat) (left : List Nat) : Option TxItem :=
  ((List.range 8).reverse.filterMap (fun q =>
    match s.queueHead p q with
    | some (x, n) => if s.mayStart p q n left then some x else none
    | none => none)).head?

/-- The port starts a frame (R272). A stream's packet leaves its queue; a ring's frame stays at HEAD until sent. -/
def State.txStart (p : Nat) (left : List Nat) (s : State) : State :=
  let s := forEach (List.range (if 4 ≤ p then 1 else 7)) (fun q st => State.refuseLong p q (st.ringLen (txRing p q)) st) s
  match s.nextFrame p left with
  | some (.strm x) => let m := s.mac p; s.setMac p { m with q := m.q.erase x, tx := some (.strm x) }
  | some x => s.setMac p { s.mac p with tx := some x }
  | none => s

/-- woken: EEE_TW has passed since LPI ended; a frame waits for that (R271), and so is held back where the wake would
make it too late for its gate (R272). -/
def execMacTxStart (p : Fin 5) (left : List Nat) (woken : Bool) (s : State) : Out :=
  .next (onlyIf (s.macEn p && s.macStat p 0 && (s.mac p).tx.isNone && !s.macStat p 4 && (woken || !(s.mac p).waking))
    (fun s => State.txStart p left (s.setMac p { s.mac p with waking := false })) s)

/-- The frame in progress has been sent, its timestamp point at the raw count in sixteenths (R289, R302, R303). -/
def State.txDone (p raw16 : Nat) (s : State) : State :=
  let m := s.mac p
  match m.tx with
  | none => s
  | some (.strm x) => ((s.setMac p { m with tx := none }).count64 p 7 1).count64 p 8 x.frame.length
  | some (.ring q bs) =>
    let r := txRing p q
    let s := ((s.setMac p { m with tx := none }).count64 p 7 1).count64 p 8 bs.length
    let ev := isEvent bs
    let d := s.ringDesc r
    let s := d.2.ringStatus r ((d.1.map (fun x => x.2)).getD 0) (1 + (if ev then 4 + 32 else 0))
    let s := if ev then s.ringStamp r (s.stampAt raw16 (-(s.rgS (pgMac + p) Off.macTS_LAT_TX))) else s
    (s.ringNext r).intBit (pgMac + p) 5

def execMacTxDone (p : Fin 5) (raw16 : Nat) (s : State) : Out :=
  .next (onlyIf (s.mac p).tx.isSome (State.txDone p raw16) s)

/-- Queue q holds a frame. -/
def State.queued (s : State) (p q : Nat) : Bool :=
  (s.mac p).q.any (fun x => x.queue == q) || (decide (q < 7) && s.ringWork (txRing p q))

/-- Transmit LPI may be asserted: no frame could be sent, and queue 7's gate does not open within EEE_TW + EEE_GUARD µs;
opens: the ns until it opens next, absent where no list is in effect (R271). -/
def State.lpiOk (s : State) (p : Nat) (left : List Nat) (opens : Option Nat) : Bool :=
  (s.mac p).tx.isNone && (s.nextFrame p left).isNone
  && opens.all (fun t => decide (1000 * (s.fld (pgMac + p) Off.macEEE_TW 15 0 + s.fld (pgMac + p) Off.macEEE_GUARD 15 0) < t))

/-- EEE_IDLE µs have passed without anything sendable; rx: the partner asserts LPI, which every media port accepts. -/
def execLpiEnter (p : Fin 4) (rx : Bool) (left : List Nat) (opens : Option Nat) (s : State) : Out :=
  .next (
    if rx then onlyIf (s.macEn p) (fun s => s.setMacStat p 5 true) s
    else onlyIf (s.macEn p && s.macCfg p 3 && !s.macStat p 4 && s.lpiOk p left opens)
      (fun s => (s.setMacStat p 4 true).count64 p 11 1) s)

/-- Transmit LPI ends, and EEE_TW begins; rx: the partner's LPI ends. -/
def execLpiExit (p : Fin 4) (rx : Bool) (s : State) : Out :=
  .next (
    if rx then s.setMacStat p 5 false
    else onlyIf (s.macStat p 4) (fun s => (s.setMacStat p 4 false).setMac p { s.mac p with waking := true }) s)

/-! ## Time passes (R274, R295) -/

/-- The queue of the frame in progress. -/
def TxItem.queue : TxItem → Nat
  | .ring q _ => q
  | .strm x => x.queue

/-- The credit of queue q of port p after one raw count of 2 ns (R274): spent while the queue transmits, held while its
gate is closed, gained while a frame waits or it is below 0. -/
def State.creditNext (s : State) (p q : Nat) : Int :=
  let i : Int := s.slope p q
  let c := (s.mac p).credit q
  if i = 0 ∨ !bitN (s.gates p) q then c
  else if (s.mac p).tx.any (fun x => x.queue == q) then c + 2 * (i - (1000 * s.mbps p : Nat))
  else if s.queued p q then c + 2 * i
  else if c < 0 then min 0 (c + 2 * i)
  else c

/-- The shapers of all ports run for one raw count. -/
def State.shapers (s : State) : State :=
  forEach ((List.range 4).filter (fun p => s.macEn p && (s.slope p 5 != 0 || s.slope p 6 != 0))) (fun p st =>
    st.setMac p { st.mac p with credit5 := st.creditNext p 5, credit6 := st.creditNext p 6 }) s

end Sys2Proof.Machine
end

