-- ==== Sys2Proof/Machine/Strm.lean ====
section
/-! DEFINITION. Audio streams: descriptors, start checks, packets in and out, the jitter buffer, losses, and the media
count (R276 to R287). The samples of a receive stream lie in the shared store, sample by sample in rings of JB_LEN
samples (log entry 28). DESIGN CHOICE. -/

namespace Sys2Proof.Machine

def rxReset : Nat → RxStrm := fun _ => {}
def txReset : Nat → TxStrm := fun _ => {}
def State.rxs (s : State) (n : Nat) : RxStrm := smapGet rxReset s.net.rx n
def State.setRxs (s : State) (n : Nat) (r : RxStrm) : State :=
  { s with net := { s.net with rx := smapSet rxReset s.net.rx n r } }
def State.txs (s : State) (n : Nat) : TxStrm := smapGet txReset s.net.tx n
def State.setTxs (s : State) (n : Nat) (r : TxStrm) : State :=
  { s with net := { s.net with tx := smapSet txReset s.net.tx n r } }

/-! ## Descriptors and counters (R292) -/

def State.setDesc (s : State) (d n i v : Nat) : State :=
  { s with net := { s.net with desc := smapSet zeroW s.net.desc (sKey d n i) (w32 v) } }

/-- Counter i of a stream raised by k, saturating. -/
def State.sCount (s : State) (d n i k : Nat) : State :=
  { s with net := { s.net with cnt := smapMod zeroW s.net.cnt (sKey d n i) (fun w => w32 (satAdd32 w.toNat k)) } }

/-- Fields of a stream: PROTO, WIDTH, n, CH_BASE, PORT, P, bytes of a sample. -/
def State.sProto (s : State) (d n : Nat) : Nat := s.sd d n 0 1 0
def State.sWidth (s : State) (d n : Nat) : Nat := s.sd d n 0 3 2
def State.sDiv (s : State) (d n : Nat) : Nat := 2 ^ s.sd d n 0 5 4
def State.sBase (s : State) (d n : Nat) : Nat := s.sd d n 1 10 0
def State.sPort (s : State) (d n : Nat) : Nat := s.sd d n 1 17 16
def State.sP (s : State) (d n : Nat) : Nat := s.sd d n 4 7 0
def State.sBytes (s : State) (d n : Nat) : Nat := s.sWidth d n + 2

/-- LINK of a receive stream. -/
def State.sLink (s : State) (n : Nat) : Nat := s.fld pgStrm (Off.strmPGRP + 4 * s.sd 0 n 0 11 8) 15 0

/-- The frame length of a packet (R278); a receive descriptor has no TAGGED and no TERM_EXT. -/
def State.pktLen (s : State) (d n : Nat) : Nat :=
  let pay := s.sChans d n * s.sP d n * s.sBytes d n
  if s.sProto d n = 0 then 14 + 4 * d * s.sd d n 0 13 13 + 40 + 12 * d * s.sd d n 0 12 12 + pay + 4
  else 14 + 4 * d * s.sd d n 0 13 13 + 24 + pay + 4

/-! ## Starting and stopping (R278, R287) -/

/-- The start checks of R278 that both directions share. -/
def State.strmOkBoth (s : State) (d n : Nat) : Bool :=
  let p := s.sP d n
  let ch := s.sChans d n
  ((s.sProto d n == 0 && decide (s.sWidth d n ≤ 1)) || (s.sProto d n == 1 && (s.sWidth d n == 1 || s.sWidth d n == 2)))
  && decide (1 ≤ p) && decide (p ≤ 192) && s.sd d n 0 5 4 != 3 && decide (p * s.sDiv d n * 1000 ≤ s.fs)
  && decide (ch ≤ 64) && decide (s.sBase d n + ch ≤ s.chanCap)
  && ((List.range 256).filter (fun m => m != n && s.strmRuns d m)).all (fun m =>
      !rangesMeet (s.sBase d n, s.sBase d n + ch) (s.sBase d m, s.sBase d m + s.sChans d m))
  && decide (s.pktLen d n ≤ s.maxFrame (s.sPort d n) + 4 * d * s.sd d n 0 13 13)

/-- The start checks of a receive stream. -/
def State.rxOk (s : State) (n : Nat) : Bool :=
  let a := s.jbAt n
  let span := s.sP 0 n * s.sDiv 0 n
  s.strmOkBoth 0 n && decide (span ≤ s.sLink n) && decide (s.sLink n + span + s.T ≤ s.jbLen n)
  && decide (a + s.jbBytes n ≤ s.jbRange.2)
  && ((List.range 256).filter (fun m => m != n && s.strmRuns 0 m)).all (fun m =>
      !rangesMeet (a, a + s.jbBytes n) (s.jbAt m, s.jbAt m + s.jbBytes m))

/-- The destinations of a transmit stream all carry the Class 1 mark. -/
def State.allC1 (s : State) (n : Nat) : Bool :=
  (List.range (s.sChans 1 n)).all (fun c => entC1 (s.liveEntry (s.sBase 1 n + c)))

/-- The start checks of a transmit stream. -/
def State.txOk (s : State) (n : Nat) : Bool :=
  s.strmOkBoth 1 n && (s.sd 1 n 0 10 8 != 7 || s.allC1 n)

/-- Stream n of a direction starts or is refused. -/
def State.strmStart (d n : Nat) (s : State) : State :=
  if (if d = 0 then s.rxOk n else s.txOk n) then
    let s := s.setBit pgStrm (strmEnOff d n) (n % 32) true
    if d = 0 then s.setRxs n { d := { ph := 2, last := List.replicate (s.sChans 0 n) 0 } }
    else s.setTxs n { count := 0, next := s.tick * s.T }
  else s.pageErr pgStrm 2 0

/-- Stream n of a direction stops: a packet that is queued is still sent. -/
def State.strmStop (d n : Nat) (s : State) : State :=
  let s := s.setBit pgStrm (strmEnOff d n) (n % 32) false
  if d = 0 then s.setRxs n {} else s.setTxs n {}

/-- The landed enables of all streams. -/
def State.strmLand (s : State) : State :=
  forEach ((List.range 2).flatMap (fun d => (List.range 256).map (fun n => (d, n)))) (fun x st =>
    let d := x.1
    let n := x.2
    let new := bitN (st.eff pgStrm ((if d = 0 then Off.strmRX_EN_NX else Off.strmTX_EN_NX) + 4 * (n / 32))) (n % 32)
    if new && !st.strmRuns d n then State.strmStart d n st
    else if !new && st.strmRuns d n then State.strmStop d n st
    else st) s

/-- The running streams of queue 7, each with its destinations that carry the Class 1 mark. -/
def State.c1Streams (s : State) : List (Nat × List Nat) :=
  ((List.range 256).filter (fun n => s.strmRuns 1 n && s.sd 1 n 0 10 8 == 7)).map (fun n =>
    (n, ((List.range (s.sChans 1 n)).map (fun c => s.sBase 1 n + c)).filter (fun d => entC1 (s.liveEntry d))))

/-- After a SWAP: the streams that were running so and have lost a mark (R281). -/
def State.c1Lost (before : List (Nat × List Nat)) (s : State) : State :=
  forEach (before.filter (fun b => b.2.any (fun d => !entC1 (s.liveEntry d)))) (fun _ st => st.pageErr pgStrm 2 5) s

/-! ## The media count (R279) -/

def State.mcOfs (s : State) : Nat := s.rg64 pgStrm Off.strmMC_OFS_LO Off.strmMC_OFS_HI

/-- m(a), and the position whose media count is m. -/
def State.mediaCount (s : State) (a : Nat) : Nat := (a + s.mcOfs) % 2 ^ 64
def State.mediaPos (s : State) (m : Nat) : Nat := (m % 2 ^ 64 + 2 ^ 64 - s.mcOfs) % 2 ^ 64

/-- A stream of either direction runs. -/
def State.anyStream (s : State) : Bool := (List.range 512).any (fun x => s.strmRuns (x / 256) (x % 256))

/-- A write of half of MC_OFS: refused while any stream runs; the write completes normally (R499). One of the upper
half loads the latch of the pair (R9). -/
def State.mcOfsWrite (hi : Bool) (v mid : Nat) (s : State) : State :=
  let o := if hi then Off.strmMC_OFS_HI else Off.strmMC_OFS_LO
  if s.anyStream then s.writeErr pgStrm o mid 0
  else
    let s := s.setRg pgStrm o v
    if hi then s.setLatch pgStrm o v else s

def execMcOfsWrite (hi : Bool) (v mid : Nat) (s : State) : Out :=
  .next (s.guarded pgStrm (if hi then Off.strmMC_OFS_HI else Off.strmMC_OFS_LO) mid false (State.mcOfsWrite hi v mid))

/-- An entry into LOCK on the PTP media reference with AUTO sets MC_OFS to K. -/
def State.mcAuto (s : State) : State :=
  if s.pageEn pgStrm && s.bit pgStrm Off.strmMC_CFG 0 then
    s.setRg64 pgStrm Off.strmMC_OFS_LO Off.strmMC_OFS_HI (s.rg64 pgPtp Off.ptpANCHOR_LO Off.ptpANCHOR_HI)
  else s

/-! ## Transmit (R280, R285) -/

/-- The first position that the next packet of stream n may cover: none whose tick was not taken, and none before the
first release after QUIET (R287). -/
def State.txFrom (s : State) (n : Nat) : Nat :=
  max (max (s.txs n).next (s.sig.since * s.T)) (match s.sig.hist.getLast? with | some h => h.1 * s.T | none => 0)

/-- The first stream index of the next packet of stream n, and the last position it covers. -/
def State.nextPacket (s : State) (n : Nat) : Nat × Nat :=
  let d := s.sDiv 1 n
  let i := ceilDiv (s.mediaCount (s.txFrom n)) (d * s.sP 1 n) * s.sP 1 n
  (i, s.mediaPos ((i + s.sP 1 n - 1) * d))

/-- The time of position a in ns, rounded down (R304, R305). -/
def State.posTime (s : State) (a : Nat) : Int :=
  let t : Int := (s.mediaCount a * 10 ^ 9 / s.fs : Nat)
  t + toSigned 32 (s.rg pgPtp Off.ptpMEDIA_OFS)

/-- The ones' complement sum of 16-bit words. -/
def sum16 : List Byte → Nat
  | a :: b :: bs => a.toNat * 256 + b.toNat + sum16 bs
  | [a] => a.toNat * 256
  | [] => 0
def fold16 (n : Nat) : Nat := let m := n % 2 ^ 16 + n / 2 ^ 16; m % 2 ^ 16 + m / 2 ^ 16

/-- The AAF rate code of a rate in Hz. -/
def nsrOf (hz : Nat) : Nat :=
  match hz with
  | 44100 => 4 | 48000 => 5 | 88200 => 6 | 96000 => 7 | 176400 => 8 | 192000 => 9 | 24000 => 10 | 16000 => 2 | 32000 => 3
  | _ => 0

/-- A field of a frame, most significant byte first. -/
def be (n v : Nat) : List Byte := (toLE n v).reverse

/-! The headers of a packet: places are those of the standards of R264; what neither they nor the specification fixes is
a constant of Config (log entries 25 and 88). PRESUMED. -/

/-- The Ethernet header of stream n: destination, the port's own address, tag, EtherType (R290, R292). -/
def State.ethHead (s : State) (n ty : Nat) : List Byte :=
  let page := pgMac + s.sPort 1 n
  be 2 (s.sd 1 n 8 15 0) ++ be 4 (s.sd 1 n 7 31 0) ++ be 2 (s.rg page Off.macADDR_HI) ++ be 4 (s.rg page Off.macADDR_LO)
  ++ (if s.sd 1 n 0 13 13 = 1 then be 2 0x8100 ++ be 2 (s.sd 1 n 4 30 28 * 2 ^ 13 + s.sd 1 n 4 27 16) else []) ++ be 2 ty

/-- Source and destination address of an RTP packet. -/
def State.ipPair (s : State) (n : Nat) : List Byte :=
  be 4 (s.rg (pgMac + s.sPort 1 n) Off.macIPV4) ++ be 4 (s.sd 1 n 2 31 0)

/-- The IPv4 header of packet k of stream n before len bytes, with its checksum. -/
def State.ipHead (s : State) (n k len : Nat) : List Byte :=
  let h (sum : Nat) : List Byte :=
    [0x45, Config.ipTos] ++ be 2 (20 + len) ++ be 2 (Config.ipId n k).toNat ++ be 2 Config.ipFrag.toNat
    ++ [Config.ipTtl, 17] ++ be 2 sum ++ s.ipPair n
  h (0xFFFF - fold16 (sum16 (h 0)))

/-- The UDP datagram of stream n with its payload; its checksum is right, or 0 for none. -/
def State.udpData (s : State) (n : Nat) (pay : List Byte) : List Byte :=
  let len := 8 + pay.length
  let d (sum : Nat) : List Byte := be 2 (s.sd 1 n 3 31 16) ++ be 2 (s.sd 1 n 3 15 0) ++ be 2 len ++ be 2 sum ++ pay
  let c := 0xFFFF - fold16 (sum16 (s.ipPair n ++ be 2 17 ++ be 2 len ++ d 0))
  d (if Config.udpSum then (if c = 0 then 0xFFFF else c) else 0)

/-- The header extension that carries a term (R285). -/
def State.termExt (s : State) (term : Option Nat) : List Byte :=
  match term with
  | none => []
  | some t => be 2 0xBEDE ++ be 2 2 ++ be 1 (s.fld pgStrm Off.strmTERM_CFG 3 0 * 16 + 3) ++ be 4 t ++ [0, 0, 0]

/-- An RTP packet. -/
def State.rtpPacket (s : State) (n seq stamp : Nat) (term : Option Nat) (pay : List Byte) : List Byte :=
  be 1 (0x80 + 16 * b2n term.isSome) ++ be 1 (128 * b2n Config.rtpMarker + s.sd 1 n 4 15 8 % 128) ++ be 2 seq
  ++ be 4 stamp ++ be 4 (s.sd 1 n 5 31 0) ++ s.termExt term ++ pay

/-- The header of an AAF packet before its payload: its rate field is the rate of the stream (R277). -/
def State.aafHead (s : State) (n seq stamp : Nat) (pay : List Byte) : List Byte :=
  [0x02, 0x81] ++ be 1 seq ++ be 1 (b2n Config.aafUncertain) ++ be 4 (s.sd 1 n 3 31 0) ++ be 4 (s.sd 1 n 2 31 0)
  ++ be 4 stamp ++ be 1 (if s.sWidth 1 n = 2 then 2 else 3)
  ++ be 2 (nsrOf (s.fs / s.sDiv 1 n) * 2 ^ 12 + s.sChans 1 n) ++ be 1 (8 * s.sBytes 1 n) ++ be 2 pay.length
  ++ be 1 Config.aafEvent.toNat ++ [0]

/-- The sample of channel c of stream n at position a as it is sent; a channel beyond the capacity in force takes
nothing from the router and sends 0 (R150). -/
def State.txSample (s : State) (n c a : Nat) : Nat :=
  let bits := 8 * s.sBytes 1 n
  if s.chanCap ≤ s.sBase 1 n + c then 0
  else slotOut bits bits (s.sd 1 n 0 11 11 == 1) (BitVec.ofInt 32 (s.taken (s.sBase 1 n + c) a))

/-- The packet with first index i, as the unit forms it. -/
def State.packet (s : State) (n i : Nat) : StrmPkt :=
  let d := s.sDiv 1 n
  let rtp := s.sProto 1 n == 0
  let k := (s.txs n).count
  let seq := (s.sd 1 n 6 15 0 + k) % (if rtp then 2 ^ 16 else 2 ^ 8)
  let stamp := if rtp then i % 2 ^ 32 else ofSigned 32 (s.posTime (s.mediaPos (i * d)) + (s.sd 1 n 9 31 0 : Nat))
  let term := if rtp && s.sd 1 n 0 12 12 == 1 then some (s.rg pgPair Off.pairTERM) else none
  let samples := (List.range (s.sP 1 n)).flatMap (fun j => (List.range (s.sChans 1 n)).map (fun c =>
    s.txSample n c (s.mediaPos ((i + j) * d))))
  let pay := samples.flatMap (be (s.sBytes 1 n))
  let body :=
    if rtp then
      let u := s.udpData n (s.rtpPacket n seq stamp term pay)
      s.ethHead n 0x0800 ++ s.ipHead n k u.length ++ u
    else s.ethHead n 0x22F0 ++ s.aafHead n seq stamp pay ++ pay
  { strm := n, queue := s.sd 1 n 0 10 8, seq := seq, stamp := stamp, term := term, samples := samples
    frame := withFcs body }

/-- A packet of stream n that is still queued at its port goes: TX_LATE (R280). -/
def State.txLate (n : Nat) (s : State) : State :=
  let p := s.sPort 1 n
  let m := s.mac p
  if m.q.any (fun y => y.strm == n) then
    ((s.setMac p { m with q := m.q.filter (fun y => y.strm != n) }).sCount 1 n 1 1).intBit pgStrm 4
  else s

/-- A packet is placed in a queue of port p, or refused there where it is too long (R267); it has no descriptor, so the
capture holds the base of the port's page (log entry 99). DESIGN CHOICE. -/
def State.txEnqueue (p : Nat) (x : StrmPkt) (s : State) : State :=
  if s.tooLong p (x.frame.length - 4) (tagged x.frame) then (s.count64 p 9 1).pageErr (pgMac + p) 2 4 midStream
  else s.setMac p { s.mac p with q := (s.mac p).q ++ [x] }

/-- The launch instant of the next packet of stream n: it is formed, and sent where the unit drives its outputs. -/
def State.launch (n : Nat) (s : State) : State :=
  let r := s.nextPacket n
  let x := s.packet n r.1
  let p := s.sPort 1 n
  let s := State.txLate n ((s.setTxs n { count := (s.txs n).count + 1, next := r.2 + 1 }).sCount 1 n 0 1)
  if !s.macStat p 0 then s.sCount 1 n 2 1
  else if s.inShadow then s
  else State.txEnqueue p x s

/-- All ticks that the packet covers have been taken, and the unit's outputs are not behind the fence. -/
def execStreamTxPacket (n : Fin 256) (s : State) : Out :=
  .next (onlyIf (s.strmRuns 1 n && (s.mode == 1 || s.mode == 2) && !s.agentStopped 7 && !s.pair.fenced
    && s.sig.hist.any (fun h => decide ((s.nextPacket n).2 / s.T ≤ h.1))) (State.launch n) s)

/-! ## Receive (R282, R283, R286). Field places are those of the standards of R264 (log entry 25). PRESUMED. -/

/-- The header checksum of IPv4 is right; the UDP checksum is right or 0. -/
def ipOk (bs : List Byte) : Bool := fold16 (sum16 (bytesAt bs (l3 bs) (l4 bs - l3 bs))) == 0xFFFF
def udpOk (bs : List Byte) : Bool :=
  let n := beAt bs (l4 bs + 4) 2
  beAt bs (l4 bs + 6) 2 == 0
    || fold16 (sum16 (bytesAt bs (l3 bs + 12) 8) + 17 + n + sum16 (bytesAt bs (l4 bs) n)) == 0xFFFF

/-- The RTP header of a frame begins here, and its extension there. -/
def rtpAt (bs : List Byte) : Nat := l4 bs + 8
def rtpExt (bs : List Byte) : Nat := rtpAt bs + 12 + 4 * (beAt bs (rtpAt bs) 1 % 16)
def hasExt (bs : List Byte) : Bool := bitN (beAt bs (rtpAt bs) 1) 4
def rtpData (bs : List Byte) : Nat := if hasExt bs then rtpExt bs + 4 + 4 * beAt bs (rtpExt bs + 2) 2 else rtpExt bs

/-- The four data bytes of element id of a one-byte header extension. -/
def findTerm (id : Nat) : Nat → List Byte → Option Nat
  | 0, _ => none
  | _, [] => none
  | n + 1, b :: bs =>
    if b = 0 then findTerm id n bs
    else if b.toNat / 16 = id ∧ b.toNat % 16 = 3 then some (ofBE (bs.take 4))
    else findTerm id n (bs.drop (b.toNat % 16 + 1))

/-- The term that a frame carries (R285, R286). -/
def termOf (id : Nat) (bs : List Byte) : Option Nat :=
  if hasExt bs && beAt bs (rtpExt bs) 2 == 0xBEDE then
    findTerm id 64 (bytesAt bs (rtpExt bs + 4) (4 * beAt bs (rtpExt bs + 2) 2))
  else none

/-- The payload cut into stream samples of ch samples of b bytes. -/
def cutSamples (b ch : Nat) (bs : List Byte) : List (List Nat) :=
  (List.range (bs.length / (b * ch))).map (fun i => (List.range ch).map (fun c => beAt bs ((i * ch + c) * b) b))

/-- The frame's address and port, or stream ID, are those of receive stream n. -/
def State.rxMatch (s : State) (n : Nat) (bs : List Byte) : Bool :=
  if s.sProto 0 n = 0 then
    isUdp bs && beAt bs (l3 bs + 16) 4 == s.sd 0 n 2 31 0 && beAt bs (l4 bs + 2) 2 == s.sd 0 n 3 15 0
  else
    etherType bs == 0x22F0 && beAt bs (l3 bs) 1 == 2
    && beAt bs (l3 bs + 4) 8 == s.sd 0 n 2 31 0 + 2 ^ 32 * s.sd 0 n 3 31 0

/-- The fields that a matching frame must pass. -/
def State.rxFields (s : State) (n : Nat) (bs : List Byte) : Bool :=
  if s.sProto 0 n = 0 then ipOk bs && udpOk bs && beAt bs (rtpAt bs + 1) 1 % 128 == s.sd 0 n 4 15 8
  else
    beAt bs (l3 bs + 16) 1 == (if s.sWidth 0 n = 2 then 2 else 3)
    && beAt bs (l3 bs + 17) 1 / 16 == nsrOf (s.fs / s.sDiv 0 n)

/-- The packet in a frame of receive stream n. -/
def State.rxPkt (s : State) (n : Nat) (bs : List Byte) : RxPkt :=
  let b := s.sBytes 0 n
  let ch := s.sChans 0 n
  if s.sProto 0 n = 0 then
    { seq := beAt bs (rtpAt bs + 2) 2, stamp := beAt bs (rtpAt bs + 4) 4
      term := termOf (s.fld pgStrm Off.strmTERM_CFG 3 0) bs
      samples := cutSamples b ch (bytesAt bs (rtpData bs) (l4 bs + beAt bs (l4 bs + 4) 2 - rtpData bs)) }
  else
    { seq := beAt bs (l3 bs + 2) 1, stamp := beAt bs (l3 bs + 12) 4, term := none
      samples := cutSamples b ch (bytesAt bs (l3 bs + 24) (beAt bs (l3 bs + 20) 2)) }

/-- Stream n takes a frame that matches it, or counts it where a field test fails (R282). -/
def State.rxTake (bs : List Byte) (n : Nat) (s : State) : State :=
  if s.rxFields n bs then
    let r := s.rxs n
    s.setRxs n { r with pend := r.pend ++ [s.rxPkt n bs] }
  else s.sCount 0 n 7 1

/-- An accepted frame of port p goes to every stream it belongs to, or to the receive ring where it belongs to none
(R282, R288). In QUIET streams discard what they receive. -/
def State.rxRoute (p raw16 : Nat) (bs : List Byte) (s : State) : State :=
  let ns := (List.range 256).filter (fun n => s.strmRuns 0 n && s.sPort 0 n == p && s.rxMatch n bs)
  if ns.isEmpty then State.rxRing p raw16 bs s
  else if s.mode = 3 then s
  else forEach ns (State.rxTake bs) s

/-- A frame that is not a PAUSE frame ends on port p, its timestamp point at the raw count in sixteenths. -/
def execMacRxFrame (p : Fin 5) (bs : List Byte) (raw16 : Nat) (s : State) : Out :=
  .next (onlyIf (s.macEn p && !isPause bs) (fun s =>
    match s.rxCheck p bs with
    | some i => s.count64 p i 1
    | none =>
      let s := (s.count64 p 0 1).count64 p 1 bs.length
      if p.val = 4 then State.rxRing 4 raw16 bs s else State.rxRoute p raw16 bs s) s)

/-- The integer congruent to lo modulo 2^32 that lies nearest to x. -/
def nearest32 (x : Int) (lo : Nat) : Int := x + toSigned 32 (ofSigned 32 ((lo : Int) - x))

/-- The stream index of a packet's first sample (R283). -/
def State.rxIndex (s : State) (n : Nat) (x : RxPkt) : Int :=
  if s.sProto 0 n = 0 then nearest32 ((s.mediaCount (s.tick * s.T) / s.sDiv 0 n : Nat)) x.stamp
  else
    let t := nearest32 (s.tq / 2 ^ 16) (ofSigned 32 ((x.stamp : Int) - s.sd 0 n 7 31 0))
    let m := convQ ((t - toSigned 32 (s.rg pgPtp Off.ptpMEDIA_OFS)) * s.fs) (10 ^ 9)
    convQ m (s.sDiv 0 n)

/-- The position at which stream index i is presented. -/
def State.rxPos (s : State) (n : Nat) (i : Int) : Nat := s.mediaPos (ofSigned 64 (i * s.sDiv 0 n + s.sLink n))

/-- The store address of position a of receive stream n. -/
def State.jbCell (s : State) (n a : Nat) : Nat := s.jbAt n + a % s.jbLen n * (4 * s.sChans 0 n)

/-- One sample of a packet: late, early, duplicate, or written (R283); term is that of its packet, 0 for none, plus 1.
-/
def State.rxSample (n : Nat) (term : Nat) (i : Int) (ws : List Nat) (s : State) : State :=
  let a := s.rxPos n i
  let r := s.rxs n
  if a / s.T ≤ s.tick then (s.sCount 0 n 1 1).intBit pgStrm 2
  else if (s.esc.running + 1) * s.T + s.jbLen n ≤ a then s.sCount 0 n 2 1
  else if r.fill.contains (a, term) then s.sCount 0 n 4 1
  else
    let bits := 8 * s.sBytes 0 n
    let w := s.memWriteBus midStream (s.jbCell n a) (ws.flatMap (fun d => toLE 4 (d * 2 ^ (32 - bits))))
    w.2.setRxs n { r with fill := r.fill.filter (fun f => f.1 != a) ++ [(a, term)] }

/-- The oldest accepted packet of stream n is written to its buffer (R283, R286). -/
def State.rxWrite (n : Nat) (s : State) : State :=
  let r := s.rxs n
  match r.pend with
  | [] => s
  | x :: rest =>
    let s := (s.setRxs n { r with pend := rest }).sCount 0 n 0 1
    let hi := s.sd 0 n 8 31 0
    let chk := s.sd 0 n 0 12 12 == 1
    if chk && x.term.any (fun t => decide (t < hi)) then (s.sCount 0 n 5 1).intBit pgStrm 3
    else
      let s := if chk && decide (hi < x.term.getD 0) then s.setDesc 0 n 8 (x.term.getD 0) else s
      let s := if r.seq.any (fun q => q != x.seq) then s.sCount 0 n 6 1 else s
      let mod := if s.sProto 0 n = 0 then 2 ^ 16 else 2 ^ 8
      let s := s.setRxs n { s.rxs n with seq := some ((x.seq + 1) % mod) }
      let i := s.rxIndex n x
      forEach (List.range x.samples.length) (fun k st =>
        State.rxSample n (x.term.elim 0 (· + 1)) (i + (k : Int)) (x.samples.getD k []) st) s

def execStreamRxPacket (n : Fin 256) (s : State) : Out :=
  .next (onlyIf (s.strmRuns 0 n && s.mode != 3) (State.rxWrite n) s)

/-! ## Delivery at transfer 0 (R168, R284) -/

/-- One position of the sequence of R186, with a live sample or without. -/
def Dir.position (d : Dir) (hold : Nat) (x : Option (List Word)) : List Word × Dir × List Nat :=
  let r := (if x.isSome then { d with good := d.good + 1 } else d).frame hold x.isNone x
  (r.1, { r.2.1 with last := r.1 }, r.2.2)

/-- n bytes at a cut at the boundaries of 8-byte memory words, in at most fuel pieces. -/
def wordCuts (a : Nat) : Nat → Nat → List (Nat × Nat)
  | 0, _ => []
  | fuel + 1, n => if n = 0 then [] else let k := min n (8 - a % 8); (a, k) :: wordCuts (a + k) fuel (n - k)

/-- A read of receive blocks by the router failed at address a (R168). -/
def State.srcErr (s : State) (a : Nat) : State :=
  (s.inc pgRtr Off.rtrSRC_ERR_CNT).raiseErr pgRtr 2 8 a midRouter (accType false false false 8)

/-- The bytes of a read by the router, word by word: absent where the word is uncorrectable. -/
def State.rxBytes (s : State) (a n : Nat) : List (Option Byte) × State :=
  if s.memGate a n false = .ok then
    (wordCuts a (n + 1) n).foldl (fun r c =>
      match r.2.memRead midRouter c.1 c.2 with
      | (some bs, s') => (r.1 ++ bs.map some, s')
      | (none, s') => (r.1 ++ List.replicate c.2 none, s'.srcErr c.1)) ([], s)
  else (List.replicate n none, (s.memRead midRouter a n).2.srcErr a)

/-- The samples of a position read from the store: 0 where a byte of one cannot be read (R168). -/
def State.rxRead (s : State) (n a : Nat) : List Word × State :=
  let ch := s.sChans 0 n
  let r := s.rxBytes (s.jbCell n a) (4 * ch)
  ((List.range ch).map (fun c =>
    let bs := (r.1.drop (4 * c)).take 4
    if bs.all Option.isSome then w32 (ofLE (bs.filterMap id)) else 0), r.2)

/-- Position a, at j in its tick, of stream n. -/
def State.rxPosition (n a j : Nat) (s : State) : State :=
  if (s.mediaCount a + 2 ^ 64 - s.sLink n) % s.sDiv 0 n ≠ 0 then s
  else
    let held := (s.rxs n).fill.any (fun f => f.1 == a)
    let x := if held then let q := s.rxRead n a; (some q.1, q.2) else (none, s.sCount 0 n 3 1)
    let s := x.2
    let r := s.rxs n
    let o := r.d.position (s.fld pgStrm Off.strmHOLD_LEN 15 0) x.1
    let began := (o.2.2.filter (fun e => e == 0)).length
    let joined := (o.2.2.filter (fun e => e == 2)).length
    let s := s.setRxs n { r with d := o.2.1, fill := (r.fill.filter (fun f => f.1 != a)), outs := r.outs + began, ins := r.ins + joined }
    let s := if o.2.2.contains 3 then s.intBit pgStrm 6 else s
    let cur := (List.range o.1.length).foldl (fun m c => smapSet zeroW m (sigKey (s.sBase 0 n + c) j) (o.1.getD c 0)) s.sig.cur
    { s with sig := { s.sig with cur := cur } }

/-- All receive streams deliver the positions of the tick that is released. -/
def State.strmDeliver (s : State) : State :=
  forEach ((List.range 256).filter (s.strmRuns 0)) (fun n st =>
    forEach (List.range st.T) (fun j u => State.rxPosition n (u.esc.running * u.T + j) j u) st) s

/-- A ramp-out of stream n has begun: HOLD, Contained, a fault of the stream buffers (R16, R284). -/
def execStreamRampOutStart (n : Fin 256) (s : State) : Out :=
  .next (onlyIf (decide (0 < (s.rxs n).outs)) (fun s =>
    (s.setRxs n { s.rxs n with outs := (s.rxs n).outs - 1 }).pageErr pgStrm 2 1 midStream) s)

/-- A ramp-in of stream n has begun. -/
def execStreamRampInStart (n : Fin 256) (s : State) : Out :=
  .next (onlyIf (decide (0 < (s.rxs n).ins)) (fun s => s.setRxs n { s.rxs n with ins := (s.rxs n).ins - 1 }) s)

end Sys2Proof.Machine
end

