-- ==== Sys2Proof/Machine/Lanes.lean ====
section
/-! DEFINITION. The coding of the Carix lanes: blocks and their sync headers, striping, the scrambler, block lock and
deskew (R310 to R312). -/

namespace Sys2Proof.Machine

/-! ## Sync headers, lock, deskew -/

/-- A valid sync header: 0b01 data, 0b10 control. -/
def syncOk (h : Nat) : Bool := h == 1 || h == 2

/-- A lane has block lock after 64 consecutive valid sync headers; hs: the headers received, latest first. -/
def locks (hs : List Nat) : Bool := decide (64 ≤ hs.length) && (hs.take 64).all syncOk

/-- It loses lock after 16 invalid headers within 64 blocks. -/
def unlocks (hs : List Nat) : Bool := decide (16 ≤ ((hs.take 64).filter (fun h => !syncOk h)).length)

/-- The lanes are deskewed: START and ALIGN have come, at most 64 block times apart. -/
def deskewed (skew : Option Nat) : Bool := skew.any (fun k => decide (k ≤ 64))

/-! ## Blocks of a frame -/

/-- The types of control blocks: START, ALIGN, TERM, STEP, IDLE. Other types are invalid. -/
def typeOk (t : Nat) : Bool := [0xC3, 0xA5, 0xB4, 0x96, 0x1E].contains t

/-- Two words in a block, low word first. -/
def pairWords : List Nat → List Nat
  | [] => []
  | [a] => [a]
  | a :: b :: ws => (a + 2 ^ 32 * b) :: pairWords ws

/-- The blocks of a frame behind its START, each with its sync header and, of a control block, its type alone: header,
audio, tunnel, trailer, TERM (R312). -/
def CrxSent.blocks (f : CrxSent) : List (Nat × Nat) :=
  ((List.range 8).map (fun i => leAt f.hdr (8 * i) 8) ++ pairWords (f.audio.map BitVec.toNat) ++ f.tun ++ [f.crc]).map
    (fun w => (1, w)) ++ [(2, 0xB4)]

/-- Every fourth element. -/
def everyFourth {α : Type} : List α → List α
  | a :: _ :: _ :: _ :: l => a :: everyFourth l
  | a :: _ => [a]
  | [] => []

/-- The blocks of a frame on a lane: START on lane 0 and ALIGN on the others in one block time, then the blocks in turn,
lane 0 first. -/
def CrxSent.lane (f : CrxSent) (l : Nat) : List (Nat × Nat) :=
  (2, if l = 0 then 0xC3 else 0xA5) :: everyFourth (f.blocks.drop l)

/-! ## The scrambler x^58 + x^39 + 1 -/

/-- The bits of a lane after scrambling; st: the 58 bits that left before, latest first. -/
def scramble : List Bool → List Bool → List Bool
  | _, [] => []
  | st, b :: bs =>
    let x := b ^^ st.getD 38 false ^^ st.getD 57 false
    x :: scramble ((x :: st).take 58) bs

/-- The bits before scrambling, from those received; st: the 58 bits received before, latest first. -/
def descramble : List Bool → List Bool → List Bool
  | _, [] => []
  | st, x :: xs => (x ^^ st.getD 38 false ^^ st.getD 57 false) :: descramble ((x :: st).take 58) xs

end Sys2Proof.Machine
end

