-- ==== Sys2Proof/Machine/Crx.lean ====
section
/-! DEFINITION. Carix ports: lanes and link, the frame sent at a release, the frame received, delay, audio delivery, the
control tunnel's packets, and the DPLL's lock with the adoption of tick numbers (R310 to R320, R324 to R330). -/

namespace Sys2Proof.Machine

/-! ## Ports -/

/-- Port n is enabled, and the CRX agent has not disabled it (R448). -/
def State.crxEn (s : State) (n : Nat) : Bool := s.bit (pgCrx + n) Off.crxCTL 0 && s.works 3
def State.crxStat (s : State) (n i : Nat) : Bool := s.bit (pgCrx + n) Off.crxSTAT i
def State.setCrxStat (s : State) (n i : Nat) (b : Bool) : State := s.setBit (pgCrx + n) Off.crxSTAT i b
def State.modCrx (s : State) (n : Nat) (f : CrxPort → CrxPort) : State := s.setCrx n (f (s.crxPort n))

/-- Counter i of a port raised by k: 0 FRAMES_RX to 9 STEP_LATE_CNT (R330). -/
def State.crxCount (s : State) (n i k : Nat) : State := s.addSat (pgCrx + n) (Off.crxCounters + 4 * i) k

/-- The receive state in STAT (R330). -/
def State.showCrx (s : State) (n : Nat) : State := s.setFld (pgCrx + n) Off.crxSTAT 22 20 (s.crxPort n).d.ph

/-- CH of a port: TX_CH, within the channels of the rate (R312). -/
def State.crxCh (s : State) (n : Nat) : Nat := min (s.fld (pgCrx + n) Off.crxCFG 11 0) s.chanCap

/-- The blocks that a frame may hold under R317. -/
def State.crxRoom (s : State) (n : Nat) : Nat :=
  (s.T * 10 ^ 9 - (2200 + s.fld (pgCrx + n) Off.crxDLY_MAX 13 0) * s.fs) * 100 / (64 * s.fs)

/-- Blocks of a frame beside its tunnel part: START, header, audio, trailer, TERM (R312). -/
def State.crxFixed (s : State) (n : Nat) : Nat := 11 + s.crxCh n * s.T / 2

/-! ## Landing of CTL_NX (R317) -/

def State.crxStart (n : Nat) (s : State) : State :=
  if s.crxRoom n < s.crxFixed n then s.pageErr (pgCrx + n) 2 4
  else ((s.setBit (pgCrx + n) Off.crxCTL 0 true).setCrx n { d := { ph := 2 } }).showCrx n

/-- A port that is disabled forgets what its link said. -/
def State.crxStop (n : Nat) (s : State) : State :=
  ((s.setBit (pgCrx + n) Off.crxCTL 0 false).setCrx n {}).setCrxStat n 6 false |>.showCrx n

def State.crxLand (s : State) : State :=
  forEach (List.range 2) (fun n st =>
    let new := bitN (st.eff (pgCrx + n) Off.crxCTL_NX) 0
    if new && !st.crxEn n then State.crxStart n st
    else if !new && st.crxEn n then State.crxStop n st
    else st) s

/-! ## Lanes and link (R310, R311) -/

/-- A lane has received the sync headers hs, latest first. -/
def execLaneBlockLock (n : Fin 2) (lane : Fin 4) (hs : List Nat) (s : State) : Out :=
  .next (onlyIf (s.pageEn (pgCrx + n) && locks hs) (fun s => s.setCrxStat n (1 + lane) true) s)

/-- LINK of port n becomes b; a loss ends the activity of the port's reference, and with a valid marker it begins with
the link (R243, R329). -/
def State.crxLink (n : Nat) (b : Bool) (s : State) : State :=
  if s.crxStat n 0 = b then s
  else
    let s := (s.setCrxStat n 0 b).intBit (pgCrx + n) 0
    if b then (if (s.crxPort n).mark then State.refLive (5 + n) s else s)
    else
      let s := (s.crxCount n 8 1).modCrx n (fun c => { c with mark := false })
      if s.refActive (5 + n) then State.refInactive (5 + n) s else s

/-- A lane lost takes the link down. -/
def execLaneLockLost (n : Fin 2) (lane : Fin 4) (hs : List Nat) (s : State) : Out :=
  .next (onlyIf (s.pageEn (pgCrx + n) && unlocks hs) (fun s =>
    State.withLost (State.crxLink n false) (s.setCrxStat n (1 + lane) false)) s)

/-- START and ALIGN lie skew block times apart over the lanes, and a frame with a valid header has arrived within the
last 2 ticks or not. -/
def execCarixLinkChange (n : Fin 2) (skew : Option Nat) (frame : Bool) (s : State) : Out :=
  .next (onlyIf (s.pageEn (pgCrx + n)) (fun s =>
    State.withLost (State.crxLink n (s.fld (pgCrx + n) Off.crxSTAT 4 1 == 15 && deskewed skew && frame))
      (s.setCrxStat n 5 (deskewed skew))) s)

/-! ## Delay (R317, R318) -/

/-- DLY from the last 64 round trips, truncated to a whole ps (R500). -/
def State.crxDelay (n : Nat) (s : State) : State :=
  let d := ((s.crxPort n).rts.foldl (fun x r => x + r) 0).tdiv 128
  let s := s.setRgS (pgCrx + n) Off.crxDLY d
  if (s.fld (pgCrx + n) Off.crxDLY_MAX 13 0 * 1000 : Nat) < d then s.pageErr (pgCrx + n) 2 5 else s

/-- A frame with a valid header adds its round trip: t4 of the peer's marker against t1 of the own marker that it
echoes, less TURN. -/
def State.crxTrip (n t4 turn echo : Nat) (s : State) : State :=
  let c := s.crxPort n
  match c.dep.find? (fun d => d.1 % 2 ^ 32 == echo) with
  | none => s
  | some d =>
    let rt : Int := ((t4 : Int) - d.2) * 125 - turn
    let s := s.setCrx n { c with rts := (rt :: c.rts).take 64 }
    if s.crxStat n 6 then State.crxDelay n s else s

def execDlyValid (n : Fin 2) (s : State) : Out :=
  .next (onlyIf (s.crxEn n && !s.crxStat n 6 && (s.crxPort n).rts.length == 64) (fun s =>
    State.crxDelay n (s.setCrxStat n 6 true)) s)

/-! ## The frame sent (R312, R313, R317, R320, R336, R338, R347) -/

/-- The device sends no samples on port n: in QUIET and SERVICE (R329, R446, R448), after a strike, and outside ACTIVE
on the port that is not the pair port. -/
def State.crxSilent (s : State) (n : Nat) : Bool :=
  s.mode == 3 || s.mode == 5 || s.agentStopped 8 || s.pair.strikeSent || s.inShadow && n != s.pairPort || s.bit pgEsc Off.escSTAT 5

/-- HOPS and PATH that the device sends. -/
def State.hopsSent (s : State) : Nat :=
  if s.sendsCrown then 0
  else match s.follows with
    | some p => min 255 ((s.crxPort p).hops + 1)
    | none => 15
def State.pathSent (s : State) : Nat :=
  let own := 2 ^ s.stackId
  if s.sendsCrown then own
  else match s.follows with
    | some p => (s.crxPort p).path ||| own
    | none => own

/-- ADV_QUAL. -/
def State.advQual (s : State) : Nat :=
  if s.dpllState = 2 ∧ s.refSel < 7 then s.refQuality s.refSel else s.fld pgStack Off.stackADV 3 0

/-- Bytes 0 to 59 of the header of the frame TICK = k, with TURN and ECHO. -/
def State.crxHeader (s : State) (n k turn echo tun : Nat) : List Byte :=
  let health := s.rg64 pgPair Off.pairHEALTH_LO Off.pairHEALTH_HI / 8 * 8 + s.pairState
  toLE 8 k ++ toLE 1 (s.rg pgSched Off.schedRATE % 64)
  ++ toLE 1 (s.advQual + 16 * b2n s.sendsCrown + 32 * b2n (s.dpllState == 2))
  ++ toLE 2 s.pathSent ++ toLE 1 (s.stackId + 16 * s.crownId) ++ toLE 1 s.hopsSent ++ toLE 2 (s.crxCh n)
  ++ toLE 8 (s.rg64 pgPair Off.pairTALLY_LO Off.pairTALLY_HI) ++ toLE 4 (s.esc.holdLast % 2 ^ 32)
  ++ toLE 1 (s.esc.holdLast / 2 ^ 32 + 2 * b2n s.pair.strikeSent + 4 * b2n s.pair.healthSent
      + 8 * s.fld pgPair Off.pairCFG 1 1)
  ++ toLE 3 0 ++ toLE 4 (s.rg pgPair Off.pairTERM) ++ toLE 4 turn ++ toLE 4 echo ++ toLE 8 health ++ toLE 4 tun
  ++ toLE 4 0

/-- The audio words of a frame: the blocks that transfer B delivered. -/
def State.crxAudio (s : State) (n : Nat) : List Word :=
  (List.range s.T).flatMap (fun j => (List.range (s.crxCh n)).map (fun c =>
    if s.crxSilent n then 0 else smapGet zeroW s.sig.taken (sigKey (0x1000 + 0x800 * n + c) j)))

/-- Packets at the front of a queue that fit in room blocks, and the rest. -/
def fitPackets (room : Nat) : List (List Nat) → List (List Nat) × List (List Nat)
  | [] => ([], [])
  | p :: ps =>
    if p.length ≤ room then
      let r := fitPackets (room - p.length) ps
      (p :: r.1, r.2)
    else ([], p :: ps)

/-- The bytes that the trailer's CRC covers (R312). -/
def crxBody (hdr : List Byte) (audio : List Word) (tun : List Nat) : List Byte :=
  hdr ++ audio.flatMap (fun w => toLE 4 w.toNat) ++ tun.flatMap (fun b => toLE 8 b)

/-- Port n sends the frame TICK = k; its marker leaves at t1, in sixteenths of the raw count. Before a marker has
arrived, TURN and ECHO are free values (log entry 4). -/
def State.crxSend (n k t1 : Nat) (s : State) : State :=
  let c := s.crxPort n
  let fit := fitPackets (min (s.fld (pgCrx + n) Off.crxTUN_MAX 15 0) (s.crxRoom n - s.crxFixed n)) c.txq
  let tun := fit.1.flatten
  let te := match c.arr with
    | some a => (ofSigned 32 (((t1 : Int) - a.2) * 125), a.1 % 2 ^ 32, s)
    | none => (s.fresh.1.toNat, s.fresh.2.fresh.1.toNat, s.fresh.2.fresh.2)
  let h := s.crxHeader n k te.1 te.2.1 tun.length
  let h := h ++ toLE 4 (crc32 h)
  let audio := s.crxAudio n
  let sent : CrxSent := { hdr := h, audio := audio, tun := tun, crc := crc32 (crxBody h audio tun) }
  let s := te.2.2.setCrx n { c with txq := fit.2, dep := ((k, t1) :: c.dep).take 64, sent := some sent }
  (s.crxCount n 1 1).setFld pgStack Off.stackSTAT 31 16 s.pathSent

/-- Both ports send at the device's own release. -/
def State.crxTx (k t1A t1B : Nat) (s : State) : State :=
  let s := if s.crxEn 0 then State.crxSend 0 k t1A s else s
  if s.crxEn 1 then State.crxSend 1 k t1B s else s

/-- STACK.STAT as it reads (R332). -/
def State.stackStat (s : State) : Nat :=
  s.rg pgStack Off.stackSTAT / 2 ^ 16 * 2 ^ 16 + s.fld pgStack Off.stackSTAT 0 0
  + (match s.follows with
    | some p => 16 * min 15 ((s.crxPort p).hops + 1) + 256 * ((s.crxPort p).crown % 16) + 4096 * p
    | none => 0xF0)

/-! ## Tunnel packets (R326, R327) -/

/-- The kind of a packet, its words, its address, its payload as words. -/
def pktKind (p : List Nat) : Nat := p.headD 0 % 256
def pktWords (p : List Nat) : Nat := p.headD 0 / 256 % 64 + 1
def pktAddr (p : List Nat) : Nat := p.headD 0 / 2 ^ 24 % 2 ^ 40
def pktData (p : List Nat) : List Nat := p.tail.flatMap (fun b => [b % 2 ^ 32, b / 2 ^ 32 % 2 ^ 32])

/-- A header of a packet satisfies the table of R327. -/
def hdrOk (h : Nat) : Bool :=
  let b1 := h / 256 % 256
  let blocks := h / 2 ^ 16 % 256 + 1
  let a := h / 2 ^ 24
  match h % 256 with
  | 1 => b1 / 64 == 0 && blocks == 1 && a % 4 == 0
  | 2 => b1 / 64 == 0 && blocks == 1 + (b1 % 64 + 2) / 2 && a % 4 == 0
  | 3 =>
    b1 % 4 != 1 && b1 / 4 % 16 == 0 && (b1 / 64 == 1 || b1 / 64 == 2) && a == 0
    && (if b1 % 4 == 0 && b1 / 64 == 1 then decide (2 ≤ blocks) && decide (blocks ≤ 33) else blocks == 1)
  | 4 => b1 == 0 && decide (8 ≤ a) && decide (a ≤ 1024) && blocks == 1 + (a + 7) / 8
  | _ => false

/-- The packets of a tunnel part, in order, and whether a header ended it. -/
def cutPackets : Nat → List Nat → List (List Nat) × Bool
  | _, [] => ([], false)
  | 0, _ => ([], false)
  | n + 1, h :: bs =>
    let len := h / 2 ^ 16 % 256
    if hdrOk h && decide (len ≤ bs.length) then
      let r := cutPackets n (bs.drop len)
      ((h :: bs.take len) :: r.1, r.2)
    else ([], true)

def reqPacket (kind words addr : Nat) (data : List Nat) : List Nat :=
  (kind + (words - 1) * 2 ^ 8 + (pairWords data).length * 2 ^ 16 + addr * 2 ^ 24) :: pairWords data
def respPacket (kind code : Nat) (data : List Nat) : List Nat :=
  (3 + (code + 64 * kind) * 2 ^ 8 + (pairWords data).length * 2 ^ 16) :: pairWords data
def msgPacket (bs : List Byte) : List Nat :=
  (4 + ceilDiv bs.length 8 * 2 ^ 16 + bs.length * 2 ^ 24)
    :: (List.range (ceilDiv bs.length 8)).map (fun i => leAt bs (8 * i) 8)
def msgBytes (p : List Nat) : List Byte := (p.tail.flatMap (toLE 8)).take (p.headD 0 / 2 ^ 24)

/-- A packet waits for a frame with room for it. -/
def State.tunSend (s : State) (n : Nat) (p : List Nat) : State := s.modCrx n (fun c => { c with txq := c.txq ++ [p] })

/-- The oldest packet that port n received is of kind k. -/
def State.inboxKind (s : State) (n k : Nat) : Bool := ((s.crxPort n).inbox.head?).any (fun p => pktKind p == k)
def State.inboxPop (s : State) (n : Nat) : List Nat × State :=
  ((s.crxPort n).inbox.headD [], s.modCrx n (fun c => { c with inbox := c.inbox.tail }))

/-- A request of this device ends, with RA_STAT's state and code. -/
def State.raEnd (s : State) (n st code : Nat) : State :=
  (s.setRg (pgCrx + n) Off.crxRA_STAT (st + 16 * code)).intBit (pgCrx + n) 6
def State.raBusy (s : State) (n : Nat) : Bool := s.fld (pgCrx + n) Off.crxRA_STAT 1 0 == 1

/-- A write of RA_CTL: GO sends a request; while one is outstanding a write with GO is ignored (log entry 31). DESIGN
CHOICE. -/
def State.raCtl (n v : Nat) (s : State) : State :=
  let o := pgCrx + n
  if s.raBusy n && bitN v 9 then s
  else
    let s := s.setRg o Off.crxRA_CTL (v &&& 0x13F)
    if bitN v 9 then
      let words := v % 64 + 1
      let addr := s.rg o Off.crxRA_ADDR_LO / 4 * 4 + 2 ^ 32 * s.fld o Off.crxRA_ADDR_HI 7 0
      let data := (List.range words).map (fun i => s.rg o (Off.crxRA_DATA + 4 * i))
      ((s.setRg o Off.crxRA_STAT 1).modCrx n (fun c => { c with req := v &&& 0x13F })).tunSend n (if bitN v 8 then reqPacket 2 words addr data else reqPacket 1 words addr [])
    else s

def execRemoteReadRequest (n : Fin 2) (v mid : Nat) (s : State) : Out :=
  .next (onlyIf (bitN v 9 && !bitN v 8) (fun s => s.guarded (pgCrx + n) Off.crxRA_CTL mid false (State.raCtl n v)) s)

def execRemoteWriteRequest (n : Fin 2) (v mid : Nat) (s : State) : Out :=
  .next (onlyIf (bitN v 9 && bitN v 8) (fun s => s.guarded (pgCrx + n) Off.crxRA_CTL mid false (State.raCtl n v)) s)

/-- A response arrives: it ends the request it answers; any other is discarded. -/
def State.tunResponse (n : Nat) (s : State) : State :=
  let r := s.inboxPop n
  let p := r.1
  let s := r.2
  let b1 := p.headD 0 / 256 % 256
  let req := (s.crxPort n).req
  let wr := bitN req 8
  if s.raBusy n && b1 / 64 == (if wr then 2 else 1) then
    (if b1 % 4 = 0 then
      let k := if wr then 0 else bitsN req 5 0 + 1
      let d := pktData p
      (forEach (List.range k) (fun i st => st.setRg (pgCrx + n) (Off.crxRA_DATA + 4 * i) (d.getD i 0)) s).raEnd n 2 0
    else s.raEnd n 3 (b1 % 4))
  else s

def execTunnelResponse (n : Fin 2) (s : State) : Out := .next (onlyIf (s.inboxKind n 3) (State.tunResponse n) s)

/-- RA_TIMEOUT µs without a response. -/
def execRaTimeout (n : Fin 2) (s : State) : Out := .next (onlyIf (s.raBusy n) (fun s => s.raEnd n 3 1) s)

/-- A message goes to the ring MRX, or is lost. -/
def State.messageRx (n : Nat) (s : State) : State :=
  let r := s.inboxPop n
  match r.2.ringPut ⟨pgCrx + n, Off.crxMRX⟩ (msgBytes r.1) 0 none with
  | (.done, s) => s.intBit (pgCrx + n) 7
  | (_, s) => s.crxCount n 7 1

def execTunnelMessageRx (n : Fin 2) (s : State) : Out := .next (onlyIf (s.inboxKind n 4) (State.messageRx n) s)

/-- The message at HEAD of MTX: one whose packet exceeds TUN_MAX, or whose length is not 8 to 1,024, is never sent. -/
def State.messageTx (n : Nat) (s : State) : State :=
  let r : Ring := ⟨pgCrx + n, Off.crxMTX⟩
  match s.ringDesc r with
  | (none, s) => s
  | (some (addr, blen), s) =>
    if 8 ≤ blen ∧ blen ≤ 1024 ∧ 1 + ceilDiv blen 8 ≤ s.fld (pgCrx + n) Off.crxTUN_MAX 15 0 then
      (match s.memRead midStream addr blen with
      | (some bs, s) => ((s.tunSend n (msgPacket bs)).ringStatus r blen 1).ringNext r
      | (none, s) => (s.ringStatus r blen 3).ringNext r)
    else ((s.crxCount n 7 1).ringStatus r blen 9).ringNext r

def execTunnelMessageTx (n : Fin 2) (s : State) : Out :=
  .next (onlyIf (s.crxEn n && s.ringWork ⟨pgCrx + n, Off.crxMTX⟩) (State.messageTx n) s)

/-! ## The frame received (R314, R315, R319, R324, R325) -/

/-- The receiver's own tick number: that of the last instant R (R314). -/
def State.ownTick (s : State) : Nat := s.tick - s.sig.due.length

/-- The device holds LOCK on the marker of port n, and no adoption is due. -/
def State.locked (s : State) (n : Nat) : Bool := s.dpllState == 2 && s.refInUse == 5 + n && s.dpll.adopt.isNone

/-- A frame is aligned (R314); one that differs while LOCK holds counts as not aligned (R325). -/
def State.crxAligned (s : State) (n : Nat) (h : List Byte) (late : Bool) : Bool :=
  let d : Int := (leAt h 0 8 : Int) - s.ownTick
  decide (d.natAbs ≤ 1) && leAt h 8 1 % 64 == s.rg pgSched Off.schedRATE % 64 && !(s.locked n && !late && d != 0)

/-- A frame's crown differs from what the device follows, outside the pair port (R324, R336). -/
def State.crownConflict (s : State) (n : Nat) (h : List Byte) : Bool :=
  !(s.pairEn && n == s.pairPort)
  && (if s.sendsCrown then bitN (leAt h 9 1) 4 else s.follows.isSome && leAt h 12 1 / 16 != s.crownId)

/-- The conflict on port n (R324). -/
def State.crownClash (n id : Nat) (s : State) : State :=
  let s := (s.setBit pgStack Off.stackSTAT 0 true).setRg pgStack Off.stackCONFLICT_ID (id + 16 * n + 256)
  { s with dpll := { s.dpll with shut := s.dpll.shut ||| 2 ^ n } }.pageErr pgStack 2 0

/-- What a valid header says of the sender: STAT, the reference's quality (R249, R318), the delay, and the marker
(R319). -/
def State.crxTakeHeader (n : Nat) (h : List Byte) (t4 : Nat) (aligned : Bool) (s : State) : State :=
  let q := leAt h 9 1
  let id := leAt h 12 1 % 16
  let path := leAt h 10 2
  let p := pgCrx + n
  let s := s.setFld p Off.crxSTAT 19 7 (b2n (bitN q 4) + 2 * (leAt h 12 1) + 512 * (q % 16))
  let qual := min 14 (q % 16 + 1)
  let s := s.setFld pgRef (refOff (5 + n) Off.refR_CFG) 15 12 qual
  let s := s.setFld pgRef (refOff (5 + n) Off.refR_STAT) 11 8 qual
  let s := State.crxTrip n t4 (leAt h 36 4) (leAt h 40 4) s
  let s := if id = s.stackId then s.pageErr pgStack 2 1 else s
  let loop := bitN path s.stackId
  let s := if loop then s.crxCount n 6 1 else s
  let mark := aligned && s.crxStat n 6 && !loop && id != s.stackId
  s.modCrx n (fun c => { c with mark := mark, diff := (leAt h 0 8 : Int) - s.ownTick, hops := leAt h 13 1, path := path
                                crown := leAt h 12 1 / 16, arr := some (leAt h 0 8, t4) })

/-- The tunnel part of a frame that is delivered: its packets wait (R327). -/
def State.tunTake (n : Nat) (tun : List Nat) (s : State) : State :=
  let r := cutPackets tun.length tun
  let s := s.modCrx n (fun c => { c with inbox := c.inbox ++ r.1 })
  if r.2 then s.crxCount n 7 1 else s

/-- The messages of a tunnel part that is dropped are lost (R326). -/
def State.tunLose (n : Nat) (tun : List Nat) (s : State) : State :=
  s.crxCount n 7 (((cutPackets tun.length tun).1).filter (fun p => pktKind p == 4)).length

/-- A frame without a valid marker ends the activity of its reference (R243). -/
def State.markLost (n : Nat) (s : State) : State :=
  let s := s.modCrx n (fun c => { c with mark := false })
  if s.refActive (5 + n) then State.refInactive (5 + n) s else s

/-- A frame dropped whole. -/
def State.crxDrop (n : Nat) (tun : List Nat) (s : State) : State :=
  State.markLost n ((State.tunLose n tun (s.crxCount n 2 1)).intBit (pgCrx + n) 1)

/-- The header of a frame is right. -/
def crxHdrOk (h : List Byte) : Bool := h.length == 64 && crc32 (h.take 60) == leAt h 60 4

/-- The audio and tunnel of a frame whose header has been taken. In QUIET audio is discarded (R329). -/
def State.crxTakeBody (n : Nat) (h : List Byte) (audio : List Word) (tun : List Nat) (good late aligned : Bool) (s : State) :
    State :=
  if !good then State.tunLose n tun ((s.crxCount n 2 1).intBit (pgCrx + n) 1)
  else if !aligned then State.tunLose n tun s
  else
    let s := State.tunTake n tun s
    if late then s.crxCount n 4 1
    else if s.mode = 3 then s
    else s.modCrx n (fun c => { c with frames := (c.frames ++ [(leAt h 0 8, leAt h 14 2, audio)]).reverse.take 4 |>.reverse })

/-- A frame with a valid header on port n. good: its trailer's CRC and its lengths are right. -/
def State.crxFrame (n : Nat) (h : List Byte) (audio : List Word) (tun : List Nat) (good : Bool) (t4 : Nat) (late : Bool)
    (s : State) : State :=
  let aligned := s.crxAligned n h late
  let s := s.crxCount n 0 1
  let s := if s.crownConflict n h then State.crownClash n (leAt h 12 1 / 16) s else s
  let off := s.locked n && !late && leAt h 0 8 != s.ownTick
  let s := State.crxTakeHeader n h t4 aligned s
  let s := if off then s.pageErr pgStack 2 3 else s
  let s := if aligned then s else s.crxCount n 3 1
  let s := State.crxTakeBody n h audio tun good late aligned s
  if (s.crxPort n).mark then onlyIf (s.crxStat n 0) (State.refLive (5 + n)) s else State.markLost n s

/-! ## Audio delivery at transfer 0 (R315, R316) -/

/-- Position j of port n in the released tick. -/
def State.crxPosition (n j : Nat) (f : Option (Nat × Nat × List Word)) (s : State) : State :=
  let c := s.crxPort n
  let x := f.map (fun g => (List.range g.2.1).map (fun i => g.2.2.getD (j * g.2.1 + i) 0))
  let o := c.d.position (s.fld (pgCrx + n) Off.crxHOLD_LEN 15 0) x
  let began := (o.2.2.filter (fun e => e == 0)).length
  let s := s.setCrx n { c with d := o.2.1, outs := c.outs + began }
  let s := if o.2.2.contains 3 then s.intBit (pgCrx + n) 3 else s
  let s := if f.isNone then s.crxCount n 5 1 else s
  let cur := (List.range o.1.length).foldl
    (fun m i => smapSet zeroW m (sigKey (0x1000 + 0x800 * n + i) j) (o.1.getD i 0)) s.sig.cur
  { s with sig := { s.sig with cur := cur } }

/-- The enabled ports deliver in the tick that is released the frame of the tick before (R315). -/
def State.crxDeliver (s : State) : State :=
  forEach ((List.range 2).filter s.crxEn) (fun n st =>
    let f := (st.crxPort n).frames.find? (fun g => g.1 + 1 == st.esc.running)
    let st := st.modCrx n (fun c => { c with frames := c.frames.filter (fun g => decide (st.esc.running ≤ g.1)) })
    (forEach (List.range st.T) (fun j u => State.crxPosition n j f u) st).showCrx n) s

/-- A ramp-out of port n has begun: HOLD, Contained. -/
def execCarixRampOutStart (n : Fin 2) (s : State) : Out :=
  .next (onlyIf (decide (0 < (s.crxPort n).outs)) (fun s =>
    (s.modCrx n (fun c => { c with outs := c.outs - 1 })).pageErr (pgCrx + n) 2 2) s)

/-! ## Counters (R330) -/

def State.crxCtl (n v : Nat) (s : State) : State :=
  let s := s.setBit (pgCrx + n) Off.crxCTL 2 (bitN v 2)
  if bitN v 1 then forEach (List.range 10) (fun i st => st.setRg (pgCrx + n) (Off.crxCounters + 4 * i) 0) s else s

def execCrxCntClr (n : Fin 2) (v mid : Nat) (s : State) : Out :=
  .next (onlyIf (bitN v 1) (fun s => s.guarded (pgCrx + n) Off.crxCTL mid false (State.crxCtl n v)) s)

/-! ## Lock (R247, R252, R279, R325) -/

/-- ACQ becomes LOCK: the drift average is kept, a media reference sets MC_OFS, a marker's tick number is adopted at
the next boundary. -/
def State.dpllLock (s : State) : State :=
  let n := s.refSel
  let s := State.dpllTo 2 s
  let s := State.drift n (s.setRgS pgRef (refOff n Off.refR_LOCK_OFS) ((s.refMon n).avg.tdiv (2 ^ 20)))
  if n = 4 then s.mcAuto
  else if 5 ≤ n ∧ (s.crxPort (n - 5)).diff ≠ 0 then
    { s with dpll := { s.dpll with adopt := some (s.crxPort (n - 5)).diff } }
  else s

/-- The phase error and the frequency error lie within LOCK_PHASE and LOCK_FREQ. -/
def State.lockNear (s : State) : Bool :=
  decide ((s.phaseDiff s.refSel).natAbs ≤ s.fld pgDpll Off.dpllLOCK_PHASE 23 0 * psUnit)
  && decide ((s.dpll.freq - s.rgS pgRef (refOff s.refSel Off.refR_OFFSET) * 500000000).natAbs
    ≤ s.fld pgDpll Off.dpllLOCK_FREQ 19 0 * 500000000)

/-- LOCK_TIME has passed without a slew and within the limits, which also hold at its end (R252). -/
def execDpllLock (s : State) : Out :=
  .next (onlyIf (s.dpllState == 1 && !s.slewing && decide (s.refSel < 7) && s.lockNear) State.dpllLock s)

end Sys2Proof.Machine
end

