-- ==== Sys2Proof/Machine/Pair.lean ====
section
/-! DEFINITION. Shadow pairs: frames on the pair port, tallies compared, the test at each boundary, takeover, yielding,
health, and the Carix frame as received (R314, R336 to R351). -/

namespace Sys2Proof.Machine

/-! ## What the unit knows -/

def State.pairBit (s : State) (i : Nat) : Bool := s.bit pgPair Off.pairSTATE i

/-- The level of PEER_ACT_IN, and the partner's state of its last header. -/
def State.peerAct (s : State) : Bool := s.pairBit 5
def State.peerState (s : State) : Nat := s.fld pgPair Off.pairSTATE 10 8
def State.silenceTime (s : State) : Nat := s.fld pgPair Off.pairSILENCE_TIME 7 0
def State.ownTerm (s : State) : Nat := s.rg pgPair Off.pairTERM
def State.peerTerm (s : State) : Nat := s.rg pgPair Off.pairPEER_TERM

/-- The link is live (R339): a frame has arrived within the last SILENCE_TIME ticks. -/
def State.pairLive (s : State) : Bool := s.pair.heard && decide (s.pair.silentTicks ≤ s.silenceTime)

/-- The unit acts as unit 0 where UNIT breaks a tie, and as unit 1 (R340). Equal STACK.IDs break no tie. -/
def State.actsAs0 (s : State) : Bool :=
  if s.pairBit 11 then decide (s.stackId < s.pair.peerId) else s.fld pgPair Off.pairCFG 1 1 == 0
def State.yieldsTie (s : State) : Bool :=
  if s.pairBit 11 then decide (s.pair.peerId ≤ s.stackId) else s.fld pgPair Off.pairCFG 1 1 == 1

/-- TERM only rises (R351). -/
def State.raiseTerm (s : State) (t : Nat) : State := s.setRg pgPair Off.pairTERM (min (max s.ownTerm t) 0xFFFFFFFF)

/-! ## The self-check (R347, cause 4) -/

def State.tallyK (s : State) : Nat := s.fld pgPair Off.pairTALLY_K 3 0

def State.selfCheck (s : State) : State :=
  let peer := s.rg pgPair Off.pairPEER_HEALTH_LO
  if s.pairState == 2 && decide (s.tallyK ≤ s.pair.missRun) && s.bit pgPair Off.pairHEALTH_LO 8
      && peer % 8 == 4 && !bitN peer 7 && !bitN peer 8 then s.strike 4 pgPair
  else s

/-! ## Tallies compared (R343) -/

/-- The partner's tally of tick k, with its frame's hold mark. -/
def State.compareTally (k peer mark : Nat) (s : State) : State :=
  match s.pair.tallies.find? (fun t => t.1 == k) with
  | none => s
  | some (_, own, held) =>
    let s := { s with pair := { s.pair with tallies := s.pair.tallies.filter (fun t => t.1 != k) } }
    let s := s.setRg64 pgPair Off.pairPEER_TALLY_LO Off.pairPEER_TALLY_HI peer
    if mark ≠ 0 ∨ held ≠ 0 then
      let s := s.inc pgPair Off.pairMARK_CNT
      if s.pairState = 4 then s.setPairState 3 else s
    else if own = peer then
      { s.inc pgPair Off.pairMATCH_RUN with pair := { s.pair with missRun := 0 } }
    else
      let s := (s.inc pgPair Off.pairMISS_CNT).setRg pgPair Off.pairMATCH_RUN 0
      { s with pair := { s.pair with missRun := s.pair.missRun + 1 } }.selfCheck

/-- At the release of tick k: own tallies that no frame has met by now (R343). -/
def State.uncompared (k : Nat) (s : State) : State :=
  let old := s.pair.tallies.filter (fun t => decide (t.1 + 2 ≤ k))
  let s := { s with pair := { s.pair with tallies := s.pair.tallies.filter (fun t => !decide (t.1 + 2 ≤ k)) } }
  if s.pairEn then s.addSat pgPair Off.pairNOCMP_CNT old.length else s

/-! ## Frames on the pair port (R339, R340, R343, R348, R351) -/

/-- Bytes 24 to 28 of a header as a hold mark. -/
def hdrMark (h : List Byte) : Nat := leAt h 24 4 + (if bitN (leAt h 28 1) 0 then 2 ^ 32 else 0)

def State.pairFrame (h : List Byte) (aligned : Bool) (s : State) : State :=
  let f := leAt h 28 1
  let health := leAt h 44 8
  let term := leAt h 32 4
  let s := { s with pair := { s.pair with heard := true, silentTicks := 0, linkLost := false, peerId := leAt h 12 1 % 16 } }
  let s := (s.setFld pgPair Off.pairSTATE 10 8 health).setBit pgPair Off.pairSTATE 7 (bitN f 1)
  let s := if bitN f 1 then s.intBit pgPair 5 else s
  let s := if bitN f 2 then s.setRg64 pgPair Off.pairPEER_HEALTH_LO Off.pairPEER_HEALTH_HI health else s
  let s := s.setRg pgPair Off.pairPEER_TERM term
  let s := if s.pairState ≠ 0 ∧ s.pairState ≠ 2 then s.raiseTerm term else s
  let clash := b2n (bitN f 3) == s.fld pgPair Off.pairCFG 1 1
  let s := s.setBit pgPair Off.pairSTATE 11 clash
  let s := if clash then s.pageErr pgPair 2 12 else s
  if aligned then State.compareTally (leAt h 0 8 - 1) (leAt h 16 8) (hdrMark h) s else s.selfCheck

/-- A frame on port n: valid where it contains no invalid block; crc its trailer; its marker at t4; late where it
completes too late for the next release. -/
def State.crxRx (n : Nat) (valid : Bool) (h : List Byte) (audio : List Word) (tun : List Nat) (crc t4 : Nat) (late : Bool)
    (s : State) : State :=
  if !valid || !crxHdrOk h then State.crxDrop n tun s
  else
    let good := crc32 (crxBody h audio tun) == crc && tun.length == leAt h 52 4 && audio.length == leAt h 14 2 * s.T
    let aligned := s.crxAligned n h late
    let s := State.crxFrame n h audio tun good t4 late s
    if s.pairEn && n == s.pairPort then State.pairFrame h aligned s else s

def execCarixFrameRx (n : Fin 2) (valid : Bool) (h : List Byte) (audio : List Word) (tun : List Nat) (crc t4 : Nat)
    (late : Bool) (s : State) : Out :=
  .next (onlyIf (s.crxEn n) (State.withLost (State.crxRx n valid h audio tun crc t4 late)) s)

/-! ## Enabling (R339, R355) -/

/-- The unit leaves the pair, or enters ELECT: what it knew of a partner goes. -/
def State.pairEnter (st : Nat) (s : State) : State :=
  let s := s.setBit pgPair Off.pairCTL 0 (st != 0)
  let keep := s.pair
  let s := { s with pair := { healthSeq := keep.healthSeq, healthSent := keep.healthSent, failBist := keep.failBist
                              failMem := keep.failMem, tallies := keep.tallies } }
  let s := (s.setFld pgPair Off.pairSTATE 11 6 0)
  s.setPairState st

/-- The landed EN. A unit in STRUCK leaves it by CLR_STRUCK alone (R347): EN = 0 then acts with the next landing that
finds it elsewhere (log entry 105). DEDUCED. -/
def State.pairLand (s : State) : State :=
  let new := bitN (s.eff pgPair Off.pairCTL_NX) 0
  if s.pairState = 6 then s
  else if new && !s.pairEn then State.pairEnter 1 s
  else if !new && s.pairEn then State.pairEnter 0 s
  else s

/-! ## The test at each boundary (R339, R348, R350) -/

/-- The counts of pin and link at a boundary. A link that falls silent at it is not live (R348, R350). -/
def State.pairCounts (act : Bool) (s : State) : State :=
  let s := { s with pair := { s.pair with silentTicks := s.pair.silentTicks + 1 } }
  let p := s.pair
  let bad :=
    if s.pairState = 2 then s.pairLive && act && s.peerState != 2
    else if 3 ≤ s.pairState ∧ s.pairState ≤ 5 then
      s.pairLive && (if s.pairBit 7 then act else act != (s.peerState == 2))
    else false
  { s with pair := { p with
      actLowTicks := if act then 0 else p.actLowTicks + 1
      actHighTicks := if act then p.actHighTicks + 1 else 0
      pinBadTicks := if bad then p.pinBadTicks + 1 else 0
      pinTold := bad && p.pinTold
      convTicks := if s.pairState = 3 then p.convTicks + 1 else 0 } }.setBit pgPair Off.pairSTATE 5 act

/-- PEER_ACT_IN has been deasserted, or asserted, for SILENCE_TIME ticks. -/
def State.actLow (s : State) : Bool := decide (s.silenceTime < s.pair.actLowTicks)
def State.actHigh (s : State) : Bool := decide (s.silenceTime < s.pair.actHighTicks)

/-- The order of an election: STANDBY, CONVERGING, SUSPECT, ELECT; 9 none. -/
def electRank (st : Nat) : Nat := match st with | 4 => 0 | 3 => 1 | 5 => 2 | 1 => 3 | _ => 9

/-- The takeover condition of R348. -/
def State.takeoverMet (s : State) : Bool :=
  if s.pairLive then
    (if s.pairBit 7 then !s.peerAct && s.peerState == 6
    else
      s.actLow && decide (electRank s.peerState < 9)
      && (decide (electRank s.pairState < electRank s.peerState)
          || electRank s.pairState == electRank s.peerState && s.actsAs0))
  else s.actLow

/-- The state may take over (R338). -/
def State.mayTake (s : State) : Bool :=
  match s.pairState with
  | 4 => true
  | 3 => s.bit pgPair Off.pairCFG 2
  | 5 => s.bit pgPair Off.pairCFG 3
  | _ => false

def State.setDue (s : State) (b : Bool) : State := { s with pair := { s.pair with takeoverDue := b } }

/-- A unit yields (R350). -/
def State.pairYield (dual : Bool) (s : State) : State :=
  let s := (s.raiseTerm s.peerTerm).fence.setPairState 3
  let s := { s with pair := { s.pair with fenced := true } }.intBit pgPair 4
  if dual then s.pageErr pgPair 2 7 else s

/-- A DUAL: the unit that loses the tie yields, the other reports it. -/
def State.pairDual (s : State) : State := if s.yieldsTie then State.pairYield true s else s.pageErr pgPair 2 7

/-- The test of a unit in ACTIVE. -/
def State.testActive (s : State) : State :=
  if s.pairLive then
    (if s.ownTerm < s.peerTerm then State.pairYield false s
    else if s.peerState = 2 ∧ s.peerTerm = s.ownTerm then s.pairDual
    else s)
  else if s.actHigh then s.pairDual
  else s

/-- The test of a unit in ELECT. -/
def State.testElect (s : State) : State :=
  if s.peerAct then (s.setDue false).setPairState 3
  else if s.pairLive then s.setDue (s.peerState == 1 && s.actsAs0)
  else s

/-- PAIR_TICK_TEST: act is the level of PEER_ACT_IN at the boundary. -/
def State.pairTest (act : Bool) (s : State) : State :=
  if !s.pairEn then s.setBit pgPair Off.pairSTATE 5 act
  else
    let s := State.pairCounts act s
    match s.pairState with
    | 1 => s.testElect
    | 2 => s.testActive
    | 6 => s
    | _ =>
      if s.takeoverMet then (if s.mayTake then s.setDue true else (s.setDue false).pageErr pgPair 2 8)
      else s.setDue false

/-! ## Events -/

/-- Link silent and PEER_ACT_IN deasserted for ELECT_TIME. -/
def execPairElectTimeout (s : State) : Out :=
  .next (onlyIf (s.pairEn && s.pairState == 1 && !s.pairLive && !s.peerAct) (fun s => s.setDue true) s)

def execPairLinkSilent (s : State) : Out :=
  .next (onlyIf (s.pairEn && s.pair.heard && !s.pairLive && !s.pair.linkLost) (fun s =>
    { s with pair := { s.pair with linkLost := true } }.intBit pgPair 10) s)

def execPinFault (s : State) : Out :=
  .next (onlyIf (s.pairEn && s.pairLive && decide (s.silenceTime < s.pair.pinBadTicks) && !s.pair.pinTold) (fun s =>
    { s with pair := { s.pair with pinTold := true } }.pageErr pgPair 2 6) s)

/-- The takeover, or the election win, lands at a release (R349, R351). -/
def State.pairTake (s : State) : State :=
  let elect := s.pairState == 1
  let s := s.raiseTerm (max s.ownTerm s.peerTerm + 1)
  let s := (s.setDue false).setPairState 2
  if elect then s else (s.inc pgPair Off.pairTAKEOVER_CNT).intBit pgPair 2

def execPairTakeover (s : State) : Out :=
  .next (onlyIf (s.pair.takeoverDue && s.boundaryDue && !s.esc.tickOpen) (State.withLost State.pairTake) s)

def execPairConverged (s : State) : Out :=
  .next (onlyIf ((s.pairState == 3 || s.pairState == 5)
      && decide (s.fld pgPair Off.pairCONV_TICKS 23 0 ≤ s.rg pgPair Off.pairMATCH_RUN))
    (State.withLost (fun s => (s.setPairState 4).intBit pgPair 11)) s)

/-- Entry to SUSPECT. -/
def State.pairSuspect (s : State) : State := (s.setPairState 5).pageErr pgPair 2 3

def execPairConvLimit (s : State) : Out :=
  .next (onlyIf (s.pairState == 3 && decide (s.fld pgPair Off.pairCONV_LIMIT 27 0 ≤ s.pair.convTicks))
    (State.withLost State.pairSuspect) s)

def execPairSuspect (s : State) : Out :=
  .next (onlyIf (s.pairState == 4 && decide (s.tallyK ≤ s.pair.missRun)) (State.withLost State.pairSuspect) s)

/-- The health word of R345 is published, at the first boundary after 100 ms of the raw counter. -/
def State.healthPublish (s : State) : State :=
  let p := s.pair
  let seq := (p.healthSeq + 1) % 2 ^ 16
  let lo := s.pairState + 16 * s.dpllState + 128 * b2n p.failBist + 256 * b2n p.failMem + 2 ^ 16 * seq
  let hi := s.rg pgPair Off.pairMISS_CNT % 2 ^ 16 + 2 ^ 16 * (s.rg pgPair Off.pairBIST_SLICES % 2 ^ 16)
  let s := { s with pair := { p with healthSeq := seq, healthSent := true, failBist := false, failMem := false } }
  (s.setRg64 pgPair Off.pairHEALTH_LO Off.pairHEALTH_HI (lo + 2 ^ 32 * hi)).selfCheck

def execHealthPublish (s : State) : Out := .next (onlyIf (s.pageEn pgPair && s.mode != 4) State.healthPublish s)

/-! ## PAIR.CTL (R347, R355, R356) -/

def pairCounterOffs : List Nat :=
  [Off.pairMISS_CNT, Off.pairMARK_CNT, Off.pairNOCMP_CNT, Off.pairTAKEOVER_CNT, Off.pairSTRIKE_CNT, Off.pairBIST_SLICES]

/-- A write of PAIR.CTL: STRIKE acts in ACTIVE only, CLR_STRUCK in STRUCK only; CNT_CLR clears the page's
counters; MATCH_RUN is a run and stays (log entry 32). DEDUCED. -/
def State.pairCtl (v : Nat) (s : State) : State :=
  let s := if bitN v 1 ∧ s.pairState = 2 then s.strike 5 pgPair else s
  let s := if bitN v 2 ∧ s.pairState = 6 then
      { s with pair := { s.pair with strikeSent := false } }.setPairState 1
    else s
  if bitN v 3 then forEach pairCounterOffs (fun o st => st.setRg pgPair o 0) s else s

def State.pairCtlWrite (i v mid : Nat) (s : State) : State :=
  onlyIf (bitN v i) (fun s => s.guarded pgPair Off.pairCTL mid (bitN v 1 && !bitN v 2 && !bitN v 3) (State.withLost (State.pairCtl v))) s

def execPairStrikeCmd (v mid : Nat) (s : State) : Out := .next (State.pairCtlWrite 1 v mid s)
def execClrStruck (v mid : Nat) (s : State) : Out := .next (State.pairCtlWrite 2 v mid s)
def execPairCntClr (v mid : Nat) (s : State) : Out := .next (State.pairCtlWrite 3 v mid s)

end Sys2Proof.Machine
end

