-- ==== Sys2Proof/Machine/Drc.lean ====
section
/-! DEFINITION. The external memory controller and its PHY: states, probes, mode registers, delays, the scheduling of
requests, refresh, self-refresh, frequency change and fill (R358 to R379). -/

namespace Sys2Proof.Machine

/-! ## Configuration (R358 to R361) -/

/-- The installed capacity in MiB. -/
def State.drcInstalled (s : State) : Nat := s.rankMib * (1 + s.drcCfg 1 1)

/-- Word 0 of timing set i: RATE and VALID. -/
def tsetOff (i : Nat) : Nat := Off.drcTSET + 0x40 * i
def State.tsetValid (s : State) (i : Nat) : Bool := s.bit pgDrc (tsetOff i) 31

/-- CFG and the rate of set i keep R358: densities and total, rates of the type, bank groups above 3,200 MT/s. -/
def State.drcCfgOk (s : State) (i : Nat) : Bool :=
  let r := s.fld pgDrc (tsetOff i) 2 0
  decide (s.drcCfg 4 2 ≤ 4) && decide (s.drcInstalled ≤ 8192)
  && (if s.drcCfg 0 0 = 0 then decide (r ≤ 4) && (s.drcCfg 5 5 == 1) == decide (2 ≤ r)
      else decide (r ≤ 3) && s.drcCfg 5 5 == 0)

/-- The set in use (R376). -/
def State.drcSet (s : State) : Nat := s.fld pgDrc Off.drcSTAT 3 3

/-- The content of the memory is as if nothing had been written (R372, R375; log entry 2). -/
def State.dramForget (s : State) : State := s.eraseMem (fun k => targetOf k == .drc)

/-- An INIT of set i in OFF is refused (R361). -/
def State.drcInitBad (s : State) (i : Nat) : Bool := !s.drcCfgOk i || !s.tsetValid i

/-- INIT begins with the set and the ECC_EN of CTL. With KEEP on a memory in self-refresh it runs no power-up sequence,
and so no ZQ calibration (R361, R372, R374, R375, R378). -/
def State.drcInit (s : State) : State :=
  let i := s.fld pgDrc Off.drcCTL 4 4
  let ecc := s.bit pgDrc Off.drcCTL 3
  let keep := s.bit pgDrc Off.drcCTL 1
  let s := ((s.setDrcState 1).setFld pgDrc Off.drcSTAT 3 3 i).setBit pgDrc Off.drcSTAT 4 ecc
  let s := s.setRg pgDrc Off.drcCAP (if ecc then s.drcInstalled * 7 / 8 else s.drcInstalled)
  let s := (s.setBit pgDphy Off.dphySTAT 1 (i == 1)).setBit pgDphy Off.dphySTAT 2 (!keep)
  let kept := keep && s.dram.retained
  let s := { s with dram := { s.dram with keep := keep } }
  if kept then s else s.dramForget

/-- A write of DRC.CTL: ECC_EN and SET in OFF only; INIT in OFF; ONLINE moves between TRAIN and ONLINE (R361, R376). A
refused INIT changes nothing and gets an error response (R499). -/
def State.drcCtl (v mid : Nat) (s : State) : State :=
  let off := s.drcState == 0
  if off && bitN v 0 && s.drcInitBad (bitsN v 4 4) then (s.writeErr pgDrc Off.drcCTL mid 3).errFor mid
  else
    let s := (s.setBit pgDrc Off.drcCTL 1 (bitN v 1)).setBit pgDrc Off.drcCTL 2 (bitN v 2)
    let s := if off then s.setFld pgDrc Off.drcCTL 4 3 (bitsN v 4 3) else s
    if off && bitN v 0 then s.drcInit
    else if s.drcState == 2 && bitN v 2 then s.setDrcState 3
    else if s.drcState == 3 && !bitN v 2 then s.setDrcState 2
    else s

def State.drcCtlWrite (c : Bool) (v mid : Nat) (s : State) : State :=
  onlyIf c (fun s => s.guarded pgDrc Off.drcCTL mid false (State.drcCtl v mid)) s

def execDrcInit (v mid : Nat) (s : State) : Out := .next (State.drcCtlWrite (bitN v 0) v mid s)
def execDrcOnline (v mid : Nat) (s : State) : Out := .next (State.drcCtlWrite (s.drcState == 2 && bitN v 2) v mid s)
def execDrcOffline (v mid : Nat) (s : State) : Out := .next (State.drcCtlWrite (s.drcState == 3 && !bitN v 2) v mid s)

/-- The key of a mode register of the memory, in the frequency set point of a timing set (R367). -/
def mrKey (set rank ch a : Nat) : Nat := ((set * 2 + rank) * 2 + ch) * 256 + a

/-- The mode registers that a timing set holds (R376). -/
def mrNums : List Nat := [1, 2, 3, 10, 11, 12, 13, 14]

/-- The mode registers of timing set i are written into its set point, on every rank and channel (R361, R367). -/
def State.mrSet (s : State) (i : Nat) : State :=
  let w := s.rg pgDrc (tsetOff i + 0x38) + 2 ^ 32 * s.rg pgDrc (tsetOff i + 0x3C)
  { s with dram := { s.dram with mr := (List.range 4).foldl (fun m rc => (List.range 8).foldl (fun m j =>
      smapSet zeroN m (mrKey i (rc / 2) (rc % 2) (mrNums.getD j 0)) (bitsN w (8 * j + 7) (8 * j))) m) s.dram.mr } }

/-- INIT ends: the set's mode registers are written, but for an exit of self-refresh (R374), and the PHY's clock is
locked. -/
def State.drcInitDone (s : State) : State :=
  let s := if s.dram.keep then s else s.mrSet s.drcSet
  let s := { s with dram := { s.dram with retained := false, keep := false } }
  ((s.setDrcState 2).setBit pgDphy Off.dphySTAT 0 true).setBit pgDphy Off.dphySTAT 2 false

def execDrcInitDone (s : State) : Out := .next (onlyIf (s.drcState == 1 && s.domain 4) State.drcInitDone s)

/-! ## Probes and mode registers (R362) -/

/-- The offset of the burst at byte a of a channel and rank (R359; the rank bit lies above the capacity of one rank, log
entry 35). DEDUCED. -/
def State.burstOff (s : State) (rank ch a : Nat) : Nat :=
  rank * (s.rankMib * 2 ^ 20) + (a / 256 * 512 + ch * 256 + a % 256 / 32 * 32) % (s.rankMib * 2 ^ 20)

/-- A write of PROBE_CTL. -/
def State.probeCtl (v : Nat) (s : State) : State :=
  let s := s.setRg pgDrc Off.drcPROBE_CTL (v &&& 0xFFFF1F)
  if bitN v 5 then
    (if s.drcState ≠ 2 ∨ s.dram.probe.isSome then s.intBit pgDrc 9
    else
      let o := s.burstOff (bitsN v 4 4) (bitsN v 3 3) (s.rg pgDrc Off.drcPROBE_ADDR)
      { s with dram := { s.dram with probe := some (v % 8, o) } }.setBit pgDrc Off.drcSTAT 10 true)
  else s

def State.probeWrite (mode v mid : Nat) (s : State) : State :=
  onlyIf (bitN v 5 && v % 8 == mode) (fun s => s.guarded pgDrc Off.drcPROBE_CTL mid false (State.probeCtl v)) s

def execProbeReadCal (v mid : Nat) (s : State) : Out := .next (State.probeWrite 0 v mid s)
def execProbeWriteRead (v mid : Nat) (s : State) : Out := .next (State.probeWrite 1 v mid s)
def execProbeCaTrain (v mid : Nat) (s : State) : Out := .next (State.probeWrite 2 v mid s)
def execProbeGate (v mid : Nat) (s : State) : Out := .next (State.probeWrite 3 v mid s)
def execProbeWckLvl (v mid : Nat) (s : State) : Out := .next (State.probeWrite 4 v mid s)

/-- The result bits of a mode; LP4X has CA0 to CA5 only. -/
def State.probeMask (s : State) : Nat → Nat
  | 0 => 0x3FFFF | 1 => 0x3FFFF | 2 => if s.drcCfg 0 0 = 0 then 0x7F else 0x3F | _ => 3

/-- n free bytes. -/
def State.freeBytes : Nat → State → List Byte × State
  | 0, s => ([], s)
  | n + 1, s =>
    let r := s.fresh
    let t := State.freeBytes n r.2
    (BitVec.ofNat 8 r.1.toNat :: t.1, t.2)

/-- What a WRITE_READ probe leaves in the memory: the channel's part of the pattern where no bit failed; else nothing
is known of the burst (log entry 4). -/
def State.probeStore (o res : Nat) (s : State) : State :=
  let ch := o / 256 % 2
  let pat := (List.range 8).flatMap (fun i => toLE 4 (s.rg pgDrc (Off.drcPROBE_PAT + 4 * (8 * ch + i))))
  let r := if res = 0 then (pat, s) else State.freeBytes 32 s
  r.2.store (0x100000000 + o) r.1

/-- A probe ends: the bits that failed at least once, and the failing samples. -/
def State.probeDone (res errs : Nat) (s : State) : State :=
  match s.dram.probe with
  | none => s
  | some (m, o) =>
    let res := res &&& s.probeMask m
    let s := { s with dram := { s.dram with probe := none } }
    let s := ((s.setBit pgDrc Off.drcSTAT 10 false).setRg pgDrc Off.drcPROBE_RES res).setRg pgDrc Off.drcPROBE_ERRS
      (min errs 0xFFFFFFFF)
    let s := if m = 1 then State.probeStore o res s else s
    s.intBit pgDrc 8

def execProbeDone (res errs : Nat) (s : State) : Out := .next (State.probeDone res errs s)

/-- A write of MR_CMD; dev is what the memory answers to a read where that is not what was written last. GO outside
TRAIN and ONLINE issues nothing. The registers are those of the set point in use (R367; log entry 94). DEDUCED. -/
def State.mrCmd (v : Nat) (dev : Option Nat) (s : State) : State :=
  let s := s.setRg pgDrc Off.drcMR_CMD (v &&& 0x7FFFF)
  let k := mrKey s.drcSet (bitsN v 18 18) (bitsN v 17 17) (v % 256)
  if bitN v 19 && (s.drcState == 2 || s.drcState == 3) then
    (if bitN v 16 then s.setRg pgDrc Off.drcMR_DATA ((dev.getD (smapGet zeroN s.dram.mr k)) % 256)
    else { s with dram := { s.dram with mr := smapSet zeroN s.dram.mr k (bitsN v 15 8) } })
  else s

def execMrWrite (v mid : Nat) (s : State) : Out :=
  .next (onlyIf (bitN v 19 && !bitN v 16) (fun s => s.guarded pgDrc Off.drcMR_CMD mid false (State.mrCmd v none)) s)

def execMrRead (v : Nat) (dev : Option Nat) (mid : Nat) (s : State) : Out :=
  .next (onlyIf (bitN v 19 && bitN v 16) (fun s => s.guarded pgDrc Off.drcMR_CMD mid false (State.mrCmd v dev)) s)

/-! ## Delays and timing sets (R363, R367) -/

/-- A write of a delay register of the PHY. -/
def State.delayWrite (o v mid : Nat) (s : State) : State :=
  let set := (o - 0x400) / 0x400
  if (if set = s.drcSet then s.drcState != 2 else s.drcState == 5) then s.writeErr pgDphy o mid 2
  else s.putReg pgDphy o v

/-- Whether an offset of page DPHY is a delay register. -/
def isDelay (o : Nat) : Bool := decide (0x400 ≤ o) && (rowAt pgDphy o).isSome

def execDphyDelayWrite (o v mid : Nat) (s : State) : Out :=
  .next (onlyIf (isDelay o) (fun s => s.guarded pgDphy o mid false (State.delayWrite o v mid)) s)

/-- A write of a register of a timing set. -/
def State.tsetWrite (o v mid : Nat) (s : State) : State :=
  if (o - Off.drcTSET) / 0x40 = s.drcSet ∧ s.drcState ≠ 0 then s.writeErr pgDrc o mid 3 else s.putReg pgDrc o v

def isTset (o : Nat) : Bool := decide (Off.drcTSET ≤ o) && decide (o < Off.drcLAT_TGT) && o % 4 == 0

def execTsetWrite (o v mid : Nat) (s : State) : Out :=
  .next (onlyIf (isTset o) (fun s => s.guarded pgDrc o mid false (State.tsetWrite o v mid)) s)

/-! ## Requests at the ports (R359, R364, R368 to R372) -/

/-- The row that a request needs is open. -/
def State.rowOpen (s : State) (a : Nat) : Bool :=
  smapGet zeroN s.dram.rows (s.dramBank (dramOff a)) == s.dramRow (dramOff a) + 1

/-- The port at which a master's requests arrive (R369). -/
def reqPort (r : DramReq) : Nat :=
  if r.mid < 3 then 5 else if r.mid = 3 then 6 else if r.mid < 0x10 then 7
  else if r.mid < 0x30 then (r.mid - 0x10) / 8 else 4

/-- A request waits: in a frequency change all do, in a fill those of its range (R368, R372). -/
def State.reqHeld (s : State) (r : DramReq) : Bool := s.drcHolds r.addr r.len

/-- Request b stays behind an earlier request a: both belong to one channel whose responses stay in order (R385, R386),
or to one master and overlap (R370). -/
def reqBefore (a b : DramReq) : Bool :=
  ((chanOf a.mid a.id).isSome && chanOf a.mid a.id == chanOf b.mid b.id)
  || (a.mid == b.mid && rangesMeet (dramOff a.addr, dramOff a.addr + a.len) (dramOff b.addr, dramOff b.addr + b.len))

/-- The requests that can issue, by index: those not held, behind none that they must follow, and, at urgency 3 of ports 5
to 7, not within 250 ns of another while requests of QoS 12 to 15 wait (R370). -/
def State.reqReady (s : State) (recent : Bool) : List Nat :=
  let l := s.dram.reqs
  let high := l.any (fun r => decide (12 ≤ r.1.qos))
  (List.range l.length).filter (fun i =>
    match l[i]? with
    | none => false
    | some r =>
      !s.reqHeld r.1 && (l.take i).all (fun q => !reqBefore q.1 r.1)
      && !(r.2 == 3 && decide (5 ≤ reqPort r.1) && recent && high))

/-- The order of R370 as a number, lower first: class, QoS, urgency, open row; the older of equals comes first in the
queue. -/
def State.reqOrder (s : State) (r : DramReq × Nat) : Nat :=
  let cls := if r.2 = 3 then (if reqPort r.1 ≤ 4 then 0 else 1) else 2
  ((cls * 16 + (15 - min 15 r.1.qos)) * 4 + (3 - min 3 r.2)) * 2 + b2n (!s.rowOpen r.1.addr)

/-- The request that issues next. -/
def State.reqNext (s : State) (recent : Bool) : Option Nat :=
  (s.reqReady recent).foldl (fun b i =>
    match b with
    | none => some i
    | some j =>
      match s.dram.reqs[j]?, s.dram.reqs[i]? with
      | some x, some y => if s.reqOrder y < s.reqOrder x then some i else b
      | _, _ => b) none

/-- MAX_WAIT of a port takes an age in ns. -/
def State.maxWait (p age : Nat) (s : State) : State :=
  let o := Off.drcMAX_WAIT + 4 * p
  s.setRg pgDrc o (max (s.rg pgDrc o) (min age 0xFFFFFFFF))

/-- What a request does: its bytes, and its response (R360, R361, R366, R372). -/
def State.reqRun (r : DramReq) (s : State) : State :=
  if r.wr then
    (if s.slotRefused r.mid r.addr r.len then s.slotRefuse r.mid r.addr r.len
    else match s.memWriteBus r.mid r.addr r.bs with
    | (true, s) => s.ok
    | (false, s) => s.errFor r.mid)
  else
    match s.memRead r.mid r.addr r.len with
    | (some bs, s) => s.deliver bs
    | (none, s) => s.errFor r.mid

/-- Request i is served. -/
def State.serve (i age : Nat) (s : State) : State :=
  match s.dram.reqs[i]? with
  | none => s
  | some (r, urg) =>
    let s := { s with dram := { s.dram with reqs := s.dram.reqs.eraseIdx i } }
    let s := if urg = 3 then State.maxWait (reqPort r) age s else s
    State.lateResp r.mid r.wr r.lost s (State.reqRun r s)

/-- The QoS at which a request is issued (R11, R388): control-plane masters use their field of MTX.QOS, at most 11,
the accesses of the two-wire target 11 (R427); the loader and the tunnels 8, and so ring transfers (R288); an engine's
memory port that of the slot it was posted for (R79); other signal-plane accesses keep to 12 to 15, their value in the
image being told. -/
def State.issueQos (s : State) (r : DramReq) : Nat :=
  let high := clampN 12 15 r.qos
  if r.mid ≤ 5 then
    (if r.mid = 2 ∧ r.qos = 11 then 11 else min 11 (s.fld pgMtx Off.mtxQOS (4 * r.mid + 3) (4 * r.mid)))
  else if r.mid < 0x10 then 8
  else if r.mid < 0x30 then
    (match (s.engine (r.mid - 0x10)).mp.find? (fun m => !m.done && m.ext.any (fun a =>
        rangesMeet (memKey a, memKey a + 4) (memKey r.addr, memKey r.addr + r.len))) with
    | some m => m.qos
    | none => high)
  else if r.mid = 0x31 ∧ r.qos < 12 then 8
  else high

/-- A request of another command waits at its port, for its answer comes later: the frequency change, the fill or an
earlier request that holds it (R368, R370, R372, R385). -/
def State.reqWaits (s : State) (r : DramReq) : Bool := s.reqHeld r || s.dram.reqs.any (fun q => reqBefore q.1 r)
def State.enqueue (r : DramReq) (s : State) : State :=
  { s with dram := { s.dram with reqs := s.dram.reqs ++ [({ r with qos := s.issueQos r }, 0)] } }.wait

/-- Requests arrive at the ports, and one is scheduled and served; recent: a request of urgency 3 of ports 5 to 7 was
served within the last 250 ns; age: the age of the served one in ns. -/
def State.dramRequest (arrived : List DramReq) (recent : Bool) (age : Nat) (s : State) : State :=
  let new := (arrived.filter (fun r => targetOf r.addr == .drc && (!r.wr || r.bs.length == r.len))).map
    (fun r => ({ r with qos := s.issueQos r, lost := false }, 0))
  let s := { s with dram := { s.dram with reqs := s.dram.reqs ++ new } }
  match s.reqNext recent with
  | some i => State.serve i age s
  | none => s

def execDramRequest (arrived : List DramReq) (recent : Bool) (age : Nat) (us : List (Nat × Nat)) (s : State) : Out :=
  .next (State.dramRequest arrived recent age (s.upset us))

/-- The i-th waiting request reaches the next level of its port's LAT_TGT. -/
def State.urgency (i : Nat) (s : State) : State :=
  match s.dram.reqs[i]? with
  | none => s
  | some (r, u) =>
    if 3 ≤ u then s
    else
      let s := { s with dram := { s.dram with reqs := s.dram.reqs.set i (r, u + 1) } }
      if u + 1 = 3 then State.maxWait (reqPort r) (s.fld pgDrc (Off.drcLAT_TGT + 4 * reqPort r) 15 0) (s.inc pgDrc Off.drcURG3_CNT)
      else s

def execUrgencyRaise (i : Nat) (s : State) : Out := .next (State.urgency i s)

def execRowClose (bank : Nat) (s : State) : Out :=
  .next { s with dram := { s.dram with rows := smapSet zeroN s.dram.rows bank 0 } }

/-! ## Refresh and self-refresh (R365, R366) -/

/-- A request for which a refresh may be postponed waits. -/
def State.pressing (s : State) : Bool := s.dram.reqs.any (fun r => decide (12 ≤ r.1.qos) || r.2 == 3)

/-- The refresh interval of a bank ends; postpone is the controller's choice, within its limits. -/
def State.refreshBank (bank : Nat) (postpone : Bool) (s : State) : State :=
  let n := smapGet zeroN s.dram.postponed bank
  if postpone && s.pressing && decide (n < 4) then
    { s with dram := { s.dram with postponed := smapSet zeroN s.dram.postponed bank (n + 1) } }
  else
    { s with dram := { s.dram with postponed := smapSet zeroN s.dram.postponed bank 0
                                   rows := smapSet zeroN s.dram.rows bank 0 } }

/-- With REF_AB every bank of the rank and channel is refreshed. -/
def execRefresh (bank : Nat) (postpone : Bool) (s : State) : Out :=
  .next (onlyIf (s.domain 4 && (s.drcState == 2 || s.drcState == 3)) (fun s =>
    if s.drcCfg 6 6 = 1 then forEach (List.range 16) (fun i st => State.refreshBank (bank / 16 * 16 + i) postpone st) s
    else State.refreshBank bank postpone s) s)

/-- The fastest rate that MR4 of any rank reports: 0 base or slower, 1 twice, 2 four times, 3 above the limit. -/
def State.tempPoll (rate : Nat) (s : State) : State :=
  let m := min rate 2
  let s := if s.fld pgDrc Off.drcSTAT 6 5 ≠ m then (s.setFld pgDrc Off.drcSTAT 6 5 m).intBit pgDrc 6 else s
  if rate = 3 then s.pageErr pgDrc 2 7 else s

def execTempPoll (rate : Fin 4) (s : State) : Out :=
  .next (onlyIf (s.domain 4 && (s.drcState == 2 || s.drcState == 3)) (State.tempPoll rate) s)

/-- An engine with an enabled slot in DRAM is ARMED, RUNNING, DETACHED or SKIPPING (R366, R368). -/
def State.srBlocked (s : State) : Bool :=
  (List.range 32).any (fun nn =>
    (match (s.engine nn).st with
    | .armed | .running | .detached | .skipping => true
    | _ => false)
    && (s.slots nn).any (fun k => targetOf (s.slotExtent nn k).1 == .drc))

/-- Every port has been idle for SR_IDLE. -/
def execSrEnter (s : State) : Out :=
  .next (onlyIf (s.drcState == 3 && s.fld pgDrc Off.drcSR_IDLE 23 0 != 0 && !s.srBlocked && s.dram.reqs.isEmpty
    && s.dram.fill.isNone) (fun s => { s with dram := { s.dram with rows := [] } }.setDrcState 4) s)

/-! ## Frequency change (R368) -/

/-- The reason for which a change to set t is refused; 0 none. -/
def State.fcReason (s : State) (t : Nat) : Nat :=
  if t = s.drcSet ∨ ¬ s.tsetValid t then 1
  else if ¬ (s.drcState = 2 ∨ s.drcState = 3 ∨ s.drcState = 4) then 2
  else if s.srBlocked then 3
  else if s.dram.probe.isSome ∨ s.dram.fill.isSome then 4
  else 0

/-- A write of FC_CTL; a refused GO stores nothing (R499). -/
def State.fcCtl (v mid : Nat) (s : State) : State :=
  if bitN v 1 then
    (match s.fcReason (v % 2) with
    | 0 =>
      let s := s.setRg pgDrc Off.drcFC_CTL (v % 2)
      { s with dram := { s.dram with prev := s.drcState, rows := [] } }.setDrcState 5
    | c => (s.setRg pgDrc Off.drcFC_STAT c).writeErr pgDrc Off.drcFC_CTL mid 5)
  else s.setRg pgDrc Off.drcFC_CTL (v % 2)

def execFcGo (v mid : Nat) (s : State) : Out :=
  .next (onlyIf (bitN v 1) (fun s => s.guarded pgDrc Off.drcFC_CTL mid false (State.fcCtl v mid)) s)

/-- A frequency change completes: the clock is in lock again, and the memory is on the set point of the other set, whose
mode registers match it (R367, R368; log entry 94). DEDUCED. -/
def State.fcDone (s : State) : State :=
  let t := 1 - s.drcSet
  let s := (s.mrSet t).setFld pgDrc Off.drcSTAT 3 3 t
  let s := (s.setBit pgDphy Off.dphySTAT 1 (t == 1)).setBit pgDphy Off.dphySTAT 0 true
  let s := s.setDrcState (if s.dram.prev = 2 then 2 else 3)
  (s.inc pgDrc Off.drcFC_CNT).intBit pgDrc 4

def execFcDone (s : State) : Out := .next (onlyIf (s.drcState == 5) State.fcDone s)

/-! ## Fill, clears, the PHY (R372, R375, R376, R378) -/

/-- A write of FILL_CTL: GO acts in ONLINE, and while no fill runs. The range ends at the usable capacity (log
entry 36). DESIGN CHOICE. A fill that meets a slot of a running engine is a write into it, and is refused (R12, R81).
System requests to the range wait until the fill has passed (R372), so its zeros, with correct check bits, are in place
for them from its start. -/
def State.fillCtl (v mid : Nat) (s : State) : State :=
  if bitN v 0 && s.drcState == 3 && s.dram.fill.isNone then
    let a := s.rg pgDrc Off.drcFILL_LO / 2 ^ 20 * 2 ^ 20 + 2 ^ 32 * s.fld pgDrc Off.drcFILL_HI 0 0
    let e := min (a + s.fld pgDrc Off.drcFILL_LEN 13 0 * 2 ^ 20) (s.rg pgDrc Off.drcCAP * 2 ^ 20)
    if (s.slotOwners (0x100000000 + a) (e - a)).isEmpty then
      let s := s.eraseMem (fun k => decide (0x100000000 + a ≤ k) && decide (k < 0x100000000 + e))
      { s with dram := { s.dram with fill := some (a, e) } }.setBit pgDrc Off.drcSTAT 9 true
    else s.slotRefuse mid (0x100000000 + a) (e - a)
  else s

def execFillGo (v mid : Nat) (s : State) : Out :=
  .next (onlyIf (bitN v 0) (fun s => s.guarded pgDrc Off.drcFILL_CTL mid false (State.fillCtl v mid)) s)

/-- The fill has passed its range. -/
def State.fillDone (s : State) : State :=
  if s.dram.fill.isSome then
    ({ s with dram := { s.dram with fill := none } }.setBit pgDrc Off.drcSTAT 9 false).intBit pgDrc 10
  else s

def execFillDone (s : State) : Out := .next (onlyIf (s.drcState == 3 || s.drcState == 4) State.fillDone s)

/-- A write of MAX_WAIT: 0 clears it, another value is ignored. -/
def State.maxWaitWrite (p v : Nat) (s : State) : State :=
  if v % 2 ^ 32 = 0 then s.setRg pgDrc (Off.drcMAX_WAIT + 4 * p) 0 else s

def execMaxWaitClear (port : Fin 8) (v mid : Nat) (s : State) : Out :=
  .next (s.guarded pgDrc (Off.drcMAX_WAIT + 4 * port) mid false (State.maxWaitWrite port v))

def execDphyUnlock (s : State) : Out :=
  .next (onlyIf (s.domain 4 && (s.drcState == 3 || s.drcState == 4) && s.bit pgDphy Off.dphySTAT 0) (fun s =>
    (s.setBit pgDphy Off.dphySTAT 0 false).pageErr pgDphy 3 0) s)

/-- A ZQ calibration ends: one that INIT issued, or a periodic one under ZQ_EN (R361, R378, R379). -/
def State.zqDone (ok : Bool) (s : State) : State :=
  let s := s.setBit pgDphy Off.dphySTAT 2 false
  if ok then s else s.pageErr pgDphy 2 1

def execZqCalibration (ok : Bool) (s : State) : Out :=
  .next (onlyIf (s.domain 4 && (s.drcState == 1 && s.bit pgDphy Off.dphySTAT 2
      || s.bit pgDphy Off.dphyCTL 0 && (s.drcState == 2 || s.drcState == 3))) (State.zqDone ok) s)

end Sys2Proof.Machine
end

