-- ==== Sys2Proof/Machine/Ctl.lean ====
section
/-! DEFINITION. The control page operations of chapter 17, and of MTX: cores, watchdog, boot port, PCIe function, fuses,
debug lock, doorbells and GPIO (R393 to R424). -/

namespace Sys2Proof.Machine

/-! ## Cores (R393, R400, R420) -/

/-- The debug lock is open: DBG_LOCK is not set, or the unlock procedure has passed (R416). -/
def State.debugOpen (s : State) : Bool :=
  !s.bit pgFuse (Off.fuseWORD + 4 * 28) 0 || s.fld pgSys Off.sysDBG_STAT 1 0 == 1

/-- What the test access port is used for (R416). -/
inductive TapUse
  | bypass | idcode | unlock | scan | other
  deriving DecidableEq, Repr

/-- A use of the test access port that the locks leave enabled: with DBG_LOCK set and not unlocked, BYPASS, IDCODE and the
unlock registers; with TEST_LOCK set, no boundary scan (R416). -/
def State.tapAllowed (s : State) : TapUse → Bool
  | .bypass | .idcode | .unlock => true
  | .scan => s.debugOpen && !s.bit pgFuse (Off.fuseWORD + 4 * 28) 1
  | .other => s.debugOpen

/-- A core is reset: the lock of its sequence is released, and its reservation and what was held back of it are lost
(R384, R389). -/
def State.dropCore (n : Nat) (s : State) : State :=
  let m := s.mtx
  let s := if m.lock.any (fun l => l.2.1 == n) then
      { s.setRg pgMtx Off.mtxSTAT 0 with mtx := { m with lock := none } } else s
  { s with mtx := { s.mtx with
      resv0 := if n = 0 then none else s.mtx.resv0
      resv1 := if n = 1 then none else s.mtx.resv1
      held := s.mtx.held.filter (fun h => h.1 != n) } }

/-- A write of CPUn.CTL: RUN = 1 releases the core at RESET_VEC, RUN = 0 holds it in reset (R393). -/
def State.cpuCtl (n v : Nat) (s : State) : State :=
  let s := s.putReg (pgCpu + n) Off.cpuCTL v
  if bitN v 0 then s else s.dropCore n

/-- HALTED: HALT_REQ acts on a running core only while debug is unlocked (R420). -/
def State.cpuHalted (s : State) (n : Nat) : Bool :=
  s.bit (pgCpu + n) Off.cpuCTL 0 && s.bit (pgCpu + n) Off.cpuCTL 1 && s.debugOpen

/-- STAT: WFI is the program's own doing, a free value while the core runs (log entry 4). -/
def State.cpuStat (s : State) (n : Nat) : Nat × State :=
  if !s.bit (pgCpu + n) Off.cpuCTL 0 then (0, s)
  else if s.cpuHalted n then (4, s)
  else let r := s.fresh; (1 + 2 * (r.1.toNat % 2), r.2)

/-- The lowest page whose line is asserted and enabled for core n (R400). -/
def State.claim (s : State) (n : Nat) : Nat :=
  match allPages.find? (fun p => s.line p && s.bit (pgCpu + n) (Off.cpuIE + 4 * (p / 32)) (p % 32)) with
  | some p => p + 2 ^ 31
  | none => 0

/-- IRQ_Ni is driven low (R401); its clamp releases it (R453). -/
def State.irqLow (s : State) (i : Nat) : Bool :=
  let o := if i = 0 then Off.sysIRQ0_MASK else Off.sysIRQ1_MASK
  s.domain 1 && allPages.any (fun p => s.line p && s.bit pgSys (o + 4 * (p / 32)) (p % 32))

def State.cpuCtlWrite (n : Nat) (c : Bool) (v mid : Nat) (s : State) : State :=
  onlyIf c (fun s => s.guarded (pgCpu + n) Off.cpuCTL mid false (State.cpuCtl n v)) s

def execCpuRun (n : Fin 2) (v mid : Nat) (s : State) : Out := .next (State.cpuCtlWrite n (bitN v 0) v mid s)
def execCpuHold (n : Fin 2) (v mid : Nat) (s : State) : Out := .next (State.cpuCtlWrite n (!bitN v 0) v mid s)
def execHaltReq (n : Fin 2) (v mid : Nat) (s : State) : Out := .next (State.cpuCtlWrite n (bitN v 1) v mid s)

/-! ## Watchdog (R394, R395) -/

def State.wdEn (s : State) : Bool := s.bit pgSys Off.sysWDOG_CTL 0

/-- The raw counts of a millisecond. -/
def msRaw : Nat := 500000

/-- The count starts from TIME again. -/
def State.wdLoad (s : State) : State :=
  { s with ctl := { s.ctl with
      wdTime := s.fld pgSys Off.sysWDOG_CTL 23 8
      wdLeft := s.fld pgSys Off.sysWDOG_CTL 23 8 * msRaw
      wdWarn := s.fld pgSys Off.sysWDOG_CTL 27 24
      wdWarned := false } }

/-- A write of WDOG_CTL: EN once set stays set; TIME and WARN written under EN = 1 wait for the next kick (R395). -/
def State.wdogCtl (v : Nat) (s : State) : State :=
  if s.wdEn then s.putReg pgSys Off.sysWDOG_CTL (putBits v 0 0 1)
  else
    let s := s.putReg pgSys Off.sysWDOG_CTL v
    if bitN v 0 then s.wdLoad else s

def State.wdogKick (v : Nat) (s : State) : State := if v % 2 ^ 32 = 0xC1A0 ∧ s.wdEn then s.wdLoad else s

/-- WDOG_LEFT: the ms left, truncated (R500); 0 while EN is 0 (R395). -/
def State.wdogLeft (s : State) : Nat := if s.wdEn && !s.ctl.wdExpired then s.ctl.wdLeft / msRaw else 0

/-- The watchdog counts: enabled, in RUN, SHADOW or SERVICE, and not expired. -/
def State.wdCounts (s : State) : Bool := s.wdEn && s.running && !s.ctl.wdExpired

/-- One raw count of the watchdog (R394; its clock is the model's time, log entry 19). -/
def State.wdogTick (s : State) : State :=
  if s.wdCounts then { s with ctl := { s.ctl with wdLeft := s.ctl.wdLeft - 1 } } else s

/-- WARN/16 of TIME remain. -/
def State.wdWarn (s : State) : State :=
  { s.intBit pgSys 0 with ctl := { s.ctl with
      wdWarned := true, wdLeft := min s.ctl.wdLeft (s.ctl.wdTime * s.ctl.wdWarn * msRaw / 16) } }

def execWdogEnable (v mid : Nat) (s : State) : Out :=
  .next (onlyIf (bitN v 0) (fun s => s.guarded pgSys Off.sysWDOG_CTL mid false (State.wdogCtl v)) s)
def execWdogKick (v mid : Nat) (s : State) : Out :=
  .next (s.guarded pgSys Off.sysWDOG_KICK mid false (State.wdogKick v))
def execWdogWarn (s : State) : Out :=
  .next (onlyIf (s.wdCounts && !s.ctl.wdWarned) State.wdWarn s)

/-- Expiry: a unit that is ACTIVE in a pair strikes with cause 3; the WDOG reset is due. A WARN of 0 falls in the same
instant. -/
def State.wdogExpire (s : State) : State :=
  let s := if s.ctl.wdWarned then s else s.wdWarn
  { s.strike 3 pgSys with ctl := { s.ctl with wdExpired := true, wdWarned := true, wdLeft := 0 } }

def execWdogExpire (s : State) : Out :=
  .next (onlyIf (s.wdCounts && (s.ctl.wdWarned || s.ctl.wdWarn == 0)) State.wdogExpire s)

/-! ## The boot port (R407, R408, R419) -/

/-- A flash command is in progress. -/
def State.bootBusy (s : State) : Bool := !s.ctl.flashIn.isEmpty || s.ctl.flashOut != 0

/-- STAT, from the FIFO and the command in progress. -/
def State.showBoot (s : State) : State :=
  s.setRg pgBoot Off.bootSTAT (b2n s.bootBusy + 2 * s.ctl.bootFifo.length)

/-- The digest registers, over the bytes that entered the unit (R408; word i holds bytes 4i to 4i + 3, log entry 3). -/
def State.showHash (s : State) : State :=
  let d := sha384 s.ctl.hashBytes
  forEach (List.range 12) (fun i st => st.setRg pgBoot (Off.bootHASH + 4 * i) (leAt d (4 * i) 4)) s

/-- Bytes of a read enter the FIFO and, while CFG.HASH is 1, the hash unit, as room allows. -/
def State.flashIntake (s : State) : State :=
  let k := 256 - s.ctl.bootFifo.length
  let now := s.ctl.flashIn.take k
  if now.isEmpty then s
  else
    let s := { s with ctl := { s.ctl with bootFifo := s.ctl.bootFifo ++ now, flashIn := s.ctl.flashIn.drop k } }
    if s.bit pgBoot Off.bootCFG 12 then
      { s with ctl := { s.ctl with hashBytes := s.ctl.hashBytes ++ now } }.showHash else s

/-- Bytes that a write still owes leave the FIFO for the flash. -/
def State.flashOutflow (s : State) : State :=
  let now := s.ctl.bootFifo.take s.ctl.flashOut
  { s with ctl := { s.ctl with
      bootFifo := s.ctl.bootFifo.drop s.ctl.flashOut
      flashOut := s.ctl.flashOut - now.length
      flashSent := s.ctl.flashSent ++ now } }

/-- Address bytes of a command. -/
def addrBytes : Nat → Nat
  | 0 => 0 | 1 => 3 | 2 => 4 | _ => 0

/-- A write of CMD. data: the bytes that the flash answers to a read (R408). In 8D-8D-8D the inverse of the opcode is
its second byte (R407). A GO while BUSY is ignored, and the other fields are stored (log entry 37). DESIGN CHOICE. -/
def State.bootCmd (v : Nat) (data : List Byte) (s : State) : State :=
  let s := s.putReg pgBoot Off.bootCMD v
  if s.bootBusy || !bitN v 31 then s
  else
    let n := bitsN v 19 12 + 1
    let s := { s with ctl := { s.ctl with
      flashSent := toLE 1 v ++ (if s.fld pgBoot Off.bootCFG 1 0 = 2 then toLE 1 (255 - v % 256) else []) ++ toBE (addrBytes (bitsN v 9 8)) (s.rg pgBoot Off.bootADDR) } }
    let s :=
      if bitN v 10 then { s with ctl := { s.ctl with flashOut := n } }.flashOutflow
      else { s with ctl := { s.ctl with flashIn := (data ++ List.replicate n 0xFF).take n } }.flashIntake
    s.showBoot

def execFlashCmd (v : Nat) (data : List Byte) (mid : Nat) (s : State) : Out :=
  .next (onlyIf (bitN v 31) (fun s => s.guarded pgBoot Off.bootCMD mid false (State.bootCmd v data)) s)

/-- A read of FIFO: four bytes leave it; bytes that it does not hold are free values (log entry 4). -/
def State.bootFifoRead (mid : Nat) (s : State) : State :=
  match s.ctl.bootFifo with
  | [] => s.refuseAccess pgBoot Off.bootFIFO mid false 4
  | f =>
    let r := if f.length < 4 then State.freeBytes (4 - f.length) s else ([], s)
    let s := { r.2 with ctl := { r.2.ctl with bootFifo := f.drop 4 } }
    (s.flashIntake.showBoot).deliver (f.take 4 ++ r.1)

/-- A write of FIFO: four bytes enter it, or an error response where it has no room for them. -/
def State.bootFifoWrite (v mid : Nat) (s : State) : State :=
  if 256 < s.ctl.bootFifo.length + 4 then s.refuseAccess pgBoot Off.bootFIFO mid true 4
  else { s with ctl := { s.ctl with bootFifo := s.ctl.bootFifo ++ toLE 4 v } }.flashOutflow.showBoot

def execBootFifoRead (mid : Nat) (s : State) : Out :=
  .next (s.guardRead pgBoot Off.bootFIFO mid (fun _ => 0) (State.bootFifoRead mid))
def execBootFifoWrite (v mid : Nat) (s : State) : Out :=
  .next (s.guarded pgBoot Off.bootFIFO mid false (State.bootFifoWrite v mid))

/-- A write of CFG; HASH rising begins a digest anew (log entry 37). DESIGN CHOICE. -/
def State.bootCfg (v : Nat) (s : State) : State :=
  let was := s.bit pgBoot Off.bootCFG 12
  let s := s.putReg pgBoot Off.bootCFG v
  if !was && bitN v 12 then { s with ctl := { s.ctl with hashBytes := [] } } else s

/-! ## PCIe (R409 to R413, R422, R477) -/

def State.linkUp (s : State) : Bool := s.bit pgPcie Off.pcieSTAT 0

/-- The class C and D registers of a page, those of p excepted, take their reset values (R398). -/
def State.resetPageRegs (page : Nat) (p : Nat → Bool) (s : State) : State :=
  s.clearRegs (fun k => k / 0x1000 == page && (retOf k == .c || retOf k == .d) && !p (k % 0x1000))

/-- The link is lost: the requests of PCIe that are outstanding complete at their targets, and their responses are
discarded (R389). -/
def State.pcieLost (s : State) : State :=
  { s with
    dram := { s.dram with reqs := s.dram.reqs.map (fun r => if r.1.mid = 3 then ({ r.1 with lost := true }, r.2) else r) }
    sched := { s.sched with held := s.sched.held.map (fun h => if h.mid = 3 then { h with lost := true } else h) }
    rtr := { s.rtr with held := s.rtr.held.map (fun h => if h.mid = 3 then { h with lost := true } else h) } }

/-- A function level reset: a BLOCK reset of PCIE but for IDS and SUBSYS, which clears the MSI-X table, and counts
(R413). -/
def State.flr (s : State) : State :=
  let n := s.rg pgPcie Off.pcieFLR_CNT
  let s := s.pcieLost
  let s := State.resetPageRegs pgPcie (fun o => o == Off.pcieIDS || o == Off.pcieSUBSYS) s
  (s.setRg pgPcie Off.pcieFLR_CNT (satAdd32 n 1)).intBit pgPcie 1

def execFlr (s : State) : Out := .next (onlyIf s.linkUp State.flr s)

/-- PCIE_PERST_N low for 1 µs acts as the function level reset and holds the link down until the pin is high. -/
def State.perst (low : Bool) (s : State) : State :=
  let s := { s with ctl := { s.ctl with perst := low } }
  if low then s.flr else s

def execPciePerst (low : Bool) (s : State) : Out :=
  .next (onlyIf (s.ctl.perst != low && s.domain 1) (State.perst low) s)

/-- The link comes up, with its generation, width and LTSSM state, or is lost (R422). -/
def State.pcieLink (up : Bool) (gen width ltssm : Nat) (s : State) : State :=
  ((if up then s else s.pcieLost).setRg pgPcie Off.pcieSTAT
    ((if up then 1 + 2 * clampN 1 4 gen + 16 * clampN 1 2 width else 0) + ltssm % 64 * 2 ^ 8)).intBit pgPcie 0

def execPcieLinkChange (up : Bool) (gen width ltssm : Nat) (s : State) : Out :=
  .next (onlyIf (s.pageEn pgPcie && s.linkUp != up && s.domain 1 && (!up || s.bit pgPcie Off.pcieCTL 0 && !s.ctl.perst))
    (State.pcieLink up gen width ltssm) s)

/-- IDS and SUBSYS are writable only while LINK_EN = 0 (R422). -/
def State.pcieId (off v : Nat) (s : State) : State :=
  if s.bit pgPcie Off.pcieCTL 0 then s else s.putReg pgPcie off v

/-- A write of a dword of the MSI-X table: unmasking a vector whose pending bit is set sends one message if the line of
its page is still asserted (R412). -/
def State.msixWrite (off v : Nat) (s : State) : State :=
  let i := (off - Off.pcieMSIX) / 4
  let was := s.bit pgPcie off 0
  let s := s.setRg pgPcie off (if i % 4 = 3 then v % 2 else v)
  if i % 4 = 3 && was && !bitN v 0 then
    let n := i / 4
    let page := if 0x60 ≤ n then n - 0x60 + 0x80 else n
    let o := Off.pciePBA + 4 * (n / 32)
    if s.bit pgPcie o (n % 32) then
      let s := s.setBit pgPcie o (n % 32) false
      if pageKind page ≠ .none ∧ s.line page then s.msix n else s
    else s
  else s

def execMsixUnmask (n : Fin 128) (v mid : Nat) (s : State) : Out :=
  .next (onlyIf (!bitN v 0) (fun s =>
    s.guarded pgPcie (Off.pcieMSIX + 16 * n + 12) mid false (State.msixWrite (Off.pcieMSIX + 16 * n + 12) v)) s)

/-! ## Fuses (R414, R415, R423) -/

def fuseZero : Nat → Word := fun _ => 0

/-- PROG_KEY: the key unlocks programming until the next reset; no other value has an effect. -/
def State.fuseKey (v : Nat) (s : State) : State :=
  if v % 2 ^ 32 = 0xF05E then s.setBit pgFuse Off.fusePROG_STAT 1 true else s

/-- The words that refuse programming. -/
def fuseRefused (a : Nat) : Bool := a == 24 || a == 25 || (decide (29 ≤ a) && decide (a ≤ 47))

/-- PROG_CTL.GO: bad is the mask of the bits that do not program. The word read back becomes the shadow. -/
def State.fuseGo (bad mid : Nat) (s : State) : State :=
  let a := s.fld pgFuse Off.fusePROG_ADDR 5 0
  if s.mode ≠ 5 ∨ !s.bit pgFuse Off.fusePROG_STAT 1 ∨ fuseRefused a then s.writeErr pgFuse Off.fusePROG_CTL mid 1
  else
    let want := s.rg pgFuse Off.fusePROG_DATA
    let old := (smapGet fuseZero s.ctl.fuses a).toNat
    let got := old ||| (want &&& (0xFFFFFFFF ^^^ bad % 2 ^ 32))
    let s := { s with ctl := { s.ctl with fuses := smapSet fuseZero s.ctl.fuses a (w32 got) } }
    let s := s.setRg pgFuse (Off.fuseWORD + 4 * a) got
    if got &&& want = want then (s.setBit pgFuse Off.fusePROG_STAT 2 false).intBit pgFuse 0
    else (s.setBit pgFuse Off.fusePROG_STAT 2 true).writeErr pgFuse Off.fusePROG_CTL mid 1

def execFuseProgKey (v mid : Nat) (s : State) : Out :=
  .next (s.guarded pgFuse Off.fusePROG_KEY mid false (State.fuseKey v))
def execFuseProgGo (v bad mid : Nat) (s : State) : Out :=
  .next (onlyIf (bitN v 0) (fun s => s.guarded pgFuse Off.fusePROG_CTL mid false (State.fuseGo bad mid)) s)

/-! ## Debug unlock (R416, R417, R418) -/

/-- n bytes of the ring-oscillator entropy source. -/
def State.entropy (n : Nat) (s : State) : List Byte × State :=
  ((List.range n).map (fun i => Config.freeByte (s.freeCtr + i)), { s with freeCtr := s.freeCtr + n })

/-- DBG_CTL.REQ: a new challenge: serial number, request count, entropy. -/
def State.dbgReq (s : State) : State :=
  let r := State.entropy 32 { s with ctl := { s.ctl with dbgReqs := (s.ctl.dbgReqs + 1) % 2 ^ 64 } }
  let s := r.2
  let bs := toLE 4 (s.rg pgFuse (Off.fuseWORD + 96)) ++ toLE 4 (s.rg pgFuse (Off.fuseWORD + 100))
    ++ toLE 8 s.ctl.dbgReqs ++ r.1
  let s := forEach (List.range 12) (fun i st => st.setRg pgSys (Off.sysDBG_CHAL + 4 * i) (leAt bs (4 * i) 4)) s
  (s.setBit pgSys Off.sysDBG_STAT 4 true).intBit pgSys 3

/-- The bytes of a run of registers, least significant first. -/
def State.regBytes (s : State) (page off n : Nat) : List Byte :=
  (List.range n).flatMap (fun i => toLE 4 (s.rg page (off + 4 * i)))

/-- The response opens the lock: its key has the hash of the fuses, and it signs the challenge (R416). -/
def State.dbgPass (s : State) : Bool :=
  let resp := s.regBytes pgSys Off.sysDBG_RESP 49
  s.bit pgSys Off.sysDBG_STAT 4 && s.fld pgSys Off.sysDBG_STAT 1 0 != 2
    && sha384 (trailerKey resp) == s.fuseHash 12
    && trailerValid resp (sha384 (s.regBytes pgSys Off.sysDBG_CHAL 12))

/-- A failure: counted, the challenge invalid; the third blocks unlocking until POR. -/
def State.dbgFail (s : State) : State :=
  let f := min 3 (s.fld pgSys Off.sysDBG_STAT 3 2 + 1)
  let st := s.fld pgSys Off.sysDBG_STAT 1 0
  (s.setRg pgSys Off.sysDBG_STAT ((if f = 3 ∧ st ≠ 1 then 2 else st) + 4 * f)).intBit pgSys 2

def State.dbgGo (s : State) : State :=
  if s.dbgPass then (s.setFld pgSys Off.sysDBG_STAT 1 0 1).intBit pgSys 1 else s.dbgFail

/-- A write of DBG_CTL. -/
def State.dbgCtl (v : Nat) (s : State) : State :=
  let s := if bitN v 0 then s.dbgReq else s
  if bitN v 1 then s.dbgGo else s

def execDbgReq (v mid : Nat) (s : State) : Out :=
  .next (onlyIf (bitN v 0) (fun s => s.guarded pgSys Off.sysDBG_CTL mid false (State.dbgCtl v)) s)
def execDbgGo (v mid : Nat) (s : State) : Out :=
  .next (onlyIf (bitN v 1) (fun s => s.guarded pgSys Off.sysDBG_CTL mid false (State.dbgCtl v)) s)

/-! ## Doorbells (R421) -/

/-- A write of DOORBELL: bit 0 interrupts the AOC, bit 1 sets A2H. -/
def State.doorbell (v : Nat) (s : State) : State :=
  let s := if bitN v 0 then { s with ctl := { s.ctl with aocDoorbells := s.ctl.aocDoorbells + 1 } } else s
  if bitN v 1 then s.intBit pgAoc 0 else s

def execDoorbellH2a (v mid : Nat) (s : State) : Out :=
  .next (onlyIf (bitN v 0) (fun s => s.guarded pgAoc Off.aocDOORBELL mid false (State.doorbell v)) s)
def execDoorbellA2h (v mid : Nat) (s : State) : Out :=
  .next (onlyIf (bitN v 1) (fun s => s.guarded pgAoc Off.aocDOORBELL mid false (State.doorbell v)) s)

/-! ## GPIO (R424) -/

/-- The pin levels: OUT where DIR is 1, else what the outside drives. -/
def State.gpioIn (s : State) : Nat :=
  let d := s.rg pgGpio Off.gpioDIR
  (s.rg pgGpio Off.gpioOUT &&& d) ||| (s.ctl.gpioPins &&& (0xFFFF ^^^ d % 65536))

/-- f, and the events of the edges that it makes. -/
def State.gpioEdges (f : State → State) (s : State) : State :=
  let t := f s
  let a := s.gpioIn
  let b := t.gpioIn
  let up := b &&& (0xFFFF ^^^ a % 65536)
  let down := a &&& (0xFFFF ^^^ b % 65536)
  let ev := (up &&& t.rg pgGpio Off.gpioRISE) ||| (down &&& t.rg pgGpio Off.gpioFALL)
  if ev = 0 then t else t.setInt pgGpio ev

/-- A pin is driven to a level from outside. -/
def State.gpioPin (p : Nat) (level : Bool) (s : State) : State :=
  { s with ctl := { s.ctl with gpioPins := putBits s.ctl.gpioPins p p (b2n level) } }

/-- A write of DIR or OUT. -/
def State.gpioWrite (off v : Nat) (s : State) : State := State.gpioEdges (fun s => s.putReg pgGpio off v) s

def execGpioEdge (p : Fin 16) (level : Bool) (s : State) : Out :=
  .next (onlyIf (s.domain 1 && s.mode != 4) (State.gpioEdges (State.gpioPin p level)) s)

/-! ## MTX (R383, R390) -/

/-- The lock of a target port is released. -/
def State.unlock (s : State) : State := { s.setRg pgMtx Off.mtxSTAT 0 with mtx := { s.mtx with lock := none } }

/-- The matrix ends a locked sequence whose write has not completed within 500 ns. -/
def State.lockTimeout (s : State) : State :=
  match s.mtx.lock with
  | none => s
  | some (_, mid, a) =>
    let s := s.unlock
    let s := (onlyIf (s.pageEn pgMtx) (fun s => s.inc pgMtx Off.mtxLOCK_TO_CNT) s).raiseErr pgMtx 2 4 a mid (accType true false true 4)
    (s.dropCore mid).errResp

def execLockTimeout (s : State) : Out := .next (onlyIf s.mtx.lock.isSome State.lockTimeout s)

/-- A write of HOLD_MAX: 0 clears it, another value is ignored. -/
def State.holdMax (v : Nat) (s : State) : State := if v % 2 ^ 32 = 0 then s.setRg pgMtx Off.mtxHOLD_MAX 0 else s

def execHoldMaxClear (v mid : Nat) (s : State) : Out :=
  .next (s.guarded pgMtx Off.mtxHOLD_MAX mid false (State.holdMax v))

/-! ## Time -/

/-- One period of the raw counter, which counts in BOOT, RUN, SHADOW, SERVICE and QUIET, modulo 2^64 (R295), and of the
DPLL, which runs in the same modes, and of the watchdog. -/
def State.idle (s : State) : State :=
  if s.mode == 4 then s else (onlyIf (s.pageEn pgDpll) State.dpllCount s.timeCount).shapers.wdogTick

end Sys2Proof.Machine
end

