-- ==== Sys2Proof/Machine/Boot.lean ====
section
/-! DEFINITION. The boot ROM: straps, fuse shadows, the slots of the flash, host load, and the hand-over to the firmware
(R402 to R406). -/

namespace Sys2Proof.Machine

/-! ## A boot image (R403) -/

def bootLen (im : List Byte) : Nat := leAt im 0x10 4
def bootSeq (im : List Byte) : Nat := leAt im 0x0C 4
def bootSvn (im : List Byte) : Nat := leAt im 0x0A 1
def bootNseg (im : List Byte) : Nat := leAt im 0x0B 1

/-- A segment: image offset, length, load address, flags. -/
def bootSeg (im : List Byte) (i : Nat) : Nat × Nat × Nat × Nat :=
  let o := 0x40 + 16 * i
  (leAt im o 4, leAt im (o + 4) 4, leAt im (o + 8) 4, leAt im (o + 12) 4)

/-- The segments in use. -/
def bootSegs (im : List Byte) : List (Nat × Nat × Nat × Nat) := (List.range (bootNseg im)).map (bootSeg im)

/-- The load regions: AOC SRAM above the ROM's own part, the local SRAMs of the cores, the shared store. -/
def loadRegions : List (Nat × Nat) :=
  [(0x14000, 0x20000), (0x8000000, 0x8080000), (0x8100000, 0x8180000), (0x10000000, 0x11000000)]

/-- Code 3: every header field is as R403 says, load addresses among them. The image holds its header and trailer. -/
def bootFormat (im : List Byte) : Bool :=
  leAt im 0 4 == 0x544F4F42 && leAt im 4 4 == 0x00010000 && leAt im 8 2 == 0x9640 && decide (bootSvn im ≤ 64)
    && decide (1 ≤ bootNseg im) && decide (bootNseg im ≤ 8)
    && decide (bootLen im ≤ 0x800000) && decide (456 ≤ bootLen im)
    && allZero (bytesAt im 0x24 28) && allZero (bytesAt im 0xC0 64)
    && allZero (bytesAt im (0x40 + 16 * bootNseg im) (16 * (8 - bootNseg im)))
    && (bootSegs im).all (fun g => loadRegions.any (fun r => decide (r.1 ≤ g.2.2.1) && decide (g.2.2.1 < r.2)))

/-- Code 7: a segment lies in the image and in its load region. -/
def segOk (im : List Byte) (g : Nat × Nat × Nat × Nat) : Bool :=
  decide (g.1 + g.2.1 ≤ bootLen im) && loadRegions.any (fun r => decide (r.1 ≤ g.2.2.1) && decide (g.2.2.1 + g.2.1 ≤ r.2))

/-- The first failing check of codes 3 to 7 on the bytes of an image; 0 where all pass. -/
def State.bootCheck (s : State) (im : List Byte) : Nat :=
  let t := bytesAt im (bootLen im - 200) 200
  if !bootFormat im || decide (im.length < bootLen im) then 3
  else if sha384 (trailerKey t) ≠ s.fuseHash 0 then 4
  else if !trailerValid t (sha384 (im.take (bootLen im - 200))) then 5
  else if bootSvn im < popCount 32 (s.rg pgFuse (Off.fuseWORD + 4 * 26)) + popCount 32 (s.rg pgFuse (Off.fuseWORD + 4 * 27)) then 6
  else if !(bootSegs im).all (segOk im) then 7
  else 0

/-- Segments are written to their load addresses as they are read (R404): those within their regions, and not into a
slot of a running engine (R81). -/
def State.loadSegs (im : List Byte) (s : State) : State :=
  forEach ((bootSegs im).filter (segOk im)) (fun g st =>
    if st.slotRefused 2 g.2.2.1 g.2.1 then st.slotCapture 2 g.2.2.1 g.2.1
    else st.memPut 2 g.2.2.1 (bytesAt im g.1 g.2.1)) s

/-- The code of a slot goes to BOOT.RESULT: field 0 slot A, 1 slot B, 2 host. -/
def State.bootCode (i code : Nat) (s : State) : State := s.setFld pgBoot Off.bootRESULT (4 * i + 3) (4 * i) code

/-- A slot has passed: the cores run at their entries, the AOC runs its firmware (R406). -/
def State.bootDone (src : Nat) (im : List Byte) (s : State) : State :=
  let s := (s.setFld pgBoot Off.bootRESULT 13 12 src).setFld pgBoot Off.bootRESULT 23 16 (bootSvn im)
  let s := s.setRg pgBoot Off.bootSEQ (bootSeq im)
  let s := (s.setRg pgCpu Off.cpuRESET_VEC (leAt im 0x18 4)).setRg (pgCpu + 1) Off.cpuRESET_VEC (leAt im 0x1C 4)
  let s := (s.setBit pgCpu Off.cpuCTL 0 true).setBit (pgCpu + 1) Off.cpuCTL 0 true
  { s.setRg pgAoc Off.aocSTAT 2 with ctl := { s.ctl with hostWait := false } }

/-! ## Host load (R405) -/

/-- Host load, where it is available (R402): the identity of the function from the fuses, and the link. -/
def State.hostLoad (s : State) : State :=
  if s.bit pgFuse (Off.fuseWORD + 4 * 28) 2 then s
  else
    let s := s.setRg pgPcie Off.pcieIDS (s.rg pgFuse (Off.fuseWORD + 4 * 48))
    let s := s.setRg pgPcie Off.pcieSUBSYS (s.rg pgFuse (Off.fuseWORD + 4 * 49))
    let s := s.setBit pgPcie Off.pcieCTL 0 true
    { s with ctl := { s.ctl with hostWait := true } }

/-- HOST_GO: codes 3 to 7 on the image in the shared store; a failed check waits for another HOST_GO. -/
def State.hostGo (s : State) : State :=
  if !s.ctl.hostWait then s
  else
    let n := min (s.rg pgBoot Off.bootHOST_LEN) 0x800000
    let r := s.memRead 2 0x10000000 n
    match r.1 with
    | none => State.bootCode 2 3 r.2
    | some im =>
      let s := r.2
      let code := s.bootCheck im
      let s := State.bootCode 2 code s
      let s := if code = 3 then s else State.loadSegs im s
      if code = 0 then State.bootDone 3 im s else s

def execHostGo (v mid : Nat) (s : State) : Out :=
  .next (onlyIf (bitN v 0) (fun s => s.guarded pgBoot Off.bootHOST_GO mid false State.hostGo) s)

/-! ## The ROM (R402, R404) -/

/-- The slots in the order in which they are tried: 0 is A, 1 is B. -/
def slotOrder (rom : RomInput) : List (Nat × List Byte) :=
  let a := (0, rom.slotA)
  let b := (1, rom.slotB)
  let fa := bootFormat rom.slotA
  let fb := bootFormat rom.slotB
  if (!fa && fb) || (fa && fb && decide (bootSeq rom.slotA < bootSeq rom.slotB)) then [b, a] else [a, b]

/-- NO_KEY: the ROM enters SERVICE (R404, R444). -/
def State.noKey (s : State) : State :=
  { s.setBit pgPwr Off.pwrMODE 3 true with pwr := { s.pwr with powerUp := some 5 } }

/-- One slot tried: its code, and the state with what reading it left. -/
def State.trySlot (sfdp : Bool) (x : Nat × List Byte) (s : State) : Nat × State :=
  let im := x.2
  if s.fuseHash 0 = List.replicate 48 0 then (1, s)
  else if !sfdp || decide (im.length < 256) || (bootFormat im && decide (im.length < bootLen im)) then (2, s)
  else if !bootFormat im then (3, s)
  else
    let s := (s.putReg pgBoot Off.bootCFG (leAt im 0x14 4))
    let s := (State.loadSegs im s)
    let s := { s with ctl := { s.ctl with hashBytes := im.take (bootLen im - 200) } }.showHash
    (s.bootCheck im, s)

/-- The slots in turn; when both have failed, host load where it is available, else the ROM halts. -/
def State.trySlots (sfdp : Bool) : List (Nat × List Byte) → State → State
  | [], s => s.hostLoad
  | x :: xs, s =>
    let r := State.trySlot sfdp x s
    let s := State.bootCode x.1 r.1 r.2
    if r.1 = 0 then State.bootDone (x.1 + 1) x.2 s
    else if r.1 = 1 then s.noKey
    else State.trySlots sfdp xs s

/-- The registers whose reset values come from the fuses and the straps: the shadows, STRAPS, STACK.ROLE (CROWN_N low
is the crown, R323), and the identity of the PCIe function. -/
def State.sampled (straps : Nat) (s : State) : State :=
  let s := forEach (List.range 64) (fun i st =>
    st.setRg pgFuse (Off.fuseWORD + 4 * i) (smapGet fuseZero st.ctl.fuses i).toNat) s
  let s := (s.setRg pgSys Off.sysSTRAPS (straps % 4)).setBit pgStack Off.stackROLE 0 (!bitN straps 1)
  (s.setRg pgPcie Off.pcieIDS (s.rg pgFuse (Off.fuseWORD + 4 * 48))).setRg pgPcie Off.pcieSUBSYS
    (s.rg pgFuse (Off.fuseWORD + 4 * 49))

/-- The ROM after a reset. -/
def State.romBoot (rom : RomInput) (s : State) : State :=
  let s := (State.sampled rom.straps s).setRg pgAoc Off.aocSTAT 1
  if bitN rom.straps 0 then s.hostLoad else State.trySlots rom.sfdp (slotOrder rom) s

end Sys2Proof.Machine
end

