-- ==== Sys2Proof/Machine/EngExec.lean ====
section
/-! DEFINITION. The commands of the Bareel engines: one per instruction, END_BEAT with what comes about at the end of
a beat, the completion of a memory-port transfer, and the engine's own register commands (R52, R54, R83, R88, R113 to
R121, R139, R346, R468). -/

namespace Sys2Proof.Machine

/-! ## The plain instructions -/

def execNop (nn : Fin 32) (us : List (Nat × Nat)) (s : State) : Out :=
  .next (s.engStep nn us (fun | .nop _ => true | _ => false) (State.plainStep nn))

def execMacS (nn : Fin 32) (us : List (Nat × Nat)) (s : State) : Out :=
  .next (s.engStep nn us (fun | .mac .s _ _ _ => true | _ => false) (State.plainStep nn))

def execMacD (nn : Fin 32) (us : List (Nat × Nat)) (s : State) : Out :=
  .next (s.engStep nn us (fun | .mac .d _ _ _ => true | _ => false) (State.plainStep nn))

def execMacDu (nn : Fin 32) (us : List (Nat × Nat)) (s : State) : Out :=
  .next (s.engStep nn us (fun | .mac .du _ _ _ => true | _ => false) (State.plainStep nn))

def execMacQ (nn : Fin 32) (us : List (Nat × Nat)) (s : State) : Out :=
  .next (s.engStep nn us (fun | .mac .q _ _ _ => true | _ => false) (State.plainStep nn))

def execMacSum (nn : Fin 32) (us : List (Nat × Nat)) (s : State) : Out :=
  .next (s.engStep nn us (fun | .mac .sum _ _ _ => true | _ => false) (State.plainStep nn))

def execMov (nn : Fin 32) (us : List (Nat × Nat)) (s : State) : Out :=
  .next (s.engStep nn us (fun | .mov _ _ => true | _ => false) (State.plainStep nn))

def execAccLd (nn : Fin 32) (us : List (Nat × Nat)) (s : State) : Out :=
  .next (s.engStep nn us (fun | .accLd _ _ _ _ _ => true | _ => false) (State.plainStep nn))

def execAccAdd (nn : Fin 32) (us : List (Nat × Nat)) (s : State) : Out :=
  .next (s.engStep nn us (fun | .accAdd _ _ _ _ _ => true | _ => false) (State.plainStep nn))

def execAccMov (nn : Fin 32) (us : List (Nat × Nat)) (s : State) : Out :=
  .next (s.engStep nn us (fun | .accMov _ _ _ _ _ => true | _ => false) (State.plainStep nn))

def execAccSh (nn : Fin 32) (us : List (Nat × Nat)) (s : State) : Out :=
  .next (s.engStep nn us (fun | .accSh _ _ _ _ => true | _ => false) (State.plainStep nn))

def execAdd (nn : Fin 32) (us : List (Nat × Nat)) (s : State) : Out :=
  .next (s.engStep nn us (fun | .alu2 .add _ _ _ _ _ _ => true | _ => false) (State.plainStep nn))

def execSub (nn : Fin 32) (us : List (Nat × Nat)) (s : State) : Out :=
  .next (s.engStep nn us (fun | .alu2 .sub _ _ _ _ _ _ => true | _ => false) (State.plainStep nn))

def execAnd (nn : Fin 32) (us : List (Nat × Nat)) (s : State) : Out :=
  .next (s.engStep nn us (fun | .alu2 .and _ _ _ _ _ _ => true | _ => false) (State.plainStep nn))

def execOr (nn : Fin 32) (us : List (Nat × Nat)) (s : State) : Out :=
  .next (s.engStep nn us (fun | .alu2 .or _ _ _ _ _ _ => true | _ => false) (State.plainStep nn))

def execXor (nn : Fin 32) (us : List (Nat × Nat)) (s : State) : Out :=
  .next (s.engStep nn us (fun | .alu2 .xor _ _ _ _ _ _ => true | _ => false) (State.plainStep nn))

def execShl (nn : Fin 32) (us : List (Nat × Nat)) (s : State) : Out :=
  .next (s.engStep nn us (fun | .alu2 .shl _ _ _ _ _ _ => true | _ => false) (State.plainStep nn))

def execShra (nn : Fin 32) (us : List (Nat × Nat)) (s : State) : Out :=
  .next (s.engStep nn us (fun | .alu2 .shra _ _ _ _ _ _ => true | _ => false) (State.plainStep nn))

def execShrl (nn : Fin 32) (us : List (Nat × Nat)) (s : State) : Out :=
  .next (s.engStep nn us (fun | .alu2 .shrl _ _ _ _ _ _ => true | _ => false) (State.plainStep nn))

def execMin (nn : Fin 32) (us : List (Nat × Nat)) (s : State) : Out :=
  .next (s.engStep nn us (fun | .alu2 .min _ _ _ _ _ _ => true | _ => false) (State.plainStep nn))

def execMax (nn : Fin 32) (us : List (Nat × Nat)) (s : State) : Out :=
  .next (s.engStep nn us (fun | .alu2 .max _ _ _ _ _ _ => true | _ => false) (State.plainStep nn))

def execAbs (nn : Fin 32) (us : List (Nat × Nat)) (s : State) : Out :=
  .next (s.engStep nn us (fun | .absI _ _ _ _ _ => true | _ => false) (State.plainStep nn))

def execNeg (nn : Fin 32) (us : List (Nat × Nat)) (s : State) : Out :=
  .next (s.engStep nn us (fun | .negI _ _ _ _ _ => true | _ => false) (State.plainStep nn))

def execCmp (nn : Fin 32) (us : List (Nat × Nat)) (s : State) : Out :=
  .next (s.engStep nn us (fun | .cmp _ _ _ _ _ _ _ => true | _ => false) (State.plainStep nn))

def execSel (nn : Fin 32) (us : List (Nat × Nat)) (s : State) : Out :=
  .next (s.engStep nn us (fun | .sel _ _ _ _ _ _ _ _ => true | _ => false) (State.plainStep nn))

def execMovx (nn : Fin 32) (us : List (Nat × Nat)) (s : State) : Out :=
  .next (s.engStep nn us (fun | .movxTo _ _ _ _ _ => true | .movxFrom _ _ _ _ _ => true | _ => false)
    (State.plainStep nn))

def execLdi (nn : Fin 32) (us : List (Nat × Nat)) (s : State) : Out :=
  .next (s.engStep nn us (fun | .ldi _ _ _ => true | _ => false) (State.plainStep nn))

def execSetptr (nn : Fin 32) (us : List (Nat × Nat)) (s : State) : Out :=
  .next (s.engStep nn us (fun | .setptr _ _ _ _ _ _ _ _ => true | _ => false) (State.plainStep nn))

def execGramp (nn : Fin 32) (us : List (Nat × Nat)) (s : State) : Out :=
  .next (s.engStep nn us (fun | .grampI _ _ _ _ => true | .grampR _ _ _ _ => true | _ => false)
    (State.plainStep nn))

def execMpr (nn : Fin 32) (us : List (Nat × Nat)) (s : State) : Out :=
  .next (s.engStep nn us (fun | .mpr _ _ => true | _ => false) (State.plainStep nn))

def execMpw (nn : Fin 32) (us : List (Nat × Nat)) (s : State) : Out :=
  .next (s.engStep nn us (fun | .mpw _ _ => true | _ => false) (State.plainStep nn))

def execRep (nn : Fin 32) (us : List (Nat × Nat)) (s : State) : Out :=
  .next (s.engStep nn us (fun | .rep _ _ _ => true | _ => false)
    (fun | .rep _ len cnt => State.repStep nn len cnt | _ => id))

def execIllegalInstruction (nn : Fin 32) (us : List (Nat × Nat)) (s : State) : Out := .next (s.illegalStep nn us)

/-! ## The end of a beat (R116, R83, R86) -/

/-- One scrubbed word: a corrected one is written back and counted, an uncorrectable one reported (R469). -/
def State.scrubWord (nn g a : Nat) (s : State) : State :=
  match s.eccAt g a with
  | 0 => s
  | 1 => (s.engCe nn a midNone 0).setEcc g a 0
  | _ => s.engUe nn a midNone 0

/-- The 16 words of each memory that the scrubber of an engine takes in a tick, from word i of a pass on (R468). The
position runs over the largest memory; smaller memories wrap (DESIGN CHOICE, log entry 15). -/
def scrubAddrs (nn i : Nat) : List (Nat × Nat) :=
  (List.range 16).flatMap (fun k =>
    [ (8, pmAddr nn ((i + k) % 12288)), (4, winAddr nn ((i + k) % 16384)), (4, winAddr nn (0x4000 + (i + k) % 16384))
    , (4, winAddr nn (0x8000 + (i + k) % 8192)), (4, winAddr nn (0xA000 + (i + k) % 8192)) ])

/-- The scrubber's turn in engine nn (R468). -/
def State.scrubEngine (s : State) (nn : Nat) : State :=
  if s.bit pgStore Off.storeSCRUB_CTL 1 then
    let i := (s.engine nn).scrub
    let s := forEach (scrubAddrs nn i) (fun w st => st.scrubWord nn w.1 w.2) s
    s.modEngine nn (fun e => { e with scrub := (i + 16) % 49152 })
  else s

/-- One self-test slice of engine nn (R346): passed slices are counted, a failed one sets the
engine's bit of BIST_FAIL and FAIL_BIST and is a Contained error of PAIR. -/
def State.bistSlice (nn : Nat) (passed : Bool) (s : State) : State :=
  let s := s.modEngine nn (fun e => { e with slice := (e.slice + 1) % 64 })
  if passed then s.inc pgPair Off.pairBIST_SLICES
  else
    let s := s.orRg pgPair Off.pairBIST_FAIL (2 ^ nn)
    { s with pair := { s.pair with failBist := true } }.pageErr pgPair 2 9

/-- The slices that engine nn ran after its last END_BEAT, in a shadow state (R346). -/
def State.bistSlices (s : State) (nn : Nat) (l : List Bool) : State :=
  forEach l (fun ok st => onlyIf (st.inShadow && st.bit pgPair Off.pairCFG 4) (State.bistSlice nn ok) st) s

/-- The comparison of R139. -/
def State.stepCheck (s : State) (nn steps : Nat) : State :=
  if s.rg (pgEng + nn) Off.engSTEPS_PROOF = steps then s
  else (s.orRg pgSched Off.schedMISMATCH (2 ^ nn)).pageErr pgSched 2 5

/-- What comes about when engine nn has ended its last beat (R54, R72, R139). -/
def State.tickDone (s : State) (nn : Nat) (be : BeatEnd) : State :=
  let e := s.engine nn
  let s := s.setRg (pgEng + nn) Off.engSTEPS_LAST e.steps
  let s := s.setRg (pgEng + nn) Off.engBUSY_LAST be.busyNs
  let s := s.modEngine nn (fun e =>
    { e.endRamps s.T with ovrLast := if e.st == .running then false else e.ovrLast })
  s.stepCheck nn e.steps

/-- The work of the time left after the last END_BEAT of engine nn, which lies between s and t: scrubbing first, then
self-test slices (R346, R468). It comes after every error of the beat's end (R463). -/
def State.idleWork (nn : Nat) (be : BeatEnd) (s t : State) : State :=
  if be.spare && (s.engine nn).ended + 1 == t.beatsN && (t.engine nn).ended == t.beatsN then
    (t.scrubEngine nn).bistSlices nn be.slices
  else t

/-- Engine nn closes its beat: the transfers due in it leave the queue; the last beat ends the engine's tick. -/
def State.closeBeat (s : State) (nn : Nat) (be : BeatEnd) : State :=
  let e := s.engine nn
  let b := e.ended + 1
  let w := s.rg (pgEng + nn) Off.engMP_WAIT_MAX
  let s := if e.waiting then s.setRg (pgEng + nn) Off.engMP_WAIT_MAX (max w (min be.waitNs 0xFFFFFFFF)) else s
  let s := s.setEngine nn { e with mp := e.mp.filter (fun m => m.due != b), ended := b, waiting := false }
  if b = s.beatsN then s.tickDone nn be else s

/-- END_BEAT: inside a repeat body a loop fault; else the beat closes, or waits for the transfers due in it. -/
def State.endBeatStep (nn : Nat) (be : BeatEnd) (s : State) : State :=
  let e := s.engine nn
  if e.loops ≠ [] then s.loopFault nn
  else
    let e := e.advance
    if e.mp.any (fun m => m.due == e.ended + 1 && !m.done) then s.setEngine nn { e with waiting := true }
    else (s.setEngine nn e).closeBeat nn be

def execEndBeat (nn : Fin 32) (us : List (Nat × Nat)) (be : BeatEnd) (s : State) : Out :=
  .next (State.idleWork nn be s (s.engStep nn us (fun | .endBeat _ => true | _ => false) (fun _ => State.endBeatStep nn be)))

/-! ## Memory-port transfers (R79, R83, R87, R88) -/

/-- A failed word of a transfer (R88). -/
def State.mpFail (s : State) (nn ext : Nat) (write : Bool) : State :=
  s.engErr nn 2 6 ext (midEng nn) (accType write false false 4)

/-- One word of a read: the external word into the local word, or 0. Words that land in the OB of a detached engine
are discarded with its other OB writes (R33; log entry 16). DEDUCED. -/
def State.mpReadWord (nn ext loc : Nat) (s : State) : State :=
  let put (v : Word) (st : State) : State :=
    let e := st.engine nn
    if emem loc = .ob ∧ (e.st = .detached ∨ e.st = .skipping) then st
    else (st.setEngine nn (e.setWord loc v)).setEcc 4 (winAddr nn loc) 0
  match s.memRead (midEng nn) ext 4 with
  | (some bs, s') => put (w32 (ofLE bs)) s'
  | (none, s') => put 0 (s'.mpFail nn ext false)

/-- One word of a write: the local word, as a memory-port transfer reads it (R90), into the external word. -/
def State.mpWriteWord (nn ext loc : Nat) (s : State) : State :=
  let r : Word × State :=
    match s.eccAt 4 (winAddr nn loc) with
    | 0 => ((s.engine nn).word loc, s)
    | 1 => ((s.engine nn).word loc, s.engCe nn (winAddr nn loc) (midEng nn) (accType false false false 4))
    | _ => (0, s.engUe nn (winAddr nn loc) (midEng nn) (accType false false false 4))
  match r.2.memWriteBus (midEng nn) ext (toLE 4 r.1.toNat) with
  | (true, s') => s'
  | (false, s') => s'.mpFail nn ext true

/-- Entry i of the queue may complete: no earlier outstanding one touches a word of it (R87). -/
def mpMayFinish (q : List MpEntry) (i : Nat) : Bool :=
  match q[i]? with
  | none => false
  | some m => !m.done && (q.take i).all (fun p => p.done || p.ext.all (fun a => !m.ext.contains a))

/-- A word of a transfer is not answered yet: a locked sequence holds its port (R382), or DRC holds it (R368, R372,
R375). -/
def State.mpHeld (s : State) (nn i : Nat) : Bool :=
  match (s.engine nn).mp[i]? with
  | none => false
  | some m => m.ext.any (fun a => s.portLocked a || s.drcHolds a 4)

/-- Transfer i of engine nn completes. An END_BEAT that waited for the last of its transfers ends its beat. -/
def State.mpDone (s : State) (nn i : Nat) (be : BeatEnd) : State :=
  let e := s.engine nn
  match e.mp[i]? with
  | none => s
  | some m =>
    let s := forEach (m.ext.zip m.loc)
      (fun w st => if m.wr then st.mpWriteWord nn w.1 w.2 else st.mpReadWord nn w.1 w.2) s
    let s := s.inc (pgEng + nn) Off.engMP_CNT
    let s := s.modEngine nn (fun e => { e with mp := e.mp.set i { m with done := true } })
    let e := s.engine nn
    if e.waiting && !(e.mp.any (fun m => m.due == e.ended + 1 && !m.done)) then s.closeBeat nn be else s

def execMpTransferDone (nn : Fin 32) (i : Nat) (us : List (Nat × Nat)) (be : BeatEnd) (s : State) : Out :=
  .next (onlyIf (mpMayFinish (s.engine nn).mp i && !s.mpHeld nn i)
    (fun s => State.idleWork nn be s ((s.upset us).mpDone nn i be)) s)

end Sys2Proof.Machine
end

