-- ==== Sys2Proof/Machine/Pwr.lean ====
section
/-! DEFINITION. Modes, the sleep negotiation, wake, resume, and the power of the quadrants (R442 to R453, R457). Resets
are in Reset.lean. -/

namespace Sys2Proof.Machine

/-! ## The registers of the sequencer (R457) -/

/-- BUSY: a transition is in progress. -/
def State.pwrBusy (s : State) : Bool := s.bit pgPwr Off.pwrMODE 3
def State.setBusy (s : State) (b : Bool) : State := s.setBit pgPwr Off.pwrMODE 3 b
def State.setMode (s : State) (m : Nat) : State := s.setFld pgPwr Off.pwrMODE 2 0 m
def State.setAgent (s : State) (a : Nat) : State := s.setFld pgPwr Off.pwrMODE 7 4 a
def State.pwrResult (s : State) (r : Nat) : State := s.setFld pgPwr Off.pwrSTAT 1 0 r
def State.setDomain (s : State) (i : Nat) (b : Bool) : State := s.setBit pgPwr Off.pwrDOMAINS i b
def State.setDomains (s : State) (l : List Nat) (b : Bool) : State := l.foldl (fun st i => st.setDomain i b) s

/-- A mode change completes: the mode, BUSY off, DONE (R444). -/
def State.pwrDone (s : State) (m : Nat) : State := ((((s.setMode m).setBusy false).setAgent 15).pwrResult 1).intBit pgPwr 0

/-- RUN or SHADOW, as the pair state decides (R338). -/
def State.runMode (s : State) : Nat := if s.pairState = 0 ∨ s.pairState = 2 then 1 else 2

/-- A request or a write of FAB_EN is refused (R443, R444). -/
def State.pwrRefuse (s : State) (off mid reason : Nat) : State :=
  (s.setFld pgPwr Off.pwrSTAT 5 4 reason).writeErr pgPwr off mid 2

/-! ## Leaving the pair, and SERVICE (R355, R444, R446) -/

/-- A unit in ACTIVE strikes; in another pair state it becomes SOLO. -/
def State.leavePair (s : State) : State :=
  if s.pairState = 2 then s.strike 5 pgPair
  else if s.pairState ≠ 0 then State.pairEnter 0 s
  else s

/-- RAIL_PWM of group g low: the group stops, as requested and in effect (R446, R471). -/
def State.railLow (g : Nat) (s : State) : State :=
  let s := if s.bit pgRail Off.railCTL g then State.railStop g s else s
  let s := (s.setBit pgRail Off.railCTL g false).setBit pgRail Off.railCTL_NX g false
  let off (r : SMap Word) := smapMod resetWord r (rkey pgRail Off.railCTL_NX) (fun w => w32 (putBits w.toNat g g 0))
  { s with sched := { s.sched with eff := off s.sched.eff, snap := s.sched.snap.map off } }

/-- Every bridge channel OFF and every rail low. -/
def State.bridgesOff (s : State) : State :=
  forEach (List.range 8) State.railLow (forEach (List.range 32) State.forceOff s)

/-- The outputs stop as at an entry to SERVICE (R446). -/
def State.serviceStop (s : State) : State :=
  (forEach ((List.range 16).filter (fun p => (s.port p).runs)) State.muteNow s).bridgesOff

/-- SERVICE from RUN or SHADOW. -/
def State.enterService (s : State) : State := (s.serviceStop.avsFreeze).pwrDone 5

/-- RUN or SHADOW from SERVICE. -/
def State.leaveService (s : State) : State := (s.pwrDone s.runMode).avsEnter

/-! ## Power-up from BOOT, and quadrants (R443, R444) -/

/-- A power-up from BOOT begins; it ends in RUN (or SHADOW) or in SERVICE. -/
def State.beginPowerUp (m : Nat) (s : State) : State :=
  { s.setBusy true with pwr := { s.pwr with powerUp := some m } }

/-- Quadrant q is powered: its engines enter STOPPED, as a reset leaves them, with their interrupts (R96). -/
def State.quadOn (q : Nat) (s : State) : State :=
  let s := s.setDomain (6 + q) true
  forEach (List.range 8) (fun k st =>
    (st.setEngine (8 * q + k) { st := .stopped }).intBit (pgEng + 8 * q + k) 14) s

/-- A page of quadrant q. -/
def quadPage (q page : Nat) : Bool := pageKind page == .eng && (page - pgEng) / 8 == q

/-- The window addresses of quadrant q. -/
def quadAddr (q a : Nat) : Bool := decide (0x60000000 + q * 0x800000 ≤ a) && decide (a < 0x60000000 + (q + 1) * 0x800000)

/-- Held window writes whose engine satisfies p get the answer of the default target: their domain powers down (R389). -/
def State.heldDrop (p : Nat → Bool) (s : State) : State :=
  State.heldOut (fun h => p h.nn) (fun l s => forEach l (fun h st =>
    State.lateResp h.mid true h.lost st (st.defaultTarget (winBase h.nn + h.win) h.mid true false 4)) s) s

/-- Quadrant q is powered down: it loses its contents, as in DORMANT; the heads of its pages stay (R498). -/
def State.quadOff (q : Nat) (s : State) : State :=
  let gone (k : Nat) : Bool :=
    quadPage q (k / 0x1000) && decide (0x100 ≤ k % 0x1000) && (retOf k == .c || retOf k == .d)
  let s := ((State.heldDrop (fun nn => nn / 8 == q) s).clearRegs gone).setDomain (6 + q) false
  let s := { s with
    ecc := smapKeep (fun a => !quadAddr q a) s.ecc
    sched := { s.sched with eff := smapKeep (fun k => !gone k) s.sched.eff
                            snap := s.sched.snap.map (smapKeep (fun k => !gone k)) } }
  forEach (List.range 8) (fun k st => st.setEngine (8 * q + k) {}) s

/-- The power-up completes; the first release is that of the next boundary (R449; log entry 41). DEDUCED. -/
def execPowerUpFromBootDone (s : State) : Out :=
  .next (onlyIf s.pwr.powerUp.isSome (fun s =>
    let m := s.pwr.powerUp.getD 1
    let s := { s with pwr := { s.pwr with powerUp := none }, sig := { s.sig with due := [] } }.setDomains [5, 10] true
    let s := forEach ((List.range 4).filter (fun q => s.bit pgPwr Off.pwrFAB_EN q)) State.quadOn s
    if m = 5 then s.serviceStop.pwrDone 5 else (s.pwrDone s.runMode).avsEnter) s)

/-- A write of FAB_EN (R443). -/
def State.fabEn (v mid : Nat) (s : State) : State :=
  let old := s.fld pgPwr Off.pwrFAB_EN 3 0
  let clears := (List.range 4).filter (fun q => bitN old q && !bitN v q)
  let sets := (List.range 4).filter (fun q => !bitN old q && bitN v q)
  if s.pwrBusy then s.pwrRefuse Off.pwrFAB_EN mid 2
  else if clears.any (fun q => (List.range 8).any (fun k =>
      let st := (s.engine (8 * q + k)).st
      st != .stopped && st != .fault)) then s.pwrRefuse Off.pwrFAB_EN mid 3
  else
    let s := forEach clears State.quadOff (s.setRg pgPwr Off.pwrFAB_EN (v % 16))
    let due := (List.range 4).foldl (fun m q => if bitN v q then m else putBits m q q 0) s.pwr.quadDue
    { s with pwr := { s.pwr with
        quadDue := if s.running then sets.foldl (fun m q => putBits m q q 1) due else due } }

def execFabEnWrite (v mid : Nat) (s : State) : Out :=
  .next (s.guarded pgPwr Off.pwrFAB_EN mid false (State.fabEn v mid))

def execQuadrantPowered (q : Fin 4) (s : State) : Out :=
  .next (onlyIf (bitN s.pwr.quadDue q && s.running) (fun s =>
    State.quadOn q { s with pwr := { s.pwr with quadDue := putBits s.pwr.quadDue q q 0 } }) s)

/-! ## Wake events (R448, R451) -/

/-- A wake of DORMANT: MAIN_EN rises once it has been low for 1 ms, and the device waits for the rails; a further
event during the wake is only recorded (R451, R456). -/
def State.dormantWake (i : Nat) (s : State) : State :=
  let s := s.setBit pgPwr Off.pwrWAKE_CAUSE i true
  if s.pwr.railWait then s
  else if s.pwr.lowTimeDone then
    { s with pwr := { s.pwr with mainEn := true, railWait := true, lowTimeDone := false, wakePending := 0 } }
  else { s with pwr := { s.pwr with wakePending := s.pwr.wakePending ||| 2 ^ i } }

/-- Wake event i of WAKE_CAUSE, in the mode or the negotiation that it counts in: its source is recorded (R451), and in
QUIET the transition to RUN is in progress from it on (R444). -/
def State.wakeEvent (i : Nat) (s : State) : State :=
  let pend (s : State) := { s with pwr := { s.pwr with wakePending := s.pwr.wakePending ||| 2 ^ i } }
  if !(i == 4 || s.bit pgPwr Off.pwrWAKE_EN i) then s
  else if s.mode = 4 then State.dormantWake i s
  else match s.pwr.negTarget with
    | some t => if i = 4 ∧ t = 4 then s else pend (s.setBit pgPwr Off.pwrWAKE_CAUSE i true)
    | none => if s.mode = 3 ∧ !s.pwr.resuming then pend ((s.setBusy true).setBit pgPwr Off.pwrWAKE_CAUSE i true) else s

def execWakeN (s : State) : Out := .next (onlyIf s.pwr.aoReleased (State.wakeEvent 0) s)

/-- The alarm count. -/
def State.alarm (s : State) : Nat := s.rg pgPwr Off.pwrALARM_LO + 2 ^ 32 * s.fld pgPwr Off.pwrALARM_HI 15 0

/-- The ledger counts to ALARM while EN is 1 and RTC_CLK is active (R452). -/
def execLedgerAlarm (s : State) : Out :=
  .next (onlyIf (s.bit pgPwr Off.pwrALARM_HI 31 && s.bit pgPwr Off.pwrRTC_STAT 0) (fun s =>
    State.wakeEvent 2 (s.setRg64 pgPwr Off.pwrLEDGER_LO Off.pwrLEDGER_HI s.alarm)) s)

def execWakeSw (v mid : Nat) (s : State) : Out :=
  .next (onlyIf (bitN v 0) (fun s => s.guarded pgPwr Off.pwrWAKE_SW mid false (State.wakeEvent 3)) s)

/-- The edges that came before RTC_CLK stopped are counted. -/
def execRtcInactive (s : State) : Out := .next (s.ledgerLook.setBit pgPwr Off.pwrRTC_STAT 0 false)
def execRtcActive (s : State) : Out := .next (s.setBit pgPwr Off.pwrRTC_STAT 0 true)

/-! ## Mode requests (R444) -/

/-- The transitions that a request may make. -/
def modeOk (cur m : Nat) : Bool :=
  match cur with
  | 0 => m == 1 || m == 5 || m == 4
  | 1 => m == 3 || m == 4 || m == 5
  | 2 => m == 3 || m == 4 || m == 5
  | 3 => m == 1 || m == 4
  | 5 => m == 1 || m == 4
  | _ => false

/-- The negotiation for QUIET or DORMANT begins (R447). -/
def State.negotiate (m : Nat) (s : State) : State :=
  { (s.setBusy true).setAgent 0 with pwr := { s.pwr with negTarget := some m, stopped := [], wakePending := 0 } }

/-- A write of MODE_REQ. -/
def State.modeReq (v mid : Nat) (s : State) : State :=
  let m := bitsN v 2 0
  let cur := s.mode
  if s.pwrBusy then
    (if m = 1 ∧ s.pwr.negTarget = some 3 then State.wakeEvent 4 (s.setRg pgPwr Off.pwrMODE_REQ m)
     else s.pwrRefuse Off.pwrMODE_REQ mid 2)
  else if !modeOk cur m then s.pwrRefuse Off.pwrMODE_REQ mid 1
  else
    let s := s.setRg pgPwr Off.pwrMODE_REQ m
    if m = 1 then
      (if cur = 0 then State.beginPowerUp 1 s
       else if cur = 3 then State.wakeEvent 4 s
       else s.leaveService)
    else if m = 5 then (if cur = 0 then State.beginPowerUp 5 s else s.leavePair.enterService)
    else State.negotiate m s.leavePair

def State.modeReqWrite (m v mid : Nat) (s : State) : State :=
  onlyIf (bitsN v 2 0 == m) (fun s => s.guarded pgPwr Off.pwrMODE_REQ mid false (State.withLost (State.modeReq v mid))) s

def execModeReqRun (v mid : Nat) (s : State) : Out := .next (State.modeReqWrite 1 v mid s)
def execModeReqService (v mid : Nat) (s : State) : Out := .next (State.modeReqWrite 5 v mid s)
def execModeReqQuiet (v mid : Nat) (s : State) : Out := .next (State.modeReqWrite 3 v mid s)
def execModeReqDormant (v mid : Nat) (s : State) : Out := .next (State.modeReqWrite 4 v mid s)

/-! ## The agents (R447, R448) -/

/-- The refusal of agent a for a target mode, as it answers; 0 none. xfer: an XFER transfer is in progress; shut: the
µs until the gate of queue 7 opens, of the ports that hold a packet behind it the longest (R448). -/
def State.agentCode (s : State) (target a : Nat) (xfer : Bool) (shut : Nat) : Nat :=
  match a with
  | 0 => if (List.range 32).any (fun m => s.chState m != 0 && s.chState m != 7) then 1 else 0
  | 5 => if s.bit pgRtr Off.rtrSTAT 0 || !s.rtr.held.isEmpty then 4 else 0
  | 6 =>
    if s.dram.reqs.any (fun r => r.1.wr) then 5
    else if s.drcState == 5 || s.dram.probe.isSome || s.dram.fill.isSome then 6 else 0
  | 7 =>
    if target = 3 then (if s.net.mac.any (fun e => e.2.q.any (fun x => x.queue == 7) && !bitN (s.gates e.1) 7)
      && decide (s.fld pgPwr Off.pwrNET_GUARD 15 0 < shut) then 7 else 0)
    else if (List.range 256).any (fun n => s.strmRuns 1 n && s.sd 1 n 0 10 8 == 7) then 7 else 0
  | 8 => if target = 4 ∧ (List.range 2).any (fun n => s.crxEn n && s.crxStat n 0) then 9 else 0
  | 9 => if target = 4 ∧ (xfer ∨ s.bootBusy ∨ s.bit pgFuse Off.fusePROG_STAT 0) then 10 else 0
  | _ =>
    if (List.range 8).any (fun k =>
        let st := (s.engine (8 * (4 - a) + k)).st
        st == .detached || st == .skipping) then 2
    else if s.loadState = 3 then 3 else 0

/-- The negotiation ends without the target mode; every stopped agent is started again (R447). A wake event that is
pending in QUIET then begins the transition to RUN. -/
def State.rollBack (s : State) : State :=
  { (s.setBusy (s.mode == 3 && s.pwr.wakePending != 0)).setAgent 15 with pwr := { s.pwr with
      negTarget := none, stopped := [], wakePending := if s.mode = 3 then s.pwr.wakePending else 0 } }

/-- Agent a refuses with a code. -/
def State.agentRefuse (a code : Nat) (s : State) : State :=
  let s := s.setRg pgPwr Off.pwrREFUSE (a + code * 2 ^ 8 + 2 ^ 16)
  (((s.inc pgPwr Off.pwrREFUSE_CNT).pwrResult 2).rollBack).intBit pgPwr 1

/-- A wake event of the target is pending after an agent stopped. -/
def State.negAbort (s : State) : State := ((s.inc pgPwr Off.pwrABORT_CNT).pwrResult 3).rollBack

/-! ## QUIET (R448, R449) -/

/-- The power-down of QUIET: the memory is in self-refresh, requests that wait for it go to the default target (R389),
pending soft switches end (R171), and the gated domains lose power. -/
def State.enterQuiet (s : State) : State :=
  let s := State.heldDrop (fun _ => true) (forEach (s.dram.reqs.map (fun r => r.1)) (fun r st =>
    State.lateResp r.mid r.wr r.lost st (st.defaultTarget r.addr r.mid r.wr false r.len)) s)
  let s := { s with
    dram := { s.dram with reqs := [], rows := [] }
    rtr := { s.rtr with sw := [] }
    esc := { s.esc with tickOpen := false }
    sig := { s.sig with hist := [] }
    pwr := { s.pwr with negTarget := none, stopped := [], quadDue := 0 } }
  let s := (if s.drcState = 3 then s.setDrcState 4 else s).setRg pgGain Off.gainPENDING 0
  ((s.avsFreeze).setDomains [4, 5, 6, 7, 8, 9, 10] false).pwrDone 3

/-- Counters and sticky flags of the gated pages (R455): the W1C flags and the captures, and the counters by page. The
other class D registers of gated domains are kept through QUIET (log entry 100). DESIGN CHOICE. -/
def gatedClear (k : Nat) : Bool :=
  let page := k / 0x1000
  let o := k % 0x1000
  if domainOf page < 4 then false
  else if o < 0x100 then o == Off.headINT_RAW || (decide (Off.headERR_CLASS ≤ o) && decide (o ≤ Off.headERR_MERGED))
  else match pageKind page with
    | .drc => o == Off.drcFC_CNT || (decide (Off.drcMAX_WAIT ≤ o) && decide (o < Off.drcMAX_WAIT + 32))
        || o == Off.drcECC_CE_CNT || o == Off.drcECC_UE_CNT || o == Off.drcURG3_CNT || o == Off.drcPROBE_ERRS
    | .rtr => o == Off.rtrREFUSE_CNT || o == Off.rtrECC_CE_CNT || o == Off.rtrECC_UE_CNT || o == Off.rtrSRC_ERR_CNT
    | .gain => decide (Off.gainSOFT_CNT ≤ o) && decide (o ≤ Off.gainSOFT_OVF_CNT)
    | .eng => o == Off.engSTAT || o == Off.engECC_CE_CNT || o == Off.engECC_UE_CNT || o == Off.engMP_CNT
        || o == Off.engMP_WAIT_MAX
    | .mod => decide (0x200 ≤ o) && (o % 0x40 == 0x2C || o % 0x40 == 0x30 || o % 0x40 == 0x34)
    | .rail => decide (0x200 ≤ o) && decide (o < 0x400) && (o % 0x40 == 0x34 || o % 0x40 == 0x38)
    | _ => false

/-- The domains of the quadrants enabled in FAB_EN. -/
def State.fabDomains (s : State) : List Nat :=
  ((List.range 4).filter (fun q => s.bit pgPwr Off.pwrFAB_EN q)).map (fun q => 6 + q)

/-- A wake event in QUIET: DRC exits self-refresh, RTR and the enabled quadrants are powered again. -/
def State.quietResume (s : State) : State :=
  let on := s.setDomains (4 :: 5 :: s.fabDomains) true
  let up := if on.drcState == 4 then on.setDrcState 3 else on
  { up.setBusy true with pwr := { s.pwr with resuming := true } }

def execQuietResume (s : State) : Out :=
  .next (onlyIf (s.mode == 3 && s.pwr.wakePending != 0 && s.pwr.negTarget.isNone && !s.pwr.resuming) State.quietResume s)

/-- The retry counters of the channels, which lie in their status registers (R455). -/
def State.retriesClear (s : State) : State :=
  forEach (List.range 32) (fun m st => st.setFld (chPage m) (chOff m Off.modC_STAT) 10 8 0) s

/-- MOD is powered and the first release of the resumed fabric is at hand; us is the duration of the resume. -/
def State.resumeDone (us : Nat) (s : State) : State :=
  let s := ((s.clearRegs gatedClear).retriesClear).setDomain 10 true
  let s := { s with pwr := { s.pwr with resuming := false, wakePending := 0 }, sig := { s.sig with since := s.relTick } }
  let fresh := (List.range 32).filter (fun nn => s.domain (6 + nn / 8) && (s.engine nn).st == .off)
  let s := forEach fresh (fun nn st => (st.setEngine nn { st := .stopped }).intBit (pgEng + nn) 14) s
  let s := ((s.setRg pgPwr Off.pwrRESUME_LAST (us % 2 ^ 32)).pwrDone s.runMode).intBit pgPwr 3
  s.avsEnter

def execResumeDone (us : Nat) (s : State) : Out :=
  .next (onlyIf (s.mode == 3 && s.pwr.resuming && s.boundaryDue) (State.resumeDone us) s)

/-! ## DORMANT (R450, R451) -/

/-- What is left of the machine when every domain but AO has lost power: registers of class A and B and those of the AO
pages, the AOC's memories, the fuses, the time base without its anchor (R305), and the pins. Class C and D registers of
the AO pages keep their values in DORMANT and lose them at the wake (log entry 101). DESIGN CHOICE. -/
def State.aoOnly (s : State) : State :=
  let keep (k : Nat) : Bool := domainOf (k / 0x1000) == 0 || retOf k == .a || retOf k == .b
  State.dropAnchor { ({} : State) with
    pending := s.pending
    regs := smapKeep keep s.regs
    hiLatch := smapKeep keep s.hiLatch
    mem := smapKeep (fun a => decide (a < 0x20000)) s.mem
    ecc := smapKeep (fun a => decide (a < 0x20000)) s.ecc
    resp := s.resp
    ptp := s.ptp
    ctl := { ({} : CtlSt) with
      dbgReqs := s.ctl.dbgReqs, fuses := s.ctl.fuses, perst := s.ctl.perst, msixSent := s.ctl.msixSent
      gpioPins := s.ctl.gpioPins, startPin := s.ctl.startPin, aocDoorbells := s.ctl.aocDoorbells }
    mon := { ({} : MonSt) with aocScrub := s.mon.aocScrub }
    pwr := s.pwr
    freeCtr := s.freeCtr }

/-- The power-down of DORMANT: MAIN_EN falls. -/
def State.enterDormant (s : State) : State :=
  let s := s.aoOnly
  let s := { s with pwr := { s.pwr with
    ledgerStop := some s.ledger, negTarget := none, stopped := [], wakePending := 0, resuming := false, quadDue := 0, mainEn := false
    lowTimeDone := false, railWait := false } }
  ((s.pwrDone 4).setDomains [1, 2, 3, 4, 5, 6, 7, 8, 9, 10] false)

/-- The agent being asked stops: it is done with, or the abort point after it, or the last one powers down. At the final
abort point an alarm at or below the ledger is a wake event (R448); edges have come since the ledger was known last. -/
def State.agentStop (target a edges : Nat) (s : State) : State :=
  let s := s.ledgerCount edges
  let s := { s with pwr := { s.pwr with stopped := s.pwr.stopped ++ [a] } }
  let late := a == 9 && decide (s.alarm ≤ s.ledger) && s.bit pgPwr Off.pwrALARM_HI 31 && s.bit pgPwr Off.pwrWAKE_EN 2
  let s := if late then State.wakeEvent 2 s else s
  if s.pwr.wakePending ≠ 0 then s.negAbort
  else if a < 9 then s.setAgent (a + 1)
  else if target = 3 then s.enterQuiet
  else s.enterDormant

/-- The agent being asked answers. -/
def State.agentAnswer (xfer : Bool) (edges shut : Nat) (s : State) : State :=
  match s.pwr.negTarget with
  | none => s
  | some t =>
    let a := s.pwr.stopped.length
    let code := s.agentCode t a xfer shut
    if code ≠ 0 then State.agentRefuse a code s
    else if decide (1 ≤ a) && decide (a ≤ 4) && s.esc.tickOpen then s
    else State.agentStop t a edges s

def execAgentAnswer (xfer : Bool) (edges shut : Nat) (s : State) : Out := .next (State.agentAnswer xfer edges shut s)
def execAgentTimeout (s : State) : Out :=
  .next (onlyIf s.pwr.negTarget.isSome (fun s => State.agentRefuse s.pwr.stopped.length 15 s) s)

/-- MAIN_EN has been low for 1 ms: a wake that waits for it proceeds. -/
def execMainEnLowTimeEnd (s : State) : Out :=
  .next (onlyIf (s.mode == 4 && !s.pwr.mainEn && !s.pwr.lowTimeDone) (fun s =>
    if s.pwr.wakePending ≠ 0 then
      { s with pwr := { s.pwr with mainEn := true, railWait := true, wakePending := 0 } }
    else { s with pwr := { s.pwr with lowTimeDone := true } }) s)

/-- The rails are not valid within WAKE_TO. -/
def execWakeTimeout (s : State) : Out :=
  .next (onlyIf s.pwr.railWait (fun s =>
    { s.setBit pgPwr Off.pwrWAKE_CAUSE 5 true with
      pwr := { s.pwr with mainEn := false, railWait := false, lowTimeDone := false, wakePending := 0 }
      twb := { s.twb with wakeMatch := false } }) s)

/-! ## Pads (R453, R484) -/

/-- MAIN_EN at its ball: low while its supply is absent. -/
def State.mainEnPin (s : State) : Bool := s.pwr.mainEn && s.pwr.twUp

/-- A pad of CTL: the level that its unit drives while CTL works, and else its clamp. -/
def State.ctlPad (s : State) (clamp level : Bool) : Bool := if s.works 1 then level else clamp

/-- The boot port's chip select, low during a command, and its clock; AVS_CLK and AVS_MDATA. -/
def State.bootCsPin (s : State) : Bool := s.ctlPad true (!s.bootBusy)
def State.bootClkPin (s : State) (level : Bool) : Bool := s.ctlPad false (s.bootBusy && level)
def State.avsClkPin (s : State) (level : Bool) : Bool := s.ctlPad false level
def State.avsMdataPin (s : State) (level : Bool) : Bool := s.ctlPad true level

/-- GPIO p: the level driven, or none where it is an input or clamped. -/
def State.gpioPad (s : State) (p : Nat) : Option Bool :=
  if s.works 1 && s.bit pgGpio Off.gpioDIR p then some (s.bit pgGpio Off.gpioOUT p) else none

/-- The wake of DORMANT completes: every class C and D register at its reset value, the time base recovered, the
device booted (R451, R306). l: the ledger's count; valid: RTC_CLK was active throughout. -/
def State.wakeUp (rom : RomInput) (l : Nat) (valid : Bool) (s : State) : State :=
  let m := s.twb.wakeMatch
  let s := s.aoOnly
  let s := s.clearRegs (fun k => retOf k == .c || retOf k == .d)
  let s := { s with pwr := { ledgerStop := s.pwr.ledgerStop } }
  let s := ((s.orRg pgRst Off.rstCAUSE 32).setRg pgRst Off.rstLAST 6).inc pgRst Off.rstWAKE_CNT
  let s := State.ledgerRecover l valid s
  let s := if m then (s.inc pgTwb Off.twbWAKE_CNT).intBit pgTwb 10 else s
  State.romBoot rom s

def execWakeRailsValid (rom : RomInput) (l : Nat) (valid : Bool) (s : State) : Out :=
  .next (onlyIf (s.mode == 4 && s.pwr.railWait) (State.wakeUp rom l valid) s)

end Sys2Proof.Machine
end

