-- ==== Sys2Proof/Machine/Tick.lean ====
section
/-! DEFINITION. The boundary and the release of a tick, and the landing of a SWAP and of the staged registers at it
(R25, R26, R32 to R38, R54, R134 to R138, R152, R325). -/

namespace Sys2Proof.Machine

/-! ## The end of transfer B (R29, R228) -/

def execTransferBComplete (units xferNs : Nat) (us : List (Nat × Nat)) (s : State) : Out :=
  .next (onlyIf (s.esc.tickOpen && s.beat == 0 && s.esc.xfers == s.beatsN + 1)
    (fun s => (s.upset us).takeEnv.transferBDone units xferNs) s)

/-! ## A change of the tick number (R325) -/

/-- A tick number, and a media-sample position, after the change by d ticks. -/
def shiftN (d : Int) (k : Nat) : Nat := ((k : Int) + d).toNat

/-- Positions of the serial ports and groups follow the new numbering. -/
def TdmPort.shift (d t : Int) (p : TdmPort) : TdmPort :=
  { p with hist := p.hist.map (fun h => (shiftN (d * t) h.1, h.2)), landTick := shiftN d p.landTick
           since := shiftN d p.since, next := shiftN (d * t) p.next }

/-- Entries of a collection changed one by one, those that become the default dropped. -/
def smapMap {α : Type} [DecidableEq α] (d : Nat → α) (f : α → α) (m : SMap α) : SMap α :=
  (m.map (fun e => (e.1, f e.2))).filter (fun e => decide (e.2 ≠ d e.1))

/-- What the block lists of the envelope sources read as where nothing is kept. -/
def noBlocks : Nat → List (Nat × List Word) := fun _ => []

/-- Everything the device keeps by its own tick number, apart from a tick named by AT_TICK, follows the change by d
ticks: what happened, and what is due, keeps its instant. -/
def State.shiftTick (d : Int) (s : State) : State :=
  let t : Int := s.T
  let dr := s.drive
  let s := { s with
    sig := { s.sig with
      hist := s.sig.hist.map (fun (h : Nat × SMap Word) => (shiftN d h.1, h.2))
      since := shiftN d s.sig.since
      ahead := s.sig.ahead.map (fun (f : Nat × Nat × List Word) => (shiftN (d * t) f.1, f.2)) }
    esc := { s.esc with running := shiftN d s.esc.running, histFrom := shiftN d s.esc.histFrom }
    dpll := { s.dpll with steps := s.dpll.steps.map (fun (p : Int × Nat) => (p.1, shiftN d p.2)) }
    pair := { s.pair with tallies := s.pair.tallies.map (fun (x : Nat × Nat × Nat) => (shiftN d x.1, x.2)) } }
  let s := { s with drive := { dr with
    env := smapMap noBlocks (fun l => l.map (fun (b : Nat × List Word) => (shiftN d b.1, b.2))) dr.env
    ch := smapMap chReset (fun c => { c with fadeA := c.fadeA + d * t, lastA := c.lastA + d * t }) dr.ch } }
  let s := { s with
    grp := smapMap grpReset (fun g => { g with next := shiftN (d * t) g.next, armTick := shiftN d g.armTick }) s.grp
    tdm := smapMap tdmReset (TdmPort.shift d t) s.tdm
    net := { s.net with tx := smapMap txReset (fun x => { x with next := shiftN (d * t) x.next }) s.net.tx } }
  if s.hoistBit 4 then s else { s with sched := { s.sched with landTick := shiftN d s.sched.landTick } }

/-- The numbering of the crown is taken at a boundary (R325). -/
def State.adoptTick (s : State) : State :=
  match s.dpll.adopt with
  | none => s
  | some d =>
    let s := { s with dpll := { s.dpll with adopt := none } }
    let s := s.setRg64 pgEsc Off.escTICK_LO Off.escTICK_HI (shiftN d s.tick)
    ((State.shiftTick d s).inc pgStack Off.stackTICK_ADOPT_CNT).intBit pgStack 2

/-! ## The boundary (R26) -/

/-- The histogram clear of R30: the tick of this boundary is the first one counted. -/
def State.histClear (s : State) : State :=
  if s.esc.histClr then
    let s := forEach (List.range 16) (fun i st => st.setRg pgEsc (Off.escHIST + 4 * i) 0) s
    { s with esc := { s.esc with histClr := false, histFrom := s.tick } }
  else s

/-- The input blocks of the tick are complete: they wait for its release, and the next blocks begin. -/
def State.closeBlocks (s : State) : State :=
  let s := s.zBoundary
  { s with sig := { s.sig with due := s.sig.due ++ [s.sig.next], next := [] } }.takeAhead.decBoundary

/-- A DPLL in FREE with a reference selected begins to acquire it. -/
def State.dpllBegin (s : State) : State :=
  if s.dpllState = 0 ∧ s.pageEn pgDpll ∧ s.refSel < 7 then
    State.dpllSel s.refSel (s.setFld pgDpll Off.dpllSTATE 6 4 s.refSel)
  else s

/-- The steps applied over tick k, in ps (R256). -/
def State.stepsOf (s : State) (k : Nat) : Int :=
  s.dpll.steps.foldl (fun (x : Int) p => if p.2 = k then x + p.1 else x) 0

/-- How far the output moved in the tick in progress, by slew and steps. -/
def State.tickMove (s : State) : Int := s.dpll.part + s.stepsOf s.tick * psUnit

/-- The length of the tick in progress in ns: T sample periods at the output frequency, and the moves of its slew and
steps; a positive one lengthens it (R26, R255, R256, R500). -/
def State.tickLen (s : State) : Nat :=
  let nominal : Int := (s.T * s.sampleU * (5 * 10 ^ 17) : Nat)
  ((nominal / (5 * 10 ^ 17 + s.dpll.freq) + s.tickMove) / (1000 * psUnit : Nat)).toNat

/-- The slew at a boundary: its part of the tick that ends is done, and the next part is at most PHASE_SLEW of the
nominal tick (R254, R255). -/
def State.slewTick (s : State) : State :=
  let left := if s.slewing then s.dpll.slew - s.dpll.part else 0
  let lim : Nat := s.fld pgDpll Off.dpllPHASE_SLEW 13 0 * s.T * s.sampleU / 10 ^ 8
  { s with dpll := { s.dpll with slew := left, part := clampI (-(lim : Int)) lim left } }

/-- A boundary, with the level of PEER_ACT_IN. -/
def State.boundary (act : Bool) (s : State) : State :=
  let period := s.tickLen
  let s := (State.movePhase s.tickMove s).slewTick
  let s := { s with esc := { s.esc with tickRaw := some s.ptp.raw } }
  let s := s.setRg64 pgEsc Off.escTICK_LO Off.escTICK_HI ((s.tick + 1) % 2 ^ 64)
  let s := s.adoptTick.histClear.avsBoundary.tdmBoundary
  let s := (s.closeBlocks.thmBoundary).setRg pgEsc Off.escTICK_PERIOD period
  State.pairTest act s.dpllBegin

/-- A boundary may be placed: none waits for its release, or the release of one is held up by a tick that has not
completed (R37). -/
def State.boundaryOk (s : State) : Bool :=
  s.pwr.released && s.mode != 4 && s.pageEn pgEsc
  && (!s.boundaryDue || (s.esc.tickOpen && s.esc.fabOvrNow && s.sig.due.length == 1))

def execTickBoundary (act : Bool) (s : State) : Out :=
  .next (onlyIf s.boundaryOk (State.withLost (State.boundary act)) s)

/-! ## The release (R25, R32 to R38, R54) -/

/-- An engine begins its pass through a tick. -/
def Engine.beginTick (e : Engine) (pc : Nat) : Engine :=
  { e with st := .running, pc := pc, sx := 0, loops := [], steps := 0, ended := 0, waiting := false, startDue := false
           cand := [], obPrev := smapKeep (fun a => emem a == .ob) e.dm }

/-- Engine nn at a release: a running one begins the tick, a detached one skips it, a skipping one rejoins, or stops
where a stop has landed; what waited for the rejoin lands (R15, R33, R53, R137). -/
def State.engRelease (nn : Nat) (s : State) : State :=
  let e := s.engine nn
  let pc := s.rg (pgEng + nn) Off.engPC_START
  match e.st with
  | .running =>
    let e := if e.startDue then e else { e with hold := mergeBlocks e.cand e.hold, fresh := false }
    s.setEngine nn (e.beginTick pc)
  | .detached => s.setEngine nn { e with st := .skipping, cand := [] }
  | .skipping =>
    let s := (s.setBit pgEsc Off.escDETACHED nn false).setRg (pgEng + nn) Off.engCTL (b2n (s.runEff nn))
    if e.stopDue then (s.engStopped nn).paramRejoin nn
    else (s.setEngine nn (e.beginTick pc)).paramRejoin nn
  | _ => s.paramRejoin nn

/-- The scrubber's turn in engines that do not run, in every tick (R468). -/
def State.scrubStopped (s : State) : State :=
  forEach ((List.range 32).filter (fun nn => (s.engine nn).st.isStopped && s.works (6 + nn / 8))) (fun nn st => st.scrubEngine nn) s

/-- The engines held in the tick that begins: those that skip it (R39). -/
def State.skipMask (s : State) : Nat :=
  (List.range 32).foldl (fun m nn => if (s.engine nn).st = .skipping then m + 2 ^ nn else m) 0

/-- The blocks and marks of a tick that begins. -/
def State.openTick (s : State) : State :=
  let k := s.relTick
  let s := { s with
    sig := { s.sig with cur := s.sig.due.headD [], due := s.sig.due.tail, dest := [] }
    esc := { s.esc with
      running := k, tickOpen := true, xfers := 1, ovrInTick := false, stepInTick := false
      fabOvrPrev := s.esc.fabOvrNow, fabOvrNow := false, holdMask := s.skipMask } }
  (s.setBit pgEsc Off.escSTAT 0 true).setFld pgEsc Off.escSTAT 4 1 1

/-- Tick k is released; t1A and t1B are the instants at which the Carix markers leave, in sixteenths of the raw
count. -/
def State.release (t1A t1B : Nat) (s : State) : State :=
  let k := s.relTick
  let s := if s.esc.fabOvrNow then s else s.takeBlocks
  let s := s.stalls
  let s := forEach (List.range 32) State.engRelease s
  let s := (State.uncompared k s).openTick
  let s := s.strmDeliver.crxDeliver.genAll
  (State.crxTx k t1A t1B (s.transfer 0)).scrubStopped

/-- The instant R(k) while no tick is released: Carix frames leave, and the outputs carry 0 (R38, R45, R329). No overrun
stands before the tick that is released next. -/
def State.mark (t1A t1B : Nat) (s : State) : State :=
  let k := s.relTick
  let s := if s.bit pgEsc Off.escSTAT 5 || s.esc.fabOvrNow then s else s.takeBlocks
  let s := { s with
    sig := { s.sig with due := [], cur := [], dest := [] }
    esc := { s.esc with
      running := k, fabOvrNow := false, fabOvrPrev := false, ovrInTick := false, stepInTick := false } }
  (State.crxTx k t1A t1B ((State.uncompared k s).setBit pgEsc Off.escSTAT 0 false)).scrubStopped

/-- The tick in the fabric has not completed by R(k + 1), or by R(k + 2) (R37): late lists the destinations that a
transfer B in progress has not delivered. -/
def State.lateTick (late : List Nat) (s : State) : State :=
  if !s.esc.fabOvrNow then State.fabOverrun late s
  else if 2 ≤ s.sig.due.length then
    let s := (State.takeAs (s.esc.running + 1) s).inc pgEsc Off.escFAB_OVR_CNT
    { s with esc := { s.esc with stepInTick := false } }.avsOverrun.fabFatal
  else s

/-- The instant R(k) of the oldest boundary. Landings that are due come first. -/
def State.releaseTick (late : List Nat) (t1A t1B : Nat) (s : State) : State :=
  if s.esc.tickOpen then State.lateTick late s
  else if s.fabStopped then State.mark t1A t1B s
  else if s.landingDue || s.pair.takeoverDue then s
  else if s.bit pgEsc Off.escSTAT 5 then State.mark t1A t1B s
  else State.release t1A t1B s

def execTickRelease (late : List Nat) (t1A t1B : Nat) (us : List (Nat × Nat)) (s : State) : Out :=
  .next (onlyIf s.boundaryDue (fun s => State.releaseTick late t1A t1B (s.upset us)) s)

/-! ## Landing of staged registers (R5, R134, R152) -/

/-- Generator g at a REGS landing, before the values change: MODE changed or RESTART set (R152). -/
def State.genRestart (s : State) (new : SMap Word) (g : Nat) : Bool :=
  let o := Off.rtrGEN + 16 * g
  let v := (smapGet resetWord new (rkey pgRtr o)).toNat
  bitN v 8 || bitsN v 2 0 != bitsN (s.eff pgRtr o) 2 0

/-- Generator g restarts with its landed SEED; a RESTART that landed is cleared in the staged copy. -/
def State.genStart (g : Nat) (s : State) : State :=
  let o := Off.rtrGEN + 16 * g
  let seed := s.eff pgRtr (o + 12)
  let s := { s with rtr := { s.rtr with
    gens := smapSet genReset s.rtr.gens g { phase := 0, noise := if seed = 0 then 1 else seed, imp := 0 } } }
  if bitN (s.eff pgRtr o) 8 then s.setBit pgRtr o 8 false else s

/-- The staged values become the values in effect, the generators among them. -/
def State.takeStaged (s : State) : State :=
  let new := s.sched.snap.getD []
  let gs := (List.range 64).filter (s.genRestart new)
  forEach gs State.genStart { s with sched := { s.sched with eff := new, snap := none } }

/-- Registers in effect that take a staged value as it is. -/
def State.landPlain (s : State) : State :=
  let s := (s.setRg pgGain Off.gainZC_THRESH (s.eff pgGain Off.gainZC_THRESH_NX)).setRg pgGain Off.gainZC_TIMEOUT
    (s.eff pgGain Off.gainZC_TIMEOUT_NX)
  forEach (List.range 16) (fun p st =>
    (st.setRg (pgTdm + p) Off.tdmHOLD_FRAMES (st.eff (pgTdm + p) Off.tdmHOLD_FRAMES_NX)).setRg (pgTdm + p)
      Off.tdmRATE_TOL (st.eff (pgTdm + p) Off.tdmRATE_TOL_NX)) s

/-- The blocks act on their landed values. -/
def State.landBlocks (s : State) : State :=
  let s := forEach (List.range 16) (fun p st => State.tdmLand p (st.eff (pgTdm + p) Off.tdmCTL_NX) st) s
  let s := forEach (List.range 96) (fun n st =>
    State.decLand n (bitN (st.eff (decPage n) Off.decRUN_NX) (n % 16)) st) s
  s.railLand.thmLand.modLand.strmLand.crxLand.pairLand

/-- A REGS landing. -/
def State.regsLand (s : State) : State :=
  let s := s.stalls.takeStaged.landPlain
  let plane := s.planeAfterRegs
  let s := forEach (List.range 32) (fun nn st =>
    State.engLand plane nn st) s
  s.landBlocks.landed 2

/-- A request with SWAP meets an engine that is late (R137). -/
def State.swapMoved (s : State) : Bool := s.hoistBit 0 && s.anyLate

/-- Parameter groups of the request have yet to land: they land before an armed engine starts (R142). -/
def State.paramFirst (s : State) : Bool := s.hoistBit 1 && !s.hoistBit 0

def execRegsLanding (s : State) : Out :=
  .next (onlyIf (s.landingDue && s.hoistBit 2 && !s.swapMoved && !s.paramFirst) (State.withLost State.regsLand) s)

def execSwapLanding (s : State) : Out :=
  .next (onlyIf (s.landingDue && s.hoistBit 0 && (!s.hoistBit 2 || s.anyLate)) (fun s =>
    if s.anyLate then s.swapDefer
    else
      let before := s.c1Streams
      State.c1Lost before s.swapLand) s)

/-! ## The rate (R146) -/

/-- A write of RATE is refused: reserved codes, or an engine that runs or is armed. -/
def State.rateRefused (s : State) (v : Nat) : Bool := decide (6 ≤ bitsN v 2 0) || decide (6 ≤ bitsN v 5 3) || s.anyActive

/-- A write of RATE: an accepted one invalidates the anchor (R305) and stops decimation with an inexact ratio
(R206). -/
def State.rateWrite (v mid : Nat) (s : State) : State :=
  if s.rateRefused v then
    s.captureErr pgSched 2 (regAddr pgSched Off.schedRATE) mid (accType true false false 4)
  else (s.setRg pgSched Off.schedRATE (v % 64)).dropAnchor.decRate

def execSchedRateWrite (v mid : Nat) (s : State) : Out :=
  .next (s.guarded pgSched Off.schedRATE mid false (State.rateWrite v mid))

end Sys2Proof.Machine
end

