-- ==== Sys2Proof/Machine/Reset.lean ====
section
/-! DEFINITION. Resets: of the device (R306, R374, R454, R455, R476, R483, R484), and of one block (R38, R397, R398). -/

namespace Sys2Proof.Machine

/-! ## What a reset of the device leaves (R455) -/

/-- A memory address of the shared store, and one of DRAM, as the model keeps them. -/
def inStore (a : Nat) : Bool := decide (0x10000000 ≤ a) && decide (a < 0x11000000)
def inDram (a : Nat) : Bool := decide (0x100000000 ≤ a) && decide (a < 2 ^ 40)
def inAoc (a : Nat) : Bool := decide (a < 0x20000)
def inCpu (a : Nat) : Bool := decide (0x08000000 ≤ a) && decide (a < 0x08180000)

/-- The memory controller after a reset that puts an ONLINE or sleeping memory into self-refresh (R374). -/
def State.dramKept (s : State) : Bool := s.drcState == 3 || s.drcState == 4 || (s.drcState == 0 && s.dram.retained)

/-- The controller's own state after its reset; kept: the memory keeps its content. -/
def State.dramAfter (s : State) (kept : Bool) : DrcSt := if kept then { retained := true, mr := s.dram.mr } else {}

/-- Debug access is locked again, a block stays, and the challenge is void (R416). -/
def State.debugLocked (s : State) : State :=
  let f := s.fld pgSys Off.sysDBG_STAT 3 2
  s.setRg pgSys Off.sysDBG_STAT ((if f = 3 then 2 else 0) + 4 * f)

/-- What a reset leaves: registers of the classes of keep and their latches, bytes at the addresses of mem, the time
base, the fuses, the pins, and what only the outside holds. -/
def State.wiped (s : State) (keep : RetClass → Bool) (mem : Nat → Bool) : State :=
  let t : State := {
    pending := s.pending
    regs := smapKeep (fun k => keep (retOf k)) s.regs
    hiLatch := smapKeep (fun k => keep (retOf k)) s.hiLatch
    mem := smapKeep mem s.mem
    ecc := smapKeep mem s.ecc
    resp := s.resp
    ptp := s.ptp
    ctl := { dbgReqs := s.ctl.dbgReqs, fuses := s.ctl.fuses, perst := s.ctl.perst, msixSent := s.ctl.msixSent
             gpioPins := s.ctl.gpioPins, startPin := s.ctl.startPin, aocDoorbells := s.ctl.aocDoorbells }
    freeCtr := s.freeCtr }
  t.debugLocked.dropAnchor

/-- CAUSE, LAST and the counter of a reset (R459). -/
def State.cause (s : State) (bit last cnt : Nat) : State :=
  ((s.orRg pgRst Off.rstCAUSE (2 ^ bit)).setRg pgRst Off.rstLAST last).inc pgRst cnt

def keepA (r : RetClass) : Bool := r == .a
def keepAB (r : RetClass) : Bool := r == .a || r == .b

/-! ## Power-on (R454, R483, R484) -/

/-- VDD_AO falls, or rises for the first time: everything is at its reset value, and MAIN_EN is low. -/
def State.por (s : State) : State :=
  { pending := s.pending, resp := s.resp, freeCtr := s.freeCtr
    ctl := { fuses := s.ctl.fuses, perst := s.ctl.perst, msixSent := s.ctl.msixSent, gpioPins := s.ctl.gpioPins
             startPin := s.ctl.startPin, aocDoorbells := s.ctl.aocDoorbells }
    pwr := { aoReleased := false, released := false, mainEn := false, twUp := false } }

def execPor (s : State) : Out := .next s.por

/-- 1 ms after VDD_AO is valid the AO domain is released, and MAIN_EN goes high. Whether VDDIO_TW, its supply, is up
before the other rails is open (R481): a free value (log entry 102). -/
def execAoRelease (s : State) : Out :=
  .next (onlyIf (!s.pwr.aoReleased) (fun s => { s.fresh.2 with
    pwr := { s.pwr with aoReleased := true, mainEn := true, twUp := bitN s.fresh.1.toNat 0 } }) s)

/-- 200 µs after every rail is valid and RESET_N is high the device starts, and the ROM runs. -/
def execDeviceRelease (rom : RomInput) (s : State) : Out :=
  .next (onlyIf (s.pwr.aoReleased && !s.pwr.released) (fun s =>
    State.romBoot rom { s with pwr := { s.pwr with released := true, twUp := true } }) s)

/-! ## BOR, PIN, WDOG and SOFT (R454) -/

/-- VDD_CORE has failed: l and valid are the ledger's count and judgement of the stop (R306). -/
def State.bor (rom : RomInput) (l : Nat) (valid : Bool) (s : State) : State :=
  let s := (s.wiped keepAB inAoc).cause 1 2 Off.rstBOR_CNT
  State.romBoot rom (State.ledgerRecover l valid s)

def execBor (rom : RomInput) (l : Nat) (valid : Bool) (s : State) : Out :=
  .next (onlyIf (s.pwr.released && s.mode != 4) (State.bor rom l valid) s)

/-- RESET_N low. From DORMANT, whose rails are off, the device is released only once they are valid. -/
def State.pinReset (rom : RomInput) (s : State) : State :=
  let dormant := s.mode == 4
  let s := { (s.wiped keepA (fun a => inAoc a || inCpu a)).cause 2 3 Off.rstPIN_CNT with ptp := {} }
  if dormant then { s with pwr := { s.pwr with released := false } } else State.romBoot rom s

def execPinReset (rom : RomInput) (s : State) : Out := .next (onlyIf s.pwr.released (State.pinReset rom) s)

/-- A WDOG or SOFT reset: the memories keep their contents, DRAM in self-refresh (R374). -/
def State.warmReset (rom : RomInput) (bit last cnt : Nat) (s : State) : State :=
  let kept := s.dramKept
  let d := s.dramAfter kept
  let t := (s.wiped keepAB (fun a => inAoc a || inCpu a || inStore a || (kept && inDram a))).cause bit last cnt
  State.romBoot rom { t.ptpKeep with dram := d }

def execWdogReset (rom : RomInput) (s : State) : Out :=
  .next (onlyIf s.ctl.wdExpired (State.warmReset rom 3 4 Off.rstWDOG_CNT) s)

/-- A write of SYS.SOFT_RST: other values are ignored (R418). -/
def State.softRst (v : Nat) (rom : RomInput) (s : State) : State :=
  if v % 2 ^ 32 = 0x5AA5 then State.warmReset rom 4 5 Off.rstSOFT_CNT s else s

def execSoftReset (v : Nat) (rom : RomInput) (mid : Nat) (s : State) : Out :=
  .next (s.guarded pgSys Off.sysSOFT_RST mid false (State.softRst v rom))

/-! ## The reset of one block (R397, R398) -/

/-- Engines of a mask of states stop, as the fabric stops them. -/
def State.stopAll (s : State) (p : EngState → Bool) : State :=
  forEach (List.range 32) (fun nn st =>
    if p (st.engine nn).st then (st.engStopped nn).setBit pgEsc Off.escDETACHED nn false else st) s

/-- The tick in progress is abandoned (R38): the blocks that have reached their ports stand, all others are 0; late
lists the destinations that a transfer B in progress has not delivered. -/
def State.abandon (late : List Nat) (s : State) : State :=
  if !s.esc.tickOpen then s
  else if s.esc.xfers ≤ s.beatsN then { s with sig := { s.sig with dest := s.deliveredOver [] } }
  else
    let s := State.composeB late s
    { s with sig := { s.sig with dest := smapKeep (fun k => !late.contains (k / 32)) s.sig.dest } }

/-- A BLOCK reset of ESC (R38): the tick in progress is abandoned, and ports it has not delivered to receive 0. -/
def State.escReset (late : List Nat) (s : State) : State :=
  let s := State.abandon late s
  let s := s.stopAll EngState.inPlane
  let s := State.shiftTick (-(s.tick : Int)) s
  { s with esc := { running := s.esc.running }
           sig := { s.sig with due := [], cur := [] } }

/-- A BLOCK reset of SCHED: both banks are invalid, and no engine can run (R145). No copy-forward is left for held window
writes to wait for, and they complete (log entry 95). DESIGN CHOICE. -/
def State.schedReset (s : State) : State :=
  let s := s.stopAll (fun st => st.inPlane || st == .armed)
  let held := s.sched.held
  (State.heldEnds held { s with sched := { eff := s.sched.eff } }).setBit pgRtr Off.rtrSTAT 2 false

/-- A BLOCK reset of ENGnn: the engine is STOPPED, or OFF without power; its memories keep their contents. -/
def State.engReset (nn : Nat) (s : State) : State :=
  let e := s.engine nn
  (s.setEngine nn { st := if s.domain (6 + nn / 8) && e.st != .off then .stopped else .off, dm := e.dm, pm := e.pm }).setBit
    pgEsc Off.escDETACHED nn false

/-- A BLOCK reset of DRC: a memory that is ONLINE or in SR is put into self-refresh first (R374); requests stay at the
ports, and the PHY shows set A and no calibration (R378). -/
def State.drcReset (s : State) : State :=
  let kept := s.dramKept
  let s' := (if kept then s else s.eraseMem inDram).setFld pgDphy Off.dphySTAT 2 1 0
  { s' with dram := { s.dramAfter kept with reqs := s.dram.reqs } }

/-- A BLOCK reset of RTR clears class C, and with it all three banks (R169); no switch is pending then. Staged writes that
are held land in the reset values (R389). -/
def State.rtrReset (s : State) : State :=
  { (((s.clearBank 0).clearBank 1).clearBank 2).setRg pgGain Off.gainPENDING 0 with
    rtr := { held := s.rtr.held, heldMark := s.rtr.heldMark } }

/-- A BLOCK reset of PAIR: SOLO, ACT_OUT low, TERM kept (R355). -/
def State.pairReset (s : State) : State :=
  let s := if s.pairEn then State.pairEnter 0 s else s
  { s with pair := { actHeld := true } }

/-- What the block of a page holds beside its registers, before they are cleared; late lists the destinations that a
transfer B in progress has not delivered. -/
def State.blockBefore (page : Nat) (late : List Nat) (s : State) : State :=
  let i := pageInst page
  let c := s.ctl
  match pageKind page with
  | .sys => { s.setBit pgSys Off.sysDBG_STAT 4 false with ctl := { c with wdTime := 0, wdLeft := 0, wdWarn := 0, wdWarned := false } }
  | .pwr => if s.pwr.negTarget.isSome then s.rollBack else s
  | .avs => { s with avs := { acked := s.avs.acked, regulator := s.avs.regulator } }
  | .sens => { s with mon := { s.mon with shutRun := 0, supRun := 0, tempSeen := false } }
  | .boot => { s with ctl := { c with bootFifo := [], flashIn := [], flashOut := 0, flashSent := [], hashBytes := [] } }
  | .cpu => s.dropCore i
  | .mtx => { s with mtx := { s.mtx with lock := none, held := [] } }
  | .twb => { s with twb := { wakeMatch := s.twb.wakeMatch } }
  | .drc => s.drcReset
  | .pcie => s.pcieLost
  | .esc => State.escReset late s
  | .sched => s.schedReset
  | .store => { s with mon := { s.mon with storeScrub := 0 } }
  | .rtr => s.rtrReset
  | .gain => { s with rtr := { s.rtr with sw := [] } }
  | .tdmg => forEach (List.range 4) (fun g st =>
      let st := State.grpStop g st
      st.setGroup g { st.group g with armTick := 0, edge := false, slip := .none }) s
  | .tdm => s.setPort i {}
  | .dec => forEach (List.range 16) (fun n st => State.decStop (16 * i + n) st) s
  | .mod => forEach (List.range 8) (fun m st => st.setChan (8 * i + m) {}) s
  | .rail => { forEach ((List.range 8).filter s.railRuns) State.railStop s with
      drive := { s.drive with rail := [], env := [] } }
  | .thm => forEach (List.range 8) (fun m st => st.setThm (8 * i + m) {}) s
  | .ref =>
    let s := (s.setBit pgRef Off.refCTL 1 false)
    let s := State.selectRef 7 s
    { s with dpll := { s.dpll with mon := [], conf := [] } }
  | .dpll => { s with dpll := { mon := s.dpll.mon, conf := s.dpll.conf, shut := s.dpll.shut } }
  | .ptp => s.ptpKeep.dropAnchor
  | .mac => s.setMac i {}
  | .macm => s.setMac 4 {}
  | .strm => { s with net := { s.net with rx := [], tx := [], desc := [], cnt := [] } }
  | .tsn => { s with net := { s.net with gcl := [] } }
  | .crx => State.refInactive (5 + i) (s.setCrx i {})
  | .stack => { s with dpll := { s.dpll with shut := 0 } }
  | .pair => s.pairReset
  | .eng => State.engReset i s
  | _ => s

/-- Registers of classes C and D that a BLOCK reset of their page leaves: the mode and the domains (R454), and the
straps that SYS sampled. -/
def blockKeeps (page off : Nat) : Bool :=
  match pageKind page with
  | .pwr => off == Off.pwrMODE || off == Off.pwrDOMAINS
  | .sys => off == Off.sysSTRAPS
  | _ => false

/-- What follows once the registers have their reset values: those that come from straps and fuses, and what the block
does at once. -/
def State.blockAfter (page : Nat) (s : State) : State :=
  match pageKind page with
  | .pwr =>
    let due := (List.range 4).foldl (fun m q => if s.domain (6 + q) then m else putBits m q q 1) 0
    if s.running then { s with pwr := { s.pwr with quadDue := due } } else s
  | .pcie => (s.setRg pgPcie Off.pcieIDS (s.rg pgFuse (Off.fuseWORD + 4 * 48))).setRg pgPcie Off.pcieSUBSYS
      (s.rg pgFuse (Off.fuseWORD + 4 * 49))
  | .stack => (s.setBit pgStack Off.stackROLE 0 (!s.bit pgSys Off.sysSTRAPS 1)).recheckRef
  | .tdm | .tdmg => s.updMembers
  | .sched | .rtr => s.rtReset
  | .dphy => if s.drcState = 0 then s else s.setBit pgDphy Off.dphySTAT 1 (s.drcSet == 1)
  | _ => s

/-- Staged values of the page are lost, pending ones among them (R417). -/
def State.dropStaged (page : Nat) (s : State) : State :=
  let out (m : SMap Word) := smapKeep (fun k => k / 0x1000 != page) m
  { s with sched := { s.sched with eff := out s.sched.eff, snap := s.sched.snap.map out } }

/-- The block of a page takes its reset state, its registers that satisfy p kept. -/
def State.blockHeld (page : Nat) (late : List Nat) (p : Nat → Bool) (s : State) : State :=
  let s := State.dropStaged page (State.blockBefore page late s)
  State.blockAfter page (State.resetPageRegs page (fun o => p o || blockKeeps page o) s)

/-- SRST = 1 (R398, R459). -/
def State.blockReset (page : Nat) (late : List Nat) (s : State) : State :=
  (State.blockHeld page late (fun _ => false) s).setRg pgRst Off.rstBLOCK_LAST (page + 2 ^ 16)

/-- EN = 0: the block is held as a BLOCK reset leaves it, and the head keeps its values (R397). -/
def State.pageOff (page : Nat) (late : List Nat) (s : State) : State :=
  (State.blockHeld page late (fun o => decide (o < 0x100)) s).setBit page Off.headPAGE_CTL 0 false

/-- REF monitors again after its reset or enable: the PTP media reference is active in SYNC (R243, R301). -/
def State.monitorPtp (page : Nat) (s : State) : State :=
  if page = pgRef ∧ s.timeQual = 2 then State.refLive 4 s else s

/-- A write of v to PAGE_CTL: SRST, EN and WLOCK in this order (R396 to R399). On a locked page a write that would
change EN or sets SRST is refused. -/
def State.pageCtl (page mid v : Nat) (late : List Nat) (s : State) : State :=
  let en := s.pageEn page
  if s.pageLocked page && (bitN v 1 || bitN v 0 != en) then s.refuseAccess page Off.headPAGE_CTL mid true 4
  else if bitN v 1 then
    (let s := State.monitorPtp page (State.blockReset page late s)
    if bitN v 2 then s.setBit page Off.headPAGE_CTL 2 true else s)
  else
    let s := if en && !bitN v 0 then State.pageOff page late s
      else if !en && bitN v 0 then State.monitorPtp page (s.setBit page Off.headPAGE_CTL 0 true)
      else s
    if bitN v 2 then s.setBit page Off.headPAGE_CTL 2 true else s

/-- A write of PAGE_CTL under its guard. -/
def State.pageCtlWrite (page v mid : Nat) (late : List Nat) (s : State) : State :=
  s.guarded page Off.headPAGE_CTL mid false (State.withLost (State.pageCtl page mid v late))

/-- A write of PAGE_CTL that satisfies c. -/
def State.pageCtlIf (c : Bool) (page v mid : Nat) (late : List Nat) (s : State) : State :=
  onlyIf c (State.pageCtlWrite page v mid late) s

def execPageEnable (page : Fin 256) (v mid : Nat) (late : List Nat) (s : State) : Out :=
  .next (State.pageCtlIf (bitN v 0) page v mid late s)
def execPageDisable (page : Fin 256) (v mid : Nat) (late : List Nat) (s : State) : Out :=
  .next (State.pageCtlIf (!bitN v 0) page v mid late s)
def execBlockReset (page : Fin 256) (v mid : Nat) (late : List Nat) (s : State) : Out :=
  .next (State.pageCtlIf (bitN v 1) page v mid late s)
def execWlockSet (page : Fin 256) (v mid : Nat) (late : List Nat) (s : State) : Out :=
  .next (State.pageCtlIf (bitN v 2) page v mid late s)

end Sys2Proof.Machine
end

