-- ==== Sys2Proof/Machine/Sens.lean ====
section
/-! DEFINITION. Temperature and supply monitors, and the scrubbers of the store, DRAM and the local SRAMs (R468, R469,
R471 to R476). -/

namespace Sys2Proof.Machine

/-- SENS works while its domain is powered and its page enabled. -/
def State.sensRuns (s : State) : Bool := s.mode != 4 && s.pwr.released && s.pageEn pgSens

/-! ## Temperature (R471, R474) -/

/-- A threshold, in 1/16 degree. -/
def State.tempLimit (s : State) (o : Nat) : Int := toSigned 16 (s.rg pgSens o)

/-- A flag of STAT: set at its threshold, cleared 2 degrees below it. -/
def State.tempFlag (s : State) (b o : Nat) (r : Int) : State :=
  if s.tempLimit o ≤ r then s.setBit pgSens Off.sensSTAT b true
  else if r ≤ s.tempLimit o - 32 then s.setBit pgSens Off.sensSTAT b false
  else s

/-- An error of sensor i (R471). -/
def State.tempErr (s : State) (i cls bits : Nat) : State :=
  s.raiseErr pgSens cls bits (regAddr pgSens (Off.sensTEMP0 + 4 * i)) midNone 0

/-- Sensor and value of the highest present reading, the lowest sensor on a tie. -/
def State.hottest (s : State) : Nat × Int :=
  (List.range 8).foldl (fun b i =>
    let v := toSigned 16 (s.rg pgSens (Off.sensTEMP0 + 4 * i))
    if b.2 < v then (i, v) else b) (0, toSigned 16 (s.rg pgSens Off.sensTEMP0))

/-- The reading is stored, with HOTTEST and TEMP_MAX. -/
def State.tempStore (i : Nat) (r : Int) (s : State) : State :=
  let s := s.setRg pgSens (Off.sensTEMP0 + 4 * i) (ofSigned 16 r)
  let h := s.hottest
  let s := s.setRg pgSens Off.sensHOTTEST (ofSigned 16 h.2 + h.1 * 2 ^ 16)
  let m := toSigned 16 (s.rg pgSens Off.sensTEMP_MAX)
  let s := s.setRg pgSens Off.sensTEMP_MAX (ofSigned 16 (if s.mon.tempSeen then max m r else r))
  { s with mon := { s.mon with tempSeen := true } }

/-- Thermal shutdown: two readings in a row at TEMP_SHUT turn every bridge and rail off, which is Fatal. -/
def State.thermalShut (i : Nat) (again : Bool) (s : State) : State :=
  if again && s.bit pgSens Off.sensCTL 0 then (s.tempErr i 3 4).bridgesOff else s

/-- A reading of sensor i, in 1/16 degree. -/
def State.tempRead (i : Nat) (r : Int) (s : State) : State :=
  let r := clampI (-32768) 32767 r
  let s := State.tempStore i r s
  let hot := decide (s.tempLimit Off.sensTEMP_SHUT ≤ r)
  let again := hot && bitN s.mon.shutRun i
  let s := { s with mon := { s.mon with shutRun := putBits s.mon.shutRun i i (b2n hot) } }
  let s := (s.tempFlag i Off.sensTEMP_WARN r).tempFlag (8 + i) Off.sensTEMP_CRIT r
  let s := State.thermalShut i again s
  let s := if s.tempLimit Off.sensTEMP_CRIT ≤ r then s.tempErr i 2 2 else s
  if s.tempLimit Off.sensTEMP_WARN ≤ r then s.intBit pgSens 0 else s

def execTempReading (i : Fin 8) (r : Int) (s : State) : Out := .next (onlyIf s.sensRuns (State.tempRead i r) s)

/-- TEMP_MAX: a write of 0 clears it, another value is ignored. -/
def State.tempMaxWrite (v : Nat) (s : State) : State :=
  if v % 2 ^ 32 = 0 then { s.setRg pgSens Off.sensTEMP_MAX 0 with mon := { s.mon with tempSeen := false } } else s

def execTempMaxClear (v mid : Nat) (s : State) : Out :=
  .next (s.guarded pgSens Off.sensTEMP_MAX mid false (State.tempMaxWrite v))

/-- TEMP_SHUT is stored no higher than 150 degrees. -/
def State.tempShutWrite (v : Nat) (s : State) : State :=
  s.setRg pgSens Off.sensTEMP_SHUT (ofSigned 16 (min (toSigned 16 v) 2400))

/-! ## Supplies (R472) -/

/-- A reading of rail i, in mV: the second in a row outside its window sets SUPPLY; a reading inside clears it (log
entry 38). DESIGN CHOICE. -/
def State.supplyRead (i mv : Nat) (s : State) : State :=
  let mv := mv % 2 ^ 16
  let s := s.setRg pgSens (Off.sensSUP0 + 4 * i) mv
  let o := Off.sensSUP0_WIN + 4 * i
  let out := decide (mv < s.fld pgSens o 15 0) || decide (s.fld pgSens o 31 16 < mv)
  let again := out && bitN s.mon.supRun i
  let s := { s with mon := { s.mon with supRun := putBits s.mon.supRun i i (b2n out) } }
  if again then (s.setBit pgSens Off.sensSTAT (16 + i) true).pageErr pgSens 2 3
  else if out then s
  else s.setBit pgSens Off.sensSTAT (16 + i) false

def execSupplyReading (i : Fin 8) (mv : Nat) (s : State) : Out := .next (onlyIf s.sensRuns (State.supplyRead i mv) s)

/-! ## Scrubbing (R468, R469) -/

/-- A word of g bytes is scrubbed: a corrected one is written back, an uncorrectable one shows in the health word. -/
def State.scrubMem (g a : Nat) (s : State) : State :=
  let ty := accType false false false g
  match s.eccAt g a with
  | 0 => s
  | 1 => (s.memCe a midNone ty).setEcc g a 0
  | _ =>
    let t := s.memUe a midNone ty
    { t with pair := { t.pair with failMem := true } }

/-- SCRUB_CTL enables scrubber i. -/
def State.scrubOn (s : State) (i : Nat) : Bool := s.mode != 4 && s.pwr.released && s.bit pgStore Off.storeSCRUB_CTL i

/-- The next word of the shared store. -/
def State.storeScrub (s : State) : State :=
  let i := s.mon.storeScrub
  let s := State.scrubMem 8 (0x10000000 + 8 * i) s
  let s := { s with mon := { s.mon with storeScrub := (i + 1) % 2 ^ 21 } }
  if i + 1 = 2 ^ 21 then (s.inc pgStore Off.storePASS_CNT).intBit pgStore 2 else s

def execStoreScrub (us : List (Nat × Nat)) (s : State) : Out :=
  .next (onlyIf (s.scrubOn 0) (fun s => (s.upset us).storeScrub) s)

/-- The next word of the usable DRAM: a request, which ends self-refresh (R366). -/
def State.dramScrub (s : State) : State :=
  let n := s.rg pgDrc Off.drcCAP * 2 ^ 17
  let i := if s.mon.dramScrub < n then s.mon.dramScrub else 0
  let a := 0x100000000 + 8 * i
  let s := State.scrubMem 8 a (s.srExit a)
  let s := { s with mon := { s.mon with dramScrub := if i + 1 < n then i + 1 else 0 } }
  if i + 1 < n then s else s.inc pgStore Off.storeDRAM_PASS_CNT

/-- Inline ECC is active, and the memory answers. -/
def State.dramScrubs (s : State) : Bool :=
  s.scrubOn 3 && s.bit pgDrc Off.drcSTAT 4 && (s.drcState == 3 || s.drcState == 4)
  && s.memGate 0x100000000 8 false == .ok

def execDramScrub (us : List (Nat × Nat)) (s : State) : Out :=
  .next (onlyIf s.dramScrubs (fun s => (s.upset us).dramScrub) s)

/-- Base and words of a local SRAM: AOC, CPU0, CPU1. -/
def sramOf (m : Nat) : Nat × Nat :=
  if m = 0 then (0x10000, 0x4000) else if m = 1 then (0x08000000, 0x20000) else (0x08100000, 0x20000)

/-- The next word of a local SRAM. -/
def State.sramScrub (m : Nat) (s : State) : State :=
  let i := if m = 0 then s.mon.aocScrub else if m = 1 then s.mon.cpu0Scrub else s.mon.cpu1Scrub
  let j := (i + 1) % (sramOf m).2
  let s := State.scrubMem 4 ((sramOf m).1 + 4 * i) s
  { s with mon :=
    (if m = 0 then { s.mon with aocScrub := j } else if m = 1 then { s.mon with cpu0Scrub := j }
    else { s.mon with cpu1Scrub := j }) }

def execSramScrub (m : Fin 3) (us : List (Nat × Nat)) (s : State) : Out :=
  .next (onlyIf (s.scrubOn 4) (fun s => State.sramScrub m (s.upset us)) s)

end Sys2Proof.Machine
end

