-- ==== Sys2Proof/Machine/Twb.lean ====
section
/-! DEFINITION. The controller role of the two-wire bus: commands, the FIFO, arbitration, recovery (R432 to R436, R438,
R439). The target role is in TwbTgt.lean. -/

namespace Sys2Proof.Machine

/-! ## Registers and status (R439) -/

def State.twbMod (s : State) (f : TwbSt → TwbSt) : State := { s with twb := f s.twb }
def State.tgtEn (s : State) : Bool := s.bit pgTwb Off.twbCTL 0
def State.twbOwns (s : State) : Bool := s.bit pgTwb Off.twbSTAT 2
def State.setOwns (s : State) (b : Bool) : State := s.setBit pgTwb Off.twbSTAT 2 b

/-- The fields of CMD as the command was given: address, READ, bytes, STOP. -/
def State.cmdAddr (s : State) : Nat := bitsN s.twb.op 6 0
def State.cmdRead (s : State) : Bool := bitN s.twb.op 7
def State.cmdLen (s : State) : Nat := bitsN s.twb.op 15 8 + 1
def State.cmdStop (s : State) : Bool := bitN s.twb.op 16

/-- BUSY, BUS_BUSY, TGT_ACTIVE and the FIFO count follow the state of both roles. -/
def State.showTwb (s : State) : State :=
  let t := s.twb
  let s := ((s.setBit pgTwb Off.twbSTAT 0 (t.cmd != 0)).setBit pgTwb Off.twbSTAT 3 t.active).setFld pgTwb Off.twbSTAT
    12 4 t.fifo.length
  s.setBit pgTwb Off.twbSTAT 1 (s.twbOwns || t.active || t.cmd == 1 || t.cmd == 3)

/-! ## FIFO -/

def State.twbPush (v mid : Nat) (s : State) : State :=
  if 256 ≤ s.twb.fifo.length then s.refuseAccess pgTwb Off.twbFIFO mid true 4
  else (s.twbMod (fun t => { t with fifo := t.fifo ++ [BitVec.ofNat 8 v] })).showTwb

def State.twbPop (mid : Nat) (s : State) : State :=
  match s.twb.fifo with
  | [] => s.refuseAccess pgTwb Off.twbFIFO mid false 4
  | b :: bs => ((s.twbMod (fun t => { t with fifo := bs })).showTwb).deliver (toLE 4 b.toNat)

def execTwbFifoWrite (v mid : Nat) (s : State) : Out :=
  .next (s.guarded pgTwb Off.twbFIFO mid false (State.twbPush v mid))
def execTwbFifoRead (mid : Nat) (s : State) : Out :=
  .next (s.guardRead pgTwb Off.twbFIFO mid (fun _ => 0) (State.twbPop mid))

/-! ## The end of a command -/

/-- A command ends with result r after n data bytes; the first k bytes of the FIFO have been sent. -/
def State.twbEnd (r n k : Nat) (owns : Bool) (s : State) : State :=
  let s := s.twbMod (fun t => { t with cmd := 0, done := 0, retries := 0, fifo := t.fifo.drop k })
  let s := ((s.setFld pgTwb Off.twbSTAT 23 16 n).setFld pgTwb Off.twbSTAT 26 24 r).setOwns owns
  s.showTwb.intBit pgTwb 0

/-- Bytes of a write that the FIFO has already given when the command ends early. -/
def State.twbSent (s : State) : Nat := if s.cmdRead then 0 else s.twb.done

/-! ## A run on the bus (R432, R433) -/

/-- The data bytes of a write: bytes that the FIFO does not hold are free values (log entry 4). -/
def State.twbData (s : State) : List Byte × State :=
  let f := s.twb.fifo.take s.cmdLen
  let r := State.freeBytes (s.cmdLen - f.length) s
  (f ++ r.1, r.2)

/-- Arbitration is lost at bit b of byte i: the command waits to be repeated, or ends with result 3. -/
def State.twbLost (i b : Nat) (s : State) : State :=
  let s := s.setRg pgTwb Off.twbARB_LOST (i % 256 + b % 8 * 2 ^ 8 + 2 ^ 16)
  let s := (s.inc pgTwb Off.twbARB_LOST_CNT).intBit pgTwb 1
  if s.twb.retries = 0 then State.twbEnd 3 0 0 false s
  else ((s.twbMod (fun t => { t with cmd := 3, retries := t.retries - 1, done := 0 })).setOwns false).showTwb

/-- The index of the first data byte that is not acknowledged, of n sent. -/
def firstNak (n : Nat) (acks : List Bool) : Option Nat := (List.range n).find? (fun i => !acks.getD i true)

/-- The address byte has been acknowledged: the data bytes follow. -/
def State.twbBody (run : TwbRun) (data : List Byte) (s : State) : State :=
  let n := s.cmdLen
  if s.cmdRead then
    let bs := (List.range n).map (fun i => run.bytes.getD i 0xFF)
    let room := 256 - s.twb.fifo.length
    State.twbEnd 0 n 0 (!s.cmdStop) (s.twbMod (fun t => { t with fifo := t.fifo ++ bs.take room }))
  else
    match firstNak n run.acks with
    | some i =>
      State.twbEnd 2 i (i + 1) (!s.cmdStop) (s.twbMod (fun t => { t with bus := t.bus ++ data.take (i + 1) }))
    | none => State.twbEnd 0 n n (!s.cmdStop) (s.twbMod (fun t => { t with bus := t.bus ++ data }))

/-- The command runs on a bus that it owns. A device that is addressed at its own target address answers NAK (R430,
R438). -/
def State.twbRun (run : TwbRun) (s : State) : State :=
  let own := s.cmdAddr == s.fld pgTwb Off.twbADDR 6 0
  let d := if s.cmdRead then ([], s) else s.twbData
  let first : Byte := BitVec.ofNat 8 (2 * s.cmdAddr + b2n s.cmdRead)
  let s := (d.2.setOwns true).twbMod (fun t => { t with cmd := 2, bus := [first] })
  match run.lost with
  | some (i, b) => State.twbLost i b s
  | none =>
    if own then State.twbEnd 1 0 0 (!s.cmdStop) ((s.inc pgTwb Off.twbNAK_BUSY_CNT).intBit pgTwb 4)
    else if !run.ack then State.twbEnd 1 0 0 (!s.cmdStop) s
    else if run.ends then State.twbBody run d.1 s
    else
      let n := min run.done s.cmdLen
      let got := if s.cmdRead then (run.bytes.take n).take (256 - s.twb.fifo.length) else []
      (s.twbMod (fun t => { t with done := n, fifo := t.fifo ++ got })).showTwb

/-! ## Recovery (R436) -/

/-- A recovery: none where it succeeds, else the state in which the command has ended. -/
def State.twbRecover (run : TwbRun) (s : State) : Bool × State :=
  let s := s.inc pgTwb Off.twbREC_CNT
  if run.sclLow then (false, (State.twbEnd 6 0 0 false s).pageErr pgTwb 2 9)
  else if run.foreign then
    (false, ((State.twbEnd 4 0 0 false s).inc pgTwb Off.twbBUS_ERR_CNT).intBit pgTwb 2)
  else if 1 ≤ run.pulses ∧ run.pulses ≤ 9 then (true, s)
  else (false, (State.twbEnd 6 0 0 false s).pageErr pgTwb 2 9)

/-- The command has the bus: a stuck SDA is freed first where AUTO_REC is set. -/
def State.twbBegin (run : TwbRun) (s : State) : State :=
  if s.bit pgTwb Off.twbCTL 2 && run.sdaLow && !run.sclLow && !s.twbOwns then
    (let r := State.twbRecover run s
    if r.1 then State.twbRun run r.2 else r.2)
  else State.twbRun run s

/-- GO: the command starts, or waits for another controller's STOP. -/
def State.twbGo (run : TwbRun) (s : State) : State :=
  let s := s.twbMod (fun t => { t with retries := s.fld pgTwb Off.twbCTL 6 4, done := 0, op := s.rg pgTwb Off.twbCMD })
  if (s.twb.active || run.held) && !s.twbOwns then (s.twbMod (fun t => { t with cmd := 1 })).showTwb
  else State.twbBegin run s

/-! ## Writes of CMD, CTL, ADDR and WAKE_CFG (R438, R439) -/

/-- ABORT: a waiting or running command ends with result 7; the bus, where it is owned, gets a STOP. -/
def State.twbAbort (s : State) : State :=
  if s.twb.cmd = 0 then s else State.twbEnd 7 s.twb.done s.twbSent false s

/-- RECOVER by firmware: a command of its own. -/
def State.twbRecoverCmd (run : TwbRun) (s : State) : State :=
  let r := State.twbRecover run s
  if r.1 then State.twbEnd 0 0 0 false r.2 else r.2

/-- A write of v to CMD: ABORT acts first, and the fields are stored; while the controller is disabled or busy, RECOVER and
GO begin nothing (log entry 97). DESIGN CHOICE. -/
def State.twbCmd (v : Nat) (run : TwbRun) (s : State) : State :=
  let s := (if bitN v 18 then s.twbAbort else s).putReg pgTwb Off.twbCMD v
  if s.twb.cmd != 0 || !s.bit pgTwb Off.twbCTL 1 then s
  else if bitN v 17 then State.twbRecoverCmd run s
  else if bitN v 31 then State.twbGo run s
  else s

/-- A write of CMD that satisfies c. -/
def State.twbCmdWrite (c : Bool) (v : Nat) (run : TwbRun) (mid : Nat) (s : State) : State :=
  onlyIf c (fun s => s.guarded pgTwb Off.twbCMD mid false (State.twbCmd v run)) s

def execTwbControllerWrite (v : Nat) (run : TwbRun) (mid : Nat) (s : State) : Out :=
  .next (State.twbCmdWrite (bitN v 31 && !bitN v 7) v run mid s)
def execTwbControllerRead (v : Nat) (run : TwbRun) (mid : Nat) (s : State) : Out :=
  .next (State.twbCmdWrite (bitN v 31 && bitN v 7) v run mid s)
def execTwbRecover (v : Nat) (run : TwbRun) (mid : Nat) (s : State) : Out :=
  .next (State.twbCmdWrite (bitN v 17) v run mid s)
def execTwbAbort (v : Nat) (run : TwbRun) (mid : Nat) (s : State) : Out :=
  .next (State.twbCmdWrite (bitN v 18) v run mid s)

/-- CFG_ERR: ADDR and WAKE_CFG are writable only while TGT_EN is 0, and ADDR takes no reserved address. -/
def State.twbCfg (off v mid : Nat) (s : State) : State :=
  let reserved := off == Off.twbADDR && (decide (v % 128 < 8) || decide (0x78 ≤ v % 128))
  if s.tgtEn || reserved then s.writeErr pgTwb off mid 11 else s.putReg pgTwb off v

/-! ## Events of the bus -/

def execTwbArbRetry (run : TwbRun) (s : State) : Out :=
  .next (onlyIf (s.twb.cmd == 3 && !s.twb.active) (State.twbRun run) s)
def execTwbBusFreeStart (run : TwbRun) (s : State) : Out :=
  .next (onlyIf (s.twb.cmd == 1 && !s.twb.active) (State.twbBegin run) s)

/-- A START or STOP that the controller did not make while it owns the bus. -/
def State.twbForeign (s : State) : State :=
  let s := if s.twb.cmd = 2 then State.twbEnd 4 s.twb.done s.twbSent false s else (s.setOwns false).showTwb
  (s.inc pgTwb Off.twbBUS_ERR_CNT).intBit pgTwb 2

def execTwbControllerBusError (s : State) : Out := .next (onlyIf s.twbOwns State.twbForeign s)

/-- SCL has been low for SCL_TO. -/
def execTwbSclTimeout (s : State) : Out :=
  .next (onlyIf (s.twb.cmd == 2 && s.twbOwns && s.fld pgTwb Off.twbSCL_TO 15 0 != 0) (fun s =>
    (State.twbEnd 5 s.twb.done s.twbSent false s).pageErr pgTwb 2 8) s)

end Sys2Proof.Machine
end

