-- ==== Sys2Proof/Machine/RegWrite.lean ====
section
/-! DEFINITION. Register writes (R3 to R9, R12, R499): the write of every register of every page, with the behaviour of
its own where it has one, and the commands over the common head. -/

namespace Sys2Proof.Machine

/-! ## Registers without a behaviour of their own -/

/-- A write under the access code of the register (R3); reserved offsets ignore it (R8). -/
def State.plainWrite (page off v : Nat) (s : State) : State :=
  match rowAt page off with
  | none => s
  | some r =>
    match r.acc with
    | .ro | .wo | .w1s => s
    | .w1c => s.setRg page off (s.rg page off - (s.rg page off &&& v))
    | .rw | .rwh | .nx => s.putReg page off v

/-- A write that is accepted only while ok holds, and refused under R12 otherwise: an error response and a Contained
error of the page (R499). -/
def State.limited (ok : Bool) (page off v mid : Nat) (s : State) : State :=
  if ok then State.plainWrite page off v s else s.refuseAccess page off mid true 4

/-- A write accepted only while ok holds, and ignored otherwise. -/
def State.writeIf (ok : Bool) (page off v : Nat) (s : State) : State :=
  if ok then State.plainWrite page off v s else s

/-! ## Latched pairs (R9) -/

/-- Whether a register of a block is the _LO of a 64-bit pair, or of a pair that its table reads under R9; its _HI lies
four bytes above. DEDUCED. -/
def isPairLo (page off : Nat) : Bool :=
  if off < 0x100 then off == Off.headERR_TIME_LO
  else
    match pageKind page with
    | .pwr => off == Off.pwrLEDGER_LO
    | .esc => off == Off.escTICK_LO
    | .sched => [Off.schedHOIST_TICK_LO, Off.schedLAST_TICK_LO, Off.schedIMG_A_LO, Off.schedIMG_B_LO].contains off
    | .tdmg =>
      off == Off.tdmgSTART_TS_LO
      || (decide (off < 0x200)
        && [Off.tdmgG_TRIG_LO, Off.tdmgG_START_TICK_LO, Off.tdmgG_FRAME_LO].contains (0x100 + off % 0x40))
    | .ptp => [Off.ptpRAW_LO, Off.ptpSTEP_LO, Off.ptpSLEEP_LO, Off.ptpANCHOR_LO].contains off
    | .mac | .macm => decide (0x200 ≤ off) && decide (off < 0x270) && off % 8 == 0
    | .strm => off == Off.strmMC_OFS_LO
    | .pair => [Off.pairTALLY_LO, Off.pairPEER_TALLY_LO, Off.pairHEALTH_LO, Off.pairPEER_HEALTH_LO].contains off
    | .eng => off == Off.engPAR_SEL_LO
    | _ => false

/-- The registers that a read of one latches: the _HI of a pair, and two words of an accumulator (R9, R94). -/
def latchedBy (page off : Nat) : List Nat :=
  if isPairLo page off then [off + 4]
  else if pageKind page = .eng ∧ 0x440 ≤ off ∧ off < 0x4C0 ∧ off % 16 = 0 then [off + 4, off + 8]
  else []

/-- Whether a read of a register returns its latch. -/
def isLatched (page off : Nat) : Bool :=
  decide (4 ≤ off) && (isPairLo page (off - 4)
    || (pageKind page == .eng && decide (0x440 ≤ off) && decide (off < 0x4C0) && (off % 16 == 4 || off % 16 == 8)))

/-! ## The architectural state of an engine (R50, R94) -/

/-- The word at an offset from 0x400 on. -/
def Engine.archRead (e : Engine) (off : Nat) : Nat :=
  let acc := ofSigned 96 (e.accV ((off - 0x440) / 16))
  let k := (off - 0x520) / 16
  if off < 0x440 then (e.rd ((off - 0x400) / 4)).toNat
  else if off < 0x4C0 then
    (if off % 16 = 12 then 0 else bitsN acc (8 * (off % 16) + 31) (8 * (off % 16)))
  else if off < 0x4E0 then e.ptr ((off - 0x4C0) / 4)
  else if off < 0x500 then ofSigned 17 (e.ofs ((off - 0x4E0) / 4))
  else if off < 0x520 then e.wrap ((off - 0x500) / 4)
  else
    match off % 16 with
    | 0 => ofSigned 32 (e.gainV k)
    | 4 => ofSigned 32 (e.gainT k)
    | 8 => ofSigned 32 (e.gainS k)
    | _ => e.gainC k

/-- A word written at an offset from 0x400 on; of the upper word of an accumulator, bits [15:0] count. -/
def Engine.archWrite (e : Engine) (off v : Nat) : Engine :=
  let a := (off - 0x440) / 16
  let part := off % 16
  let hi := if part = 8 then 79 else 8 * part + 31
  let k := (off - 0x520) / 16
  let i := toSigned 32 v
  if off < 0x440 then e.setD ((off - 0x400) / 4) (w32 v)
  else if off < 0x4C0 then e.setAcc a (toSigned 80 (putBits (ofSigned 80 (e.accV a)) hi (8 * part) v))
  else if off < 0x4E0 then e.setP ((off - 0x4C0) / 4) v
  else if off < 0x500 then e.setN ((off - 0x4E0) / 4) (toSigned 17 v)
  else if off < 0x520 then e.setW ((off - 0x500) / 4) v
  else
    match part with
    | 0 => e.setGain k i (e.gainT k) (e.gainS k) (e.gainC k)
    | 4 => e.setGain k (e.gainV k) i (e.gainS k) (e.gainC k)
    | 8 => e.setGain k (e.gainV k) (e.gainT k) i (e.gainC k)
    | _ => e.setGain k (e.gainV k) (e.gainT k) (e.gainS k) v

/-- A write of a register of ENGnn (R52, R80, R94). -/
def State.wrEng (page off v mid : Nat) (s : State) : State :=
  let nn := pageInst page
  let stopped := (s.engine nn).st.isStopped
  if off = Off.engCTL_NX then State.engCtlWrite nn v s
  else if off = Off.engMP_WAIT_MAX then State.clearOnZero page off v s
  else if off = Off.engPC_START ∨ (Off.engMB ≤ off ∧ off < Off.engMB + 0x80) then State.limited stopped page off v mid s
  else if 0x400 ≤ off ∧ (rowAt page off).isSome then
    (if stopped then s.modEngine nn (fun e => e.archWrite off (regValue page off v))
    else s.refuseAccess page off mid true 4)
  else State.plainWrite page off v s

/-! ## The signal plane -/

/-- ESC.CTL, whose bits read 0 (R47). -/
def State.escCtl (v : Nat) (s : State) : State :=
  let s := if bitN v 1 then (s.setRg pgEsc Off.escSLACK_MIN 0xFFFFFFFF).setRg pgEsc Off.escSLACK_MAX 0 else s
  if bitN v 0 then { s with esc := { s.esc with histClr := true } } else s

/-- SCHED (R146). -/
def State.wrSched (off v mid : Nat) (s : State) : State :=
  if off = Off.schedCTL then
    (let s := if bitN v 0 then s.loadAbort else s
    if bitN v 1 then s.invalB else s)
  else if off = Off.schedRATE then State.rateWrite v mid s
  else if off = Off.schedLOAD then (if bitN v 0 then s.loadGo else s)
  else if off = Off.schedHOIST then State.hoistWrite mid v s
  else if Off.schedPGP ≤ off ∧ off < Off.schedPGP + 0x100 then s.orRg pgSched off v
  else State.plainWrite pgSched off v s

/-- TDMp (R176, R189, R191). -/
def State.wrTdm (page off v mid : Nat) (s : State) : State :=
  let p := pageInst page
  if off = Off.tdmMUTE_NOW then (if bitN v 0 then State.muteNow p s else s)
  else if off = Off.tdmCFG ∨ off = Off.tdmFMT ∨ off = Off.tdmTX_EN then
    (State.limited ((s.port p).inD.ph == 0) page off v mid s).updMembers
  else State.plainWrite page off v s

/-- TDMG (R193). -/
def State.wrTdmg (off v mid : Nat) (s : State) : State :=
  if off < 0x200 ∧ off % 0x40 = 0 then State.grpCtlWrite ((off - 0x100) / 0x40) mid v s
  else State.plainWrite pgTdmg off v s

/-- DECx (R195, R204, R206, R208). -/
def State.wrDec (page off v mid : Nat) (s : State) : State :=
  let i := (off - 0x200) / 16
  let c := (off - Off.decCLK) / 4
  if Off.decCLK ≤ off ∧ off < Off.decCLK + 16 then
    (if page ≠ pgDec then s
    else if (List.range 96).any (fun n => s.decRuns n && s.decCfg n 3 2 == c) then (s.writeErr page off mid 3).errResp
    else State.plainWrite page off v s)
  else if 0x200 ≤ off ∧ off < 0x300 ∧ off % 16 < 8 then
    (if s.decRuns (16 * pageInst page + i) then
      ((s.setBit page Off.decWR_REFUSED i true).writeErr page off mid 3).errResp
    else State.plainWrite page off v s)
  else State.plainWrite page off v s

/-- Whether a bridge channel is OFF or LATCHED (R211, R236). -/
def State.chIdle (s : State) (m : Nat) : Bool := s.chState m == 0 || s.chState m == 7

/-- MODx (R214, R215, R236). A channel that is not OFF or LATCHED belongs to the signal plane: none of its settings may
be written (R12; log entry 89). DEDUCED. -/
def State.wrMod (page off v mid : Nat) (s : State) : State :=
  let x := pageInst page
  let k := (off - 0x200) / 0x40
  let o := 0x200 + (off - 0x200) % 0x40
  if off = Off.modFORCE_OFF then forEach (chansOf x v) State.forceOff s
  else if off = Off.modCLR then forEach (chansOf x v) State.chClear s
  else if off = Off.modPER then
    (if x = 0 then State.limited ((List.range 32).all s.chIdle) page off v mid s else s)
  else if off = Off.modMIN_PULSE ∨ off = Off.modCM_RAMP ∨ off = Off.modFADE then
    State.limited ((List.range 8).all (fun k => s.chIdle (8 * x + k))) page off v mid s
  else if 0x200 ≤ off ∧ off < 0x400 ∧ o < Off.modC_STAT then
    State.limited (s.chIdle (8 * x + k)) page off v mid s
  else State.plainWrite page off v s

/-- RAIL (R226, R230, R238). A group that runs belongs to the signal plane: none of its settings may be written (R12,
R235; log entry 89). DEDUCED. -/
def State.wrRail (off v mid : Nat) (s : State) : State :=
  let g := (off - 0x200) / 0x40
  if off = Off.railCLR then forEach ((List.range 8).filter (bitN v)) State.railClear s
  else if 0x800 ≤ off ∧ off < 0x880 then State.limited (s.chState ((off - 0x800) / 4) == 0) pgRail off v mid s
  else if off < 0x400 ∧ 0x200 ≤ off ∧ off % 0x40 < Off.railG_CMD % 0x40 then
    State.limited (!s.bit pgRail Off.railCTL g) pgRail off v mid s
  else State.plainWrite pgRail off v s

/-- THMx (R240): DT_VC, and the rise that it holds. The settings of a model that runs, and the place of a page's gain
words while one of it runs, may not be written; the ambient temperature is an input, and may (R12, R20; log entry 89).
DEDUCED. -/
def State.wrThm (page off v mid : Nat) (s : State) : State :=
  let m := 8 * pageInst page + (off - 0x200) / 0x40
  if 0x200 ≤ off ∧ off < 0x400 ∧ off % 0x40 = Off.thmC_DT_VC % 0x40 then
    (if s.thmOn m then s.refuseAccess page off mid true 4
    else (s.setThm m { s.thm m with dTvc := toSigned 32 v }).putReg page off v)
  else if 0x200 ≤ off ∧ off < 0x400 ∧ off % 0x40 < Off.thmC_DT_VC % 0x40 then State.limited (!s.thmOn m) page off v mid s
  else if off = Off.thmGAIN_BASE then
    State.limited (!(List.range 8).any (fun k => s.thmOn (8 * pageInst page + k))) page off v mid s
  else State.plainWrite page off v s

/-! ## Clocks and time -/

/-- REF (R242 to R250, R260). -/
def State.wrRef (off v mid : Nat) (s : State) : State :=
  let n := (off - 0x200) / 0x40
  let o := 0x200 + off % 0x40
  if off = Off.refCTL then State.refCtl v mid s
  else if off = Off.refHOLD_LIMIT then State.holdLimit v s
  else if 0x200 ≤ off ∧ n < 7 ∧ o = Off.refR_CFG then State.refCfg n v mid s
  else if 0x200 ≤ off ∧ n < 7 ∧ o = Off.refR_ACCEPT then State.refLimit n false v mid s
  else if 0x200 ≤ off ∧ n < 7 ∧ o = Off.refR_REJECT then State.refLimit n true v mid s
  else State.plainWrite pgRef off v s

/-- PTP (R298 to R304, R308). -/
def State.wrPtp (off v mid : Nat) (s : State) : State :=
  if off = Off.ptpCTL then State.ptpCtl v mid s
  else if off = Off.ptpRATE_HI then State.rateCommit v s
  else if off = Off.ptpSTEP_CTL then State.stepCtl v mid s
  else if off = Off.ptpMEDIA_OFS then State.mediaOfs v s
  else State.plainWrite pgPtp off v s

/-! ## Networks and links -/

/-- A word of a ring (R289, R290): BASE, LEN with HEAD kept, TAIL. -/
def State.ringWrite (r : Ring) (i v : Nat) (s : State) : State :=
  let o := r.off + 4 * i
  match i with
  | 0 => s.setRg r.page o (v % 2 ^ 32 / 16 * 16)
  | 1 => s.setRg r.page o (v % 256)
  | 2 => s.setFld r.page o 15 0 v
  | _ => State.ringTailWrite r v s

/-- MACp and MACM (R265, R290). -/
def State.wrMac (page off v mid : Nat) (s : State) : State :=
  let p := page - pgMac
  if off = Off.macCTL then State.macCtl p v s
  else if off = Off.macCFG ∨ off = Off.macMAX_FRAME ∨ off = Off.macADDR_LO ∨ off = Off.macADDR_HI ∨ off = Off.macIPV4 then
    State.limited (!s.bit page Off.macCTL 0) page off v mid s
  else if Off.macRXR ≤ off ∧ off < Off.macRXR + 16 then
    State.ringWrite ⟨page, Off.macRXR⟩ ((off - Off.macRXR) / 4) v s
  else if Off.macTXQ ≤ off ∧ off < Off.macTXQ + 0x70 then
    (match ringOf p ((off - Off.macTXQ) / 16 + 1) with
    | some r => State.ringWrite r (off % 16 / 4) v s
    | none => s)
  else State.plainWrite page off v s

/-- The bits that a descriptor word of a stream has (R292). -/
def descMask (d i : Nat) : Nat :=
  if d = 0 then
    (match i with
    | 0 => 0x7F1F3F | 1 => 0x307FF | 4 => 0xFFFF | 5 => 0xFFFFFF | 6 => 0xFFFF | 9 => 0 | _ => 0xFFFFFFFF)
  else
    (match i with
    | 0 => 0x7F3F3F | 1 => 0x307FF | 4 => 0x7FFFFFFF | 6 => 0xFFFF | 8 => 0xFFFF | _ => 0xFFFFFFFF)

/-- The stream that SEL names: its direction, 1 for transmit, and its number. -/
def State.selDir (s : State) : Nat := s.fld pgStrm Off.strmSEL 8 8
def State.selStrm (s : State) : Nat := s.fld pgStrm Off.strmSEL 7 0

/-- A refused write of a setting of a running stream: CFG_ERR beside the error response (R12, R293). -/
def State.strmRefuse (off mid : Nat) (s : State) : State := (s.writeErr pgStrm off mid 0).errResp

/-- A write of STRM that is accepted only while ok holds. -/
def State.strmLimited (ok : Bool) (off v mid : Nat) (s : State) : State :=
  if ok then State.plainWrite pgStrm off v s else State.strmRefuse off mid s

/-- STRM (R279, R292). HOLD_LEN of a running stream would change its samples, and is refused like the buffer's place
(R12, R20). -/
def State.wrStrm (off v mid : Nat) (s : State) : State :=
  if off = Off.strmMC_OFS_LO then State.mcOfsWrite false v mid s
  else if off = Off.strmMC_OFS_HI then State.mcOfsWrite true v mid s
  else if off = Off.strmJB_BASE ∨ off = Off.strmJB_SIZE ∨ off = Off.strmHOLD_LEN then
    State.strmLimited (!(List.range 256).any (s.strmRuns 0)) off v mid s
  else if Off.strmPGRP ≤ off ∧ off < Off.strmPGRP + 64 then
    State.strmLimited (!(List.range 256).any (fun n =>
      s.strmRuns 0 n && s.sd 0 n 0 11 8 == (off - Off.strmPGRP) / 4)) off v mid s
  else if Off.strmDESC ≤ off ∧ off < Off.strmDESC + 40 then
    (let i := (off - Off.strmDESC) / 4
    if s.strmRuns s.selDir s.selStrm then State.strmRefuse off mid s
    else s.setDesc s.selDir s.selStrm i (v &&& descMask s.selDir i))
  else State.plainWrite pgStrm off v s

/-- TSN (R273, R294). -/
def State.wrTsn (off v mid : Nat) (s : State) : State :=
  if off < 0x200 ∧ off % 0x40 = 0 then State.tsnCtl ((off - 0x100) / 0x40) v s
  else if off = Off.tsnGCL_DATA then State.gclData v mid s
  else State.plainWrite pgTsn off v s

/-- CRXA and CRXB (R326, R330). -/
def State.wrCrx (page off v mid : Nat) (s : State) : State :=
  let n := pageInst page
  if off = Off.crxCTL then State.crxCtl n v s
  else if off = Off.crxCFG ∨ off = Off.crxHOLD_LEN then State.limited (!s.bit page Off.crxCTL 0) page off v mid s
  else if off = Off.crxRA_CTL then State.raCtl n v s
  else if Off.crxMTX ≤ off ∧ off < Off.crxMTX + 16 then State.ringWrite ⟨page, Off.crxMTX⟩ ((off - Off.crxMTX) / 4) v s
  else if Off.crxMRX ≤ off ∧ off < Off.crxMRX + 16 then State.ringWrite ⟨page, Off.crxMRX⟩ ((off - Off.crxMRX) / 4) v s
  else State.plainWrite page off v s

/-- STACK (R323, R324, R332). -/
def State.wrStack (off v mid : Nat) (s : State) : State :=
  if off = Off.stackROLE then State.roleWrite v s
  else if off = Off.stackCLR then State.stackClr v s
  else if off = Off.stackID then State.limited (!s.bit pgCrx Off.crxCTL 0 && !s.bit (pgCrx + 1) Off.crxCTL 0) pgStack off v mid s
  else State.plainWrite pgStack off v s

/-- PAIR (R356). -/
def State.wrPair (off v mid : Nat) (s : State) : State :=
  if off = Off.pairCTL then State.pairCtl v s
  else if off = Off.pairCFG then State.limited (!s.pairEn) pgPair off v mid s
  else State.plainWrite pgPair off v s

/-! ## Memory and control plane -/

/-- DRC (R361 to R368, R376). -/
def State.wrDrc (off v mid : Nat) (dev : Option Nat) (s : State) : State :=
  if off = Off.drcCTL then State.drcCtl v mid s
  else if off = Off.drcCFG then State.writeIf (s.drcState == 0) pgDrc off v s
  else if off = Off.drcFC_CTL then State.fcCtl v mid s
  else if isTset off then State.tsetWrite off v mid s
  else if Off.drcMAX_WAIT ≤ off ∧ off < Off.drcMAX_WAIT + 32 then State.maxWaitWrite ((off - Off.drcMAX_WAIT) / 4) v s
  else if off = Off.drcPROBE_CTL then State.probeCtl v s
  else if off = Off.drcMR_CMD then State.mrCmd v dev s
  else if off = Off.drcFILL_CTL then State.fillCtl v mid s
  else State.plainWrite pgDrc off v s

/-- SYS (R394, R395, R416, R418, R458). -/
def State.wrSys (off v : Nat) (rom : RomInput) (s : State) : State :=
  if off = Off.sysSOFT_RST then State.softRst v rom s
  else if off = Off.sysWDOG_CTL then State.wdogCtl v s
  else if off = Off.sysWDOG_KICK then State.wdogKick v s
  else if off = Off.sysDBG_CTL then State.dbgCtl v s
  else State.plainWrite pgSys off v s

/-- BOOT (R405, R408, R419). -/
def State.wrBoot (off v mid : Nat) (flash : List Byte) (s : State) : State :=
  if off = Off.bootCFG then State.bootCfg v s
  else if off = Off.bootCMD then State.bootCmd v flash s
  else if off = Off.bootFIFO then State.bootFifoWrite v mid s
  else if off = Off.bootHOST_GO then (if bitN v 0 then s.hostGo else s)
  else State.plainWrite pgBoot off v s

/-- PCIE (R409, R412, R422). -/
def State.wrPcie (off v : Nat) (s : State) : State :=
  if off = Off.pcieIDS ∨ off = Off.pcieSUBSYS then State.pcieId off v s
  else if 0x800 ≤ off then State.msixWrite off (v % 2 ^ 32) s
  else State.plainWrite pgPcie off v s

/-- FUSE (R415, R423). -/
def State.wrFuse (off v bad mid : Nat) (s : State) : State :=
  if off = Off.fusePROG_KEY then State.fuseKey v s
  else if off = Off.fusePROG_CTL then (if bitN v 0 then State.fuseGo bad mid s else s)
  else State.plainWrite pgFuse off v s

/-- TWB (R432, R438, R439). -/
def State.wrTwb (off v mid : Nat) (run : TwbRun) (s : State) : State :=
  if off = Off.twbADDR ∨ off = Off.twbWAKE_CFG then State.twbCfg off v mid s
  else if off = Off.twbCMD then State.twbCmd v run s
  else if off = Off.twbFIFO then State.twbPush v mid s
  else State.plainWrite pgTwb off v s

/-- PWR (R443, R444, R451, R457). -/
def State.wrPwr (off v mid : Nat) (s : State) : State :=
  if off = Off.pwrMODE_REQ then State.modeReq v mid s
  else if off = Off.pwrFAB_EN then State.fabEn v mid s
  else if off = Off.pwrWAKE_SW then (if bitN v 0 then State.wakeEvent 3 s else s)
  else State.plainWrite pgPwr off v s

/-! ## Every block -/

/-- A write of v to the block register at an offset from 0x100 on. -/
def State.blockWrite (page off v mid : Nat) (x : Ext) (s : State) : State :=
  match pageKind page with
  | .sys => State.wrSys off v x.rom s
  | .pwr => State.wrPwr off v mid s
  | .avs => if off = Off.avsCTL then State.avsCtl v s else if off = Off.avsV_CMD then State.avsVcmd v s
    else State.plainWrite page off v s
  | .sens => if off = Off.sensTEMP_MAX then State.tempMaxWrite v s
    else if off = Off.sensTEMP_SHUT then State.tempShutWrite v s else State.plainWrite page off v s
  | .fuse => State.wrFuse off v x.bad mid s
  | .boot => State.wrBoot off v mid x.flash s
  | .gpio => if off = Off.gpioDIR ∨ off = Off.gpioOUT then State.gpioWrite off v s else State.plainWrite page off v s
  | .cpu => if off = Off.cpuCTL then State.cpuCtl (pageInst page) v s else State.plainWrite page off v s
  | .aoc => if off = Off.aocDOORBELL then State.doorbell v s else State.plainWrite page off v s
  | .mtx => if off = Off.mtxHOLD_MAX then State.holdMax v s else State.plainWrite page off v s
  | .pcie => State.wrPcie off v s
  | .twb => State.wrTwb off v mid x.run s
  | .drc => State.wrDrc off v mid x.dev s
  | .dphy => if isDelay off then State.delayWrite off v mid s else State.plainWrite page off v s
  | .esc => if off = Off.escCTL then State.escCtl v s else State.plainWrite page off v s
  | .sched => State.wrSched off v mid s
  | .rtr => if off = Off.rtrRT_DATA then State.rtWrite mid x.id v s else State.plainWrite page off v s
  | .tdmg => State.wrTdmg off v mid s
  | .tdm => State.wrTdm page off v mid s
  | .dec => State.wrDec page off v mid s
  | .mod => State.wrMod page off v mid s
  | .rail => State.wrRail off v mid s
  | .thm => State.wrThm page off v mid s
  | .ref => State.wrRef off v mid s
  | .dpll => if off = Off.dpllSTEP then State.stepWrite v mid s else State.plainWrite page off v s
  | .ptp => State.wrPtp off v mid s
  | .mac | .macm => State.wrMac page off v mid s
  | .strm => State.wrStrm off v mid s
  | .tsn => State.wrTsn off v mid s
  | .crx => State.wrCrx page off v mid s
  | .stack => State.wrStack off v mid s
  | .pair => State.wrPair off v mid s
  | .eng => State.wrEng page off v mid s
  | .rst | .store | .gain => State.plainWrite page off v s
  | .none => s

/-- A write of INT_RAW: bits of v are cleared, and those that hardware sets in the same access win (R4). The write
leaves one message where INT_STAT is not 0 (R412). -/
def State.intRawWrite (page v hwSet : Nat) (s : State) : State :=
  let raw := s.rg page Off.headINT_RAW
  let hw := if s.raises page then hwSet &&& intBits (pageKind page) else 0
  (s.setRg page Off.headINT_RAW ((raw - (raw &&& v)) ||| hw)).afterIntWrite page

/-- A write of INT_EN (R412). -/
def State.intEnWrite (page v : Nat) (s : State) : State := (s.putReg page Off.headINT_EN v).afterIntWrite page

/-- A write of ERR_CLASS: 0 releases the capture, another value is ignored (R466). -/
def State.errClassWrite (page v : Nat) (s : State) : State := if v % 2 ^ 32 = 0 then s.releaseCapture page else s

/-- A write of v to a register of the common head (R396). -/
def State.headWrite (page off v mid : Nat) (late : List Nat) (s : State) : State :=
  if off = Off.headPAGE_CTL then State.pageCtl page mid v late s
  else if off = Off.headINT_RAW then State.intRawWrite page v 0 s
  else if off = Off.headINT_EN then State.intEnWrite page v s
  else if off = Off.headERR_CLASS then State.errClassWrite page v s
  else s

/-- A write that only stops an output, which a lock lets pass: MUTE_NOW, FORCE_OFF, and STRIKE alone (R12, R399). -/
def stopsOnly (page off v : Nat) : Bool :=
  match pageKind page with
  | .tdm => off == Off.tdmMUTE_NOW
  | .mod => off == Off.modFORCE_OFF
  | .pair => off == Off.pairCTL && bitN v 1 && !bitN v 2 && !bitN v 3
  | _ => false

/-- A write of a register under its guards. A write of a latched register that is accepted loads its latch (R9). -/
def State.regWrite (page off v mid : Nat) (x : Ext) (s : State) : State :=
  s.guarded page off mid (stopsOnly page off v) (State.withLost (fun s =>
    let t := if off < 0x100 then State.headWrite page off v mid x.late s else State.blockWrite page off v mid x s
    let wr := isLatched page off && (match rowAt page off with
      | some r => r.acc != .ro
      | none => false)
    if !wr || t.resp.err || (pageKind page == .strm && s.anyStream) then t
    else if pageKind page = .eng then t.setLatch page off ((t.engine (pageInst page)).archRead off)
    else t.setLatch page off (t.rg page off))) x.id
    (if page = pgRtr ∧ off = Off.rtrRT_DATA then State.rtQueues else noQueue)

/-- A write of n bytes at an offset of a page: 32-bit aligned writes only (R7). -/
def State.pageWrite (page off n v mid : Nat) (x : Ext) (s : State) : State :=
  if n = 4 ∧ off % 4 = 0 then State.regWrite page off (v % 2 ^ 32) mid x s
  else if !s.pwr.released then s
  else State.inTurn mid x.id (pagePort page off) noQueue (fun s =>
    if s.reachable page off then s.refuseAccess page off mid true n
    else s.defaultTarget (regAddr page off) mid true false n) s

def execRegisterWrite (page : Fin 256) (off : Fin 4096) (size v mid : Nat) (x : Ext) (s : State) : Out :=
  .next (State.pageWrite page off size v mid x s)

def execIntRawWrite (page : Fin 256) (v hwSet mid : Nat) (s : State) : Out :=
  .next (s.guarded page Off.headINT_RAW mid false (State.intRawWrite page (v % 2 ^ 32) hwSet))

def execIntEnWrite (page : Fin 256) (v mid : Nat) (s : State) : Out :=
  .next (s.guarded page Off.headINT_EN mid false (State.intEnWrite page v))

def execCaptureRelease (page : Fin 256) (v mid : Nat) (s : State) : Out :=
  .next (s.guarded page Off.headERR_CLASS mid false (State.errClassWrite page v))

end Sys2Proof.Machine
end

