-- ==== Sys2Proof/Machine/RegRead.lean ====
section
/-! DEFINITION. Register reads (R3 to R9, R396, R497, R498): the value of every register at the moment of the read, the
latch of _HI registers, and the reads that change their block. -/

namespace Sys2Proof.Machine

/-- The step rate of R47: that of the running engine with the highest STEPS_PROOF, the lowest number on a tie, truncated
(R500); 0 while none runs. A rate without a busy time is a free value (log entry 4). -/
def State.rateLast (s : State) : Nat × State :=
  let run := (List.range 32).filter (fun nn => (s.engine nn).st == .running)
  let proof (nn : Nat) : Nat := s.rg (pgEng + nn) Off.engSTEPS_PROOF
  let best := run.foldl (fun (b : Option Nat) nn => match b with
    | none => some nn
    | some m => if proof m < proof nn then some nn else b) none
  match best with
  | none => (0, s)
  | some nn =>
    let busy := s.rg (pgEng + nn) Off.engBUSY_LAST
    if busy = 0 then (s.fresh.1.toNat, s.fresh.2)
    else (s.rg (pgEng + nn) Off.engSTEPS_LAST * 1000 / busy, s)

/-- ENGnn.STATE: the state, the beat in progress, PC (R94). An engine that has ended its beat and waits for the barrier
shows the next one (log entry 77). DESIGN CHOICE. -/
def State.engStateReg (s : State) (nn : Nat) : Nat :=
  let e := s.engine nn
  let beat := if e.st.inPlane && decide (e.ended < s.beatsN) && (s.esc.tickOpen || e.st != .running) then e.ended + 1 else 0
  e.st.code + 16 * beat + 2 ^ 16 * (e.pc % 2 ^ 14)

/-- The first sample period of a tick: fewer than 1/Fs of 2 ns counts since the last boundary. -/
def State.firstSample (s : State) : Bool :=
  match s.esc.tickRaw with
  | none => false
  | some r => s.mode != 4 && decide ((s.ptp.raw - r) * s.fs < rawSec 1)

/-- GPIO.IN: the pins and the pennants (R258, R259, R424). -/
def State.gpioRead (s : State) : Nat :=
  s.gpioIn + 2 ^ 16 * s.pennant (decide (tqNs s.tq < 1000000)) s.firstSample

/-- A measurement that the specification gives no value for. -/
def State.measured (s : State) : Nat × State := (s.fresh.1.toNat, s.fresh.2)

/-- A 32-bit register whose bits lo to lo + 1 are replaced by b0 and b1. -/
def twoBits (v lo : Nat) (b0 b1 : Bool) : Nat := putBits (putBits v lo lo (b2n b0)) (lo + 1) (lo + 1) (b2n b1)

/-- AVS.STAT at the moment of the read (R49). -/
def State.avsStat (s : State) : Nat :=
  twoBits (s.rg pgAvs Off.avsSTAT) 0 (s.rg pgAvs Off.avsV_CMD == s.rg pgAvs Off.avsV_MAX)
    (s.rg pgAvs Off.avsV_CMD == s.rg pgAvs Off.avsV_MIN)

/-- PAIR.STATE with ACT_OUT and the link (R356). -/
def State.pairStat (s : State) : Nat :=
  putBits (putBits (s.rg pgPair Off.pairSTATE) 4 4 (b2n s.actOut)) 6 6 (b2n (s.pairEn && s.pairLive))

/-- The word of a stream that SEL names (R292). -/
def State.descRead (s : State) (i : Nat) : Nat :=
  if s.selDir = 0 ∧ i = 9 then (s.rxs s.selStrm).d.ph
  else (smapGet zeroW s.net.desc (sKey s.selDir s.selStrm i)).toNat
def State.cntRead (s : State) (i : Nat) : Nat := (smapGet zeroW s.net.cnt (sKey s.selDir s.selStrm i)).toNat

/-- DPLL registers that measure (R262). Without a reference in use there is no target: PHASE_ERR is 0 in FREE and a free
value in HOLD and LOST (log entry 4). -/
def State.dpllRead (s : State) (off : Nat) : Nat × State :=
  if off = Off.dpllPHASE_ERR then
    (if s.dpllState = 0 then (0, s) else if 3 ≤ s.dpllState then s.measured
      else (ofSigned 32 ((s.phaseDiff s.refInUse).tdiv psUnit), s))
  else if off = Off.dpllFREQ_OUT then (ofSigned 32 (s.dpll.freq.tdiv 500000000), s)
  else if off = Off.dpllHOLD_LEFT then
    (if s.histValid then s.histLeft else 0, s)
  else (s.rg pgDpll off, s)

/-- The value of a register of the common head (R396). -/
def State.headRead (s : State) (page off : Nat) : Nat :=
  if off = Off.headPAGE_STAT then
    b2n (s.pageEn page) + 4 * b2n (s.pageLocked page) + 8 * b2n (s.fld page Off.headERR_CLASS 1 0 != 0)
      + 16 * b2n (s.line page)
  else if off = Off.headINT_STAT then s.intStat page
  else s.rg page off

/-- The value of a block register at this moment, and the free values it takes. -/
def State.blockRead (s : State) (page off : Nat) : Nat × State :=
  let plain : Nat × State := (s.rg page off, s)
  match pageKind page with
  | .sys => if off = Off.sysWDOG_LEFT then (s.wdogLeft, s) else plain
  | .pwr => if off = Off.pwrLEDGER_LO then (s.ledgerLook.rg page off, s.ledgerLook) else plain
  | .avs => if off = Off.avsSTAT then (s.avsStat, s) else plain
  | .gpio => if off = Off.gpioIN then (s.gpioRead, s) else plain
  | .cpu => if off = Off.cpuSTAT then s.cpuStat (pageInst page)
    else if off = Off.cpuCLAIM then (s.claim (pageInst page), s) else plain
  | .boot => if off = Off.bootCMD then (s.rg page off + 2 ^ 31 * b2n s.bootBusy, s) else plain
  | .twb => if off = Off.twbCMD then (s.rg page off + 2 ^ 31 * b2n (s.twb.cmd != 0), s) else plain
  | .drc => if off = Off.drcSTAT then (putBits (s.rg page off) 8 8 (b2n s.srBlocked), s) else plain
  | .esc => if off = Off.escRATE_LAST then s.rateLast else plain
  | .dpll => s.dpllRead off
  | .ptp => if off = Off.ptpRAW_LO then (s.ptp.raw % 2 ^ 32, s)
    else if off = Off.ptpRAW_HI then (s.ptp.raw / 2 ^ 32, s) else plain
  | .strm => if Off.strmDESC ≤ off ∧ off < Off.strmDESC + 40 then (s.descRead ((off - Off.strmDESC) / 4), s)
    else if Off.strmCNT ≤ off ∧ off < Off.strmCNT + 40 then (s.cntRead ((off - Off.strmCNT) / 4), s) else plain
  | .tsn => if off = Off.tsnGCL_DATA then (s.gclRead, s) else plain
  | .stack => if off = Off.stackSTAT then (s.stackStat, s) else plain
  | .pair => if off = Off.pairSTATE then (s.pairStat, s) else plain
  | .eng => if off = Off.engSTATE then (s.engStateReg (pageInst page), s)
    else if 0x400 ≤ off ∧ (rowAt page off).isSome then ((s.engine (pageInst page)).archRead off, s) else plain
  | _ => plain

/-- The value a read of a block register delivers: reserved offsets and write-only registers read 0 (R3, R8), a latched
register its latch (R9); the read loads the latches that follow it. -/
def State.valueRead (page off : Nat) (s : State) : State :=
  if (rowAt page off).all (fun r => r.acc == .wo) then s.deliver (toLE 4 0)
  else if isLatched page off then s.deliver (toLE 4 (s.latch page off))
  else
    let r := s.blockRead page off
    let s := forEach (latchedBy page off) (fun o st => let h := st.blockRead page o; h.2.setLatch page o h.1) r.2
    s.deliver (toLE 4 r.1)

/-- A read of a register of the common head, which a held block does not hold back (R397). -/
def State.headValue (page off : Nat) (s : State) : State :=
  let s' := s.deliver (toLE 4 (if off = Off.headERR_TIME_HI then s.latch page off else s.headRead page off))
  if off = Off.headERR_TIME_LO then s'.setLatch page Off.headERR_TIME_HI (s.rg page Off.headERR_TIME_HI) else s'

/-- What a register of a held block reads: its reset value (R397), which the fuses and the straps give where the table
says so (R414, R478). -/
def heldValue (page off : Nat) (s : State) : Nat :=
  match pageKind page with
  | .fuse => if off < 0x200 then s.rg page off else resetNat page off
  | .sys => if off = Off.sysSTRAPS then s.rg page off else resetNat page off
  | .stack => if off = Off.stackROLE then s.rg page off else resetNat page off
  | .pcie => if off = Off.pcieIDS ∨ off = Off.pcieSUBSYS then s.rg page off else resetNat page off
  | _ => resetNat page off

/-- A read of a register under its guards, with the reads that change their block. -/
def State.regRead (page off mid id : Nat) (s : State) : State :=
  if off < 0x100 then
    (if !s.pwr.released then s
    else State.inTurn mid id (pagePort page off) noQueue (fun s =>
      if s.reachable page off then State.headValue page off s
      else s.defaultTarget (regAddr page off) mid false false 4) s)
  else s.guardRead page off mid (heldValue page off) (id := id) (fun s =>
    match pageKind page with
    | .ptp => if off = Off.ptpTIME_NS then s.timeRead else State.valueRead page off s
    | .rtr => if off = Off.rtrRT_DATA then s.rtRead mid else State.valueRead page off s
    | .boot => if off = Off.bootFIFO then State.bootFifoRead mid s else State.valueRead page off s
    | .twb => if off = Off.twbFIFO then State.twbPop mid s else State.valueRead page off s
    | _ => State.valueRead page off s)

/-- A read of n bytes at an offset of a page: 32-bit aligned reads only (R7). -/
def State.pageRead (page off n mid id : Nat) (s : State) : State :=
  if n = 4 ∧ off % 4 = 0 then State.regRead page off mid id s
  else if !s.pwr.released then s
  else State.inTurn mid id (pagePort page off) noQueue (fun s =>
    if s.reachable page off then s.refuseAccess page off mid false n
    else s.defaultTarget (regAddr page off) mid false false n) s

def execLoReadLatch (page : Fin 256) (off : Fin 4096) (mid : Nat) (s : State) : Out :=
  .next (onlyIf (isPairLo page off) (State.regRead page off mid 0) s)

end Sys2Proof.Machine
end

