-- ==== Sys2Proof/Machine/Bus.lean ====
section
/-! DEFINITION. Accesses of a master to any system address, the default target, locked sequences and reservations, host
requests, and the requests that arrive through a Carix tunnel (R326, R380 to R384, R389, R410, R411). -/

namespace Sys2Proof.Machine

/-! ## One access (R380, R381) -/

/-- The two ends of an access lie in the same target. -/
def oneTarget (a n : Nat) : Bool := targetOf a == targetOf (a + (n - 1))

/-- A target port that a locked sequence holds serves no other access: it waits, and has no answer (R382). -/
def State.atPort (a : Nat) (f : State → State) (s : State) : State := if s.portLocked a then s.wait else f s

/-- A read of n bytes at a system address by a master: its answer is in resp. One that DRC holds waits at its port
(R368, R372). -/
def State.addrRead (mid id a n : Nat) (s : State) : State :=
  if !s.pwr.released then s
  else if !oneTarget a n then State.inTurn mid id (portOf a) noQueue (fun s => s.defaultTarget a mid false false n) s
  else match targetOf a with
    | .page p => State.pageRead p (a % 0x1000) n mid id s
    | _ =>
      State.inTurn mid id (portOf a) noQueue (State.atPort a (fun s =>
        match targetOf a with
        | .win nn => s.windowRead nn (a % 0x100000) n mid
        | .none => s.defaultTarget a mid false false n
        | t =>
          let r : DramReq := { mid := mid, qos := 0, wr := false, addr := a, len := n, bs := [], id := id }
          if t == .drc && s.reqWaits r then State.enqueue r s
          else match s.memRead mid a n with
            | (some bs, s) => s.deliver bs
            | (none, s) => s.errFor mid)) s

/-- A write of bytes at a system address by a master. x: what the outside contributes to a register write, and the
transaction ID. -/
def State.addrWrite (mid a : Nat) (bs : List Byte) (x : Ext) (s : State) : State :=
  let n := bs.length
  if !s.pwr.released then s
  else if !oneTarget a n then State.inTurn mid x.id (portOf a) noQueue (fun s => s.defaultTarget a mid true false n) s
  else match targetOf a with
    | .page p => State.pageWrite p (a % 0x1000) n (ofLE bs) mid x s
    | .win nn => State.windowTurn nn (a % 0x100000) bs mid x.id s
    | _ =>
      State.inTurn mid x.id (portOf a) noQueue (State.atPort a (fun s =>
        match targetOf a with
        | .none => s.defaultTarget a mid true false n
        | t =>
          let r : DramReq := { mid := mid, qos := 0, wr := true, addr := a, len := n, bs := bs, id := x.id }
          if t == .drc && s.reqWaits r then State.enqueue r s
          else if s.slotRefused mid a n then s.slotRefuse mid a n
          else match s.memWriteBus mid a bs with
            | (true, s) => s.ok
            | (false, s) => s.errFor mid)) s

/-- Where the default target answers an access (R8, R381, R497, R498). -/
def State.defaultAnswers (s : State) (a n : Nat) (write : Bool) : Bool :=
  match targetOf a with
  | .none => true
  | .page p => !s.reachable p (a % 0x1000)
  | .win _ => s.mode == 4
  | _ => s.memGate a n write == .default

def execDefaultTargetAccess (a mid : Nat) (write fetch : Bool) (size : Nat) (s : State) : Out :=
  .next (onlyIf (s.pwr.released && s.defaultAnswers (a % 2 ^ 40) size write)
    (State.inTurn mid 0 (portOf (a % 2 ^ 40)) noQueue (fun s => s.defaultTarget (a % 2 ^ 40) mid write fetch size)) s)

/-! ## Locked sequences and reservations (R382 to R384) -/

/-- The targets of a locked sequence (R382). -/
def lockTarget (a : Nat) : Bool :=
  match targetOf a with
  | .aocSram | .cpu0 | .cpu1 | .store => true
  | _ => false

/-- A core runs instructions (R393, R420, R442). -/
def State.cpuRuns (s : State) (core : Nat) : Bool :=
  s.pwr.released && s.domain 1 && s.bit (pgCpu + core) Off.cpuCTL 0 && !s.cpuHalted core

/-- A locked access outside the permitted targets: an error response, LOCK_REF_CNT, LOCK_REFUSED, a Contained error of
MTX (R382, R391). The exception that it raises in the core clears the reservation (R384). -/
def State.lockRefused (core a : Nat) (write : Bool) (s : State) : State :=
  ((onlyIf (s.pageEn pgMtx) (fun s => s.inc pgMtx Off.mtxLOCK_REF_CNT) s).raiseErr pgMtx 2 2 a core (accType write false true 4)).errFor core

/-- The operation of an AMO, in the order of RV32A: swap, add, xor, and, or, min, max, minu, maxu. PRESUMED (log
entry 39). -/
def amoOp (op : Fin 9) (old v : Word) : Word :=
  match op.val with
  | 0 => v
  | 1 => old + v
  | 2 => old ^^^ v
  | 3 => old &&& v
  | 4 => old ||| v
  | 5 => if old.slt v then old else v
  | 6 => if old.slt v then v else old
  | 7 => if old.ult v then old else v
  | _ => if old.ult v then v else old

/-- The lock that a stalled sequence holds (R382, R390). -/
def State.lockTake (core a : Nat) (s : State) : State :=
  { s.setRg pgMtx Off.mtxSTAT (1 + 16 * portOf a + 2 ^ 8 * core) with mtx := { s.mtx with lock := some (portOf a, core, a) } }

/-- The write of an AMO whose read gave bs. -/
def State.amoWrite (core : Nat) (op : Fin 9) (a v : Nat) (bs : List Byte) (s : State) : State :=
  if s.slotRefused core a 4 then s.slotRefuse core a 4
  else match s.memWriteBus core a (toLE 4 (amoOp op (w32 (ofLE bs)) (w32 v)).toNat) true with
    | (true, s) => s.deliver bs
    | (false, s) => s.errFor core

/-- The read and the write of an AMO; stall: the write has not come yet, and the port is locked and gives no answer. -/
def State.amoRun (core : Nat) (op : Fin 9) (a v : Nat) (stall : Bool) (s : State) : State :=
  match s.memRead core a 4 false true with
  | (none, s) => s.errFor core
  | (some bs, s) => if stall then (State.lockTake core a s).wait else State.amoWrite core op a v bs s

/-- An AMO of a core: its stalled sequence on this word goes on with its write, and releases the port; else it waits for
a locked port (R382, R389). -/
def State.amoTurn (core : Nat) (op : Fin 9) (a v : Nat) (stall : Bool) (s : State) : State :=
  if s.mtx.lock = some (portOf a, core, a) then
    (if stall then s.wait else State.amoWrite core op a v (s.memBytes a 4) s.unlock)
  else State.atPort a (State.amoRun core op a v stall) s

/-- An instruction of a running core on an aligned word; elsewhere the core takes an exception of its own. -/
def State.coreWord (core a : Nat) (write : Bool) (f : State → State) (s : State) : State :=
  if !s.cpuRuns core then s
  else if a % 4 ≠ 0 then s.setResv core none
  else State.inTurn core 0 (portOf a) noQueue (fun s => if !lockTarget a then State.lockRefused core a write s else f s) s

def execAmo (core : Fin 2) (op : Fin 9) (a v : Nat) (stall : Bool) (s : State) : Out :=
  .next (State.coreWord core (a % 2 ^ 32) false (State.amoTurn core op (a % 2 ^ 32) v stall) s)

/-- LR reads the word and sets the reservation (R384). -/
def State.lrRun (core a : Nat) (s : State) : State :=
  match s.memRead core a 4 with
  | (some bs, s) => (s.setResv core (some a)).deliver bs
  | (none, s) => s.errFor core

def execLr (core : Fin 2) (a : Nat) (s : State) : Out :=
  .next (State.coreWord core (a % 2 ^ 32) false (State.atPort (a % 2 ^ 32) (State.lrRun core (a % 2 ^ 32))) s)

/-- SC writes where the reservation holds the word, and answers 0, else 1; it clears the reservation (R384; the codes
and the clearing PRESUMED, log entry 39). -/
def State.scRun (core a v : Nat) (s : State) : State :=
  if s.resv core ≠ some a then (s.setResv core none).deliver (toLE 4 1)
  else
    let s := s.setResv core none
    if s.slotRefused core a 4 then s.slotRefuse core a 4
    else match s.memWriteBus core a (toLE 4 v) with
      | (true, s) => s.deliver (toLE 4 0)
      | (false, s) => s.errFor core

def execSc (core : Fin 2) (a v : Nat) (s : State) : Out :=
  .next (State.coreWord core (a % 2 ^ 32) true (State.atPort (a % 2 ^ 32) (State.scRun core (a % 2 ^ 32) v)) s)

/-! ## Host requests (R410, R411) -/

/-- Size and system base of a base address register: BAR0, BAR2 and BAR4. -/
def State.bar (s : State) (bar : Fin 3) : Nat × Nat :=
  match bar.val with
  | 0 => (0x100000, 0x40000000)
  | 1 => (0x1000000, 0x10000000)
  | _ => (0x10000000, 0x100000000 + s.fld pgPcie Off.pcieAP_BASE 4 0 * 0x10000000)

/-- A request through a BAR as master 0x03, and the count of its error response. -/
def State.pcieRequest (a n : Nat) (wr : Bool) (data : List Byte) (x : Ext) (s : State) : State :=
  let t := if wr then State.addrWrite 3 a data x s else State.addrRead 3 x.id a n s
  onlyIf t.resp.err (State.pcieErr wr) t

def execPcieRequest (bar : Fin 3) (o n : Nat) (wr : Bool) (data : List Byte) (x : Ext) (s : State) : Out :=
  .next (onlyIf (s.pwr.released && s.linkUp && decide (o + (if wr then data.length else n) ≤ (s.bar bar).1))
    (State.pcieRequest ((s.bar bar).2 + o) n wr data x) s)

/-! ## Requests of a Carix peer (R326, R329) -/

/-- A range lies wholly in WINi of port n. -/
def State.inWindow (s : State) (n i a len : Nat) : Bool :=
  let w := Off.crxWIN + 8 * i
  let base := s.fld (pgCrx + n) w 27 0 * 0x1000
  let size := s.fld (pgCrx + n) (w + 4) 27 0 * 0x1000
  decide (base ≤ a) && decide (a + len ≤ base + size)

/-- An inbound request is taken (R326). -/
def State.tunAllowed (s : State) (n a len : Nat) : Bool :=
  s.bit (pgCrx + n) Off.crxCTL 2 && (s.inWindow n 0 a len || s.inWindow n 1 a len)

/-- A request is refused with code 2. -/
def State.tunRefuse (n kind : Nat) (s : State) : State :=
  (s.tunSend n (respPacket kind 2 [])).intBit (pgCrx + n) 8

/-- Words read in order up to the first error response (log entry 40). DESIGN CHOICE. Where one has no answer yet the
request waits as a whole, and its event comes again. -/
def State.tunReadWords (mid : Nat) : Nat → Nat → State → Option (List Nat) × State
  | 0, _, s => (some [], s)
  | k + 1, a, s =>
    let s := State.addrRead mid 0 a 4 s
    if s.resp.err || s.resp.waits then (none, s)
    else
      let w := ofLE s.resp.data
      let r := State.tunReadWords mid k (a + 4) s
      (r.1.map (fun ws => w :: ws), r.2)

/-- Words written in order up to the first error response. -/
def State.tunWriteWords (mid : Nat) (x : Ext) : List Nat → Nat → State → Bool × State
  | [], _, s => (true, s)
  | w :: ws, a, s =>
    let s := State.addrWrite mid a (toLE 4 w) x s
    if s.resp.err || s.resp.waits then (false, s) else State.tunWriteWords mid x ws (a + 4) s

def State.tunRead (n : Nat) (s : State) : State :=
  let r := s.inboxPop n
  let k := pktWords r.1
  let a := pktAddr r.1
  if !r.2.tunAllowed n a (4 * k) then State.tunRefuse n 1 r.2
  else match State.tunReadWords (7 + n) k a r.2 with
    | (some ws, s) => s.tunSend n (respPacket 1 0 ws)
    | (none, t) => if t.resp.waits then s else t.tunSend n (respPacket 1 3 [])

def State.tunWrite (n : Nat) (x : Ext) (s : State) : State :=
  let r := s.inboxPop n
  let k := pktWords r.1
  let a := pktAddr r.1
  if !r.2.tunAllowed n a (4 * k) then State.tunRefuse n 2 r.2
  else match State.tunWriteWords (7 + n) x ((pktData r.1).take k) a r.2 with
    | (true, s) => s.tunSend n (respPacket 2 0 [])
    | (false, t) => if t.resp.waits then s else t.tunSend n (respPacket 2 3 [])

/-- The target port of the oldest request that port n received. -/
def State.inboxPort (s : State) (n : Nat) : Nat :=
  match (s.crxPort n).inbox with
  | p :: _ => portOf (pktAddr p)
  | [] => 15

def execTunnelReadRequestRx (n : Fin 2) (s : State) : Out :=
  .next (onlyIf (s.inboxKind n 1) (State.inTurn (7 + n) 0 (s.inboxPort n) noQueue (State.tunRead n)) s)
def execTunnelWriteRequestRx (n : Fin 2) (x : Ext) (s : State) : Out :=
  .next (onlyIf (s.inboxKind n 2) (State.inTurn (7 + n) 0 (s.inboxPort n) noQueue (State.tunWrite n x)) s)

end Sys2Proof.Machine
end

