-- ==== Sys2Proof/Machine/TwbTgt.lean ====
section
/-! DEFINITION. The target role of the two-wire bus: its pointer, its words, its errors, and the wake from DORMANT
(R426 to R431, R437). -/

namespace Sys2Proof.Machine

/-! ## Transactions (R426, R430) -/

/-- The cases of R430 in which the target answers NAK to its address. -/
def State.tgtBusy (s : State) : Bool := !s.tgtEn || s.mode == 4 || !s.twb.acc.isEmpty || s.twbOwns

/-- A NAK of R428 or R430 counts. -/
def State.nakCount (s : State) : State := (s.inc pgTwb Off.twbNAK_BUSY_CNT).intBit pgTwb 4

/-- The target takes no further part in the transaction; words that a read has fetched ahead are dropped. -/
def State.tgtEnd (s : State) : State :=
  (s.twbMod (fun t => { t with
    active := false, rd := false, ptrSet := false, deaf := false, ready := []
    acc := t.acc.map (fun a => if a.wr then a else { a with dropped := true }) })).showTwb

/-- The target answers NAK to its address. -/
def State.tgtNak (s : State) : State := s.nakCount.tgtEnd

/-- The pointer bytes that R426 takes. -/
def ptrOk (p : Nat) : Bool := p % 4 == 0 && decide (0x40000000 ≤ p) && decide (p ≤ 0x400FFFFF)

/-- A transaction begins with four pointer bytes; stop: a STOP follows them. -/
def State.setPointer (p : Nat) (stop : Bool) (s : State) : State :=
  if s.tgtBusy then s.tgtNak
  else
    let s := s.tgtEnd
    let good := ptrOk p
    let s := if good then s.setRg pgTwb Off.twbTGT_PTR p else s.intBit pgTwb 6
    (s.twbMod (fun t => { t with active := !stop, ptrSet := good && !stop, deaf := !good && !stop })).showTwb

/-- The block runs: its domain is powered and its page is not held in reset. -/
def State.twbRuns (s : State) : Bool := s.domain 1 && s.pageEn pgTwb

def execTwbSetPointer (p : Nat) (stop : Bool) (s : State) : Out :=
  .next (onlyIf s.twbRuns (State.setPointer (p % 2 ^ 32) stop) s)

/-! ## Accesses (R427) -/

def State.tgtIssue (wr : Bool) (a w : Nat) (s : State) : State :=
  s.twbMod (fun t => { t with acc := t.acc ++ [{ wr := wr, addr := a, word := w, dropped := false }] })

/-- ACC_ERR. -/
def State.accErr (wr : Bool) (a : Nat) (s : State) : State := s.raiseErr pgTwb 2 (2 ^ 7) a 2 (accType wr false false 4)

/-- The oldest access completes, as the AOC's port gives its answer; while the port has none, it goes on waiting. -/
def State.accessDone (x : Ext) (s : State) : State :=
  match s.twb.acc with
  | [] => s
  | c :: cs => State.inTurn 2 0 (portOf c.addr) noQueue (fun s =>
    let t := s.twbMod (fun t => { t with acc := cs })
    let t := if c.wr then State.addrWrite 2 c.addr (toLE 4 c.word) x t else State.addrRead 2 0 c.addr 4 t
    if t.resp.waits then s
    else
      let w := if t.resp.err then 0 else ofLE t.resp.data
      let t := if t.resp.err then State.accErr c.wr c.addr t else t
      if c.wr || c.dropped then t else t.twbMod (fun t => { t with ready := t.ready ++ [w] })) s

def execTwbAccessDone (x : Ext) (s : State) : Out :=
  .next (onlyIf (!s.twb.acc.isEmpty && s.pwr.released) (State.accessDone x) s)

/-! ## Write words (R428) -/

def State.writeWord (w : Nat) (stop : Bool) (s : State) : State :=
  let s :=
    if s.twb.acc.isEmpty then
      (let p := s.rg pgTwb Off.twbTGT_PTR
      (State.tgtIssue true p w s).setRg pgTwb Off.twbTGT_PTR (p + 4))
    else s.nakCount
  if stop then s.tgtEnd else s

def execTwbTargetWriteWord (w : Nat) (stop : Bool) (s : State) : Out :=
  .next (onlyIf (s.twbRuns && s.twb.active && s.twb.ptrSet && !s.twb.rd) (State.writeWord (w % 2 ^ 32) stop) s)

/-! ## Read words (R429) -/

/-- The word that is due: all accesses issued complete, or it is late and its access goes on without it. -/
def State.tgtWord (late : Bool) (s : State) : Nat × State :=
  let s := if late then s else forEach (List.range s.twb.acc.length) (fun _ => State.accessDone {}) s
  match s.twb.ready with
  | w :: ws => (w, s.twbMod (fun t => { t with ready := ws }))
  | [] =>
    let s := s.twbMod (fun t => { t with acc := t.acc.map (fun a => { a with dropped := true }) })
    (0xFFFFFFFF, (s.inc pgTwb Off.twbRD_LATE_CNT).intBit pgTwb 5)

/-- The target sends n bytes of a word; the next access is issued with its first byte, and the pointer counts it with
its fourth. A transaction ends with a word of fewer bytes. -/
def State.readWord (late : Bool) (n : Nat) (stop : Bool) (s : State) : State :=
  let p := s.rg pgTwb Off.twbTGT_PTR
  let s :=
    if n = 0 then s
    else
      let r := State.tgtWord late s
      State.tgtIssue false (p + 4) 0 (r.2.twbMod (fun t => { t with sent := some r.1 }))
  let s := if n = 4 then s.setRg pgTwb Off.twbTGT_PTR (p + 4) else s
  if stop || n != 4 then s.tgtEnd else s

/-- A read begins with ADDR+R: the access of its first word is issued. -/
def State.readBegin (s : State) : State :=
  let s := s.tgtEnd
  (State.tgtIssue false (s.rg pgTwb Off.twbTGT_PTR) 0 (s.twbMod (fun t => { t with active := true, rd := true }))).showTwb

def execTwbTargetReadWord (first late : Bool) (n : Fin 5) (stop : Bool) (s : State) : Out :=
  .next (onlyIf s.twbRuns (fun s =>
    if first then (if s.tgtBusy then s.tgtNak else State.readWord late n stop s.readBegin)
    else onlyIf (s.twb.active && s.twb.rd) (State.readWord late n stop) s) s)

/-! ## Bus errors and the wake (R431, R437) -/

/-- Also inside the pointer bytes of a transaction that begins from idle, which the target takes part in unless it is
busy. -/
def execTwbTargetBusError (s : State) : Out :=
  .next (onlyIf (s.twbRuns && (s.twb.active || !s.tgtBusy)) (fun s =>
    (s.tgtEnd.inc pgTwb Off.twbTGT_BUS_ERR_CNT).intBit pgTwb 3) s)

/-- The address byte matches in DORMANT: one match asks for one wake. -/
def State.wakeAddr (s : State) : State :=
  let asks := s.bit pgPwr Off.pwrWAKE_EN 1 && !s.pwr.railWait
  State.wakeEvent 1 (if asks then s.twbMod (fun t => { t with wakeMatch := true }) else s)

def execTwbWakeMatch (addr : Nat) (s : State) : Out :=
  .next (onlyIf (s.mode == 4 && !s.twb.wakeMatch && s.bit pgTwb Off.twbWAKE_CFG 0
      && addr % 128 == s.fld pgTwb Off.twbADDR 6 0) State.wakeAddr s)

end Sys2Proof.Machine
end

