-- ==== Sys2Proof/Machine/Dispatch.lean ====
section
/-! DEFINITION. The meaning of each command: one arm per constructor. -/

namespace Sys2Proof.Machine

open Sys2Proof

/-- The effect of a command on everything but the queue. -/
def exec (i : Instr) (s : State) : Host.Outcome State Fault Refusal :=
  match i with
  | .registerWrite page off size v mid x => Sys2Proof.Machine.execRegisterWrite page off size v mid x s
  | .loReadLatch page off mid => Sys2Proof.Machine.execLoReadLatch page off mid s
  | .intRawWrite page v hwSet mid => Sys2Proof.Machine.execIntRawWrite page v hwSet mid s
  | .intEnWrite page v mid => Sys2Proof.Machine.execIntEnWrite page v mid s
  | .msixUnmask n v mid => Sys2Proof.Machine.execMsixUnmask n v mid s
  | .captureRelease page v mid => Sys2Proof.Machine.execCaptureRelease page v mid s
  | .pageEnable page v mid late => Sys2Proof.Machine.execPageEnable page v mid late s
  | .pageDisable page v mid late => Sys2Proof.Machine.execPageDisable page v mid late s
  | .blockReset page v mid late => Sys2Proof.Machine.execBlockReset page v mid late s
  | .wlockSet page v mid late => Sys2Proof.Machine.execWlockSet page v mid late s
  | .tickBoundary act => Sys2Proof.Machine.execTickBoundary act s
  | .tickRelease late t1A t1B us => Sys2Proof.Machine.execTickRelease late t1A t1B us s
  | .beatBarrier us => Sys2Proof.Machine.execBeatBarrier us s
  | .transferBComplete units xferNs us => Sys2Proof.Machine.execTransferBComplete units xferNs us s
  | .beatDeadline b => Sys2Proof.Machine.execBeatDeadline b s
  | .escSlackClr mid => Sys2Proof.Machine.execEscSlackClr mid s
  | .escHistClr mid => Sys2Proof.Machine.execEscHistClr mid s
  | .avsWindowEnd => Sys2Proof.Machine.execAvsWindowEnd s
  | .avsSettleEnd => Sys2Proof.Machine.execAvsSettleEnd s
  | .avsHoldoffEnd => Sys2Proof.Machine.execAvsHoldoffEnd s
  | .avsTransactionDone frameErr readback => Sys2Proof.Machine.execAvsTransactionDone frameErr readback s
  | .avsEnable mid => Sys2Proof.Machine.execAvsEnable mid s
  | .avsDisable mid => Sys2Proof.Machine.execAvsDisable mid s
  | .avsModeSet fixed mid => Sys2Proof.Machine.execAvsModeSet fixed mid s
  | .avsRestart mid => Sys2Proof.Machine.execAvsRestart mid s
  | .avsVCmdWrite v mid => Sys2Proof.Machine.execAvsVCmdWrite v mid s
  | .engineArm nn mid => Sys2Proof.Machine.execEngineArm nn mid s
  | .engineDisarm nn mid => Sys2Proof.Machine.execEngineDisarm nn mid s
  | .nop nn us => Sys2Proof.Machine.execNop nn us s
  | .macS nn us => Sys2Proof.Machine.execMacS nn us s
  | .macD nn us => Sys2Proof.Machine.execMacD nn us s
  | .macDu nn us => Sys2Proof.Machine.execMacDu nn us s
  | .macQ nn us => Sys2Proof.Machine.execMacQ nn us s
  | .macSum nn us => Sys2Proof.Machine.execMacSum nn us s
  | .mov nn us => Sys2Proof.Machine.execMov nn us s
  | .accLd nn us => Sys2Proof.Machine.execAccLd nn us s
  | .accAdd nn us => Sys2Proof.Machine.execAccAdd nn us s
  | .accMov nn us => Sys2Proof.Machine.execAccMov nn us s
  | .accSh nn us => Sys2Proof.Machine.execAccSh nn us s
  | .add nn us => Sys2Proof.Machine.execAdd nn us s
  | .sub nn us => Sys2Proof.Machine.execSub nn us s
  | .and nn us => Sys2Proof.Machine.execAnd nn us s
  | .or nn us => Sys2Proof.Machine.execOr nn us s
  | .xor nn us => Sys2Proof.Machine.execXor nn us s
  | .shl nn us => Sys2Proof.Machine.execShl nn us s
  | .shra nn us => Sys2Proof.Machine.execShra nn us s
  | .shrl nn us => Sys2Proof.Machine.execShrl nn us s
  | .min nn us => Sys2Proof.Machine.execMin nn us s
  | .max nn us => Sys2Proof.Machine.execMax nn us s
  | .abs nn us => Sys2Proof.Machine.execAbs nn us s
  | .neg nn us => Sys2Proof.Machine.execNeg nn us s
  | .cmp nn us => Sys2Proof.Machine.execCmp nn us s
  | .sel nn us => Sys2Proof.Machine.execSel nn us s
  | .movx nn us => Sys2Proof.Machine.execMovx nn us s
  | .endBeat nn us be => Sys2Proof.Machine.execEndBeat nn us be s
  | .rep nn us => Sys2Proof.Machine.execRep nn us s
  | .ldi nn us => Sys2Proof.Machine.execLdi nn us s
  | .setptr nn us => Sys2Proof.Machine.execSetptr nn us s
  | .gramp nn us => Sys2Proof.Machine.execGramp nn us s
  | .mpr nn us => Sys2Proof.Machine.execMpr nn us s
  | .mpw nn us => Sys2Proof.Machine.execMpw nn us s
  | .illegalInstruction nn us => Sys2Proof.Machine.execIllegalInstruction nn us s
  | .mpTransferDone nn k us be => Sys2Proof.Machine.execMpTransferDone nn k us be s
  | .engineWindowWrite nn o bs mid => Sys2Proof.Machine.execEngineWindowWrite nn o bs mid s
  | .mpWaitMaxClear nn v mid => Sys2Proof.Machine.execMpWaitMaxClear nn v mid s
  | .loadGo mid => Sys2Proof.Machine.execLoadGo mid s
  | .loadPass1Done us => Sys2Proof.Machine.execLoadPass1Done us s
  | .loadSectionDone us => Sys2Proof.Machine.execLoadSectionDone us s
  | .loadPass2Done => Sys2Proof.Machine.execLoadPass2Done s
  | .sourceReadError off us => Sys2Proof.Machine.execSourceReadError off us s
  | .loadAbort mid => Sys2Proof.Machine.execLoadAbort mid s
  | .invalB mid => Sys2Proof.Machine.execInvalB mid s
  | .schedRateWrite v mid => Sys2Proof.Machine.execSchedRateWrite v mid s
  | .hoistSwapRequest v mid => Sys2Proof.Machine.execHoistSwapRequest v mid s
  | .hoistParamRequest v mid => Sys2Proof.Machine.execHoistParamRequest v mid s
  | .hoistRegsRequest v mid => Sys2Proof.Machine.execHoistRegsRequest v mid s
  | .hoistRouteRequest v mid => Sys2Proof.Machine.execHoistRouteRequest v mid s
  | .swapLanding => Sys2Proof.Machine.execSwapLanding s
  | .paramLanding => Sys2Proof.Machine.execParamLanding s
  | .paramCopyForwardDone nn g => Sys2Proof.Machine.execParamCopyForwardDone nn g s
  | .regsLanding => Sys2Proof.Machine.execRegsLanding s
  | .routeLanding => Sys2Proof.Machine.execRouteLanding s
  | .routeCopyForwardDone => Sys2Proof.Machine.execRouteCopyForwardDone s
  | .pgpSet k v mid => Sys2Proof.Machine.execPgpSet k v mid s
  | .rtDataWrite v mid => Sys2Proof.Machine.execRtDataWrite v mid s
  | .rtDataRead mid us => Sys2Proof.Machine.execRtDataRead mid us s
  | .softSwitchTimeout d => Sys2Proof.Machine.execSoftSwitchTimeout d s
  | .tdmMuteNow p mid => Sys2Proof.Machine.execTdmMuteNow p mid s
  | .groupArm g v mid => Sys2Proof.Machine.execGroupArm g v mid s
  | .groupStop g v mid => Sys2Proof.Machine.execGroupStop g v mid s
  | .startEdgeCapture => Sys2Proof.Machine.execStartEdgeCapture s
  | .groupFrame0Start g pos e => Sys2Proof.Machine.execGroupFrame0Start g pos e s
  | .tdmInputFrame p slots bclk units => Sys2Proof.Machine.execTdmInputFrame p slots bclk units s
  | .tdmGroupFrame g e und ovr => Sys2Proof.Machine.execTdmGroupFrame g e und ovr s
  | .tdmRateFault p => Sys2Proof.Machine.execTdmRateFault p s
  | .tdmRateFaultClear p => Sys2Proof.Machine.execTdmRateFaultClear p s
  | .tdmRampOutStart p out => Sys2Proof.Machine.execTdmRampOutStart p out s
  | .tdmRampOutEnd p out => Sys2Proof.Machine.execTdmRampOutEnd p out s
  | .tdmRampInStart p out => Sys2Proof.Machine.execTdmRampInStart p out s
  | .tdmRampInEnd p out => Sys2Proof.Machine.execTdmRampInEnd p out s
  | .groupFlywheel g => Sys2Proof.Machine.execGroupFlywheel g s
  | .flywheelExit g e => Sys2Proof.Machine.execFlywheelExit g e s
  | .decOutput n j bits => Sys2Proof.Machine.execDecOutput n j bits s
  | .decSettled n => Sys2Proof.Machine.execDecSettled n s
  | .decStuck n run => Sys2Proof.Machine.execDecStuck n run s
  | .decStuckClear n => Sys2Proof.Machine.execDecStuckClear n s
  | .modForceOff x v mid => Sys2Proof.Machine.execModForceOff x v mid s
  | .modClr x v mid => Sys2Proof.Machine.execModClr x v mid s
  | .modSwitchingPeriod m e ocStill => Sys2Proof.Machine.execModSwitchingPeriod m e ocStill s
  | .modCmUpEnd m e => Sys2Proof.Machine.execModCmUpEnd m e s
  | .modFadeInEnd m => Sys2Proof.Machine.execModFadeInEnd m s
  | .modFadeOutEnd m => Sys2Proof.Machine.execModFadeOutEnd m s
  | .modCmDownEnd m => Sys2Proof.Machine.execModCmDownEnd m s
  | .ocQualify m => Sys2Proof.Machine.execOcQualify m s
  | .zWindowEnd m j => Sys2Proof.Machine.execZWindowEnd m j s
  | .modRetry m => Sys2Proof.Machine.execModRetry m s
  | .retryCntClear m => Sys2Proof.Machine.execRetryCntClear m s
  | .railCommand g j => Sys2Proof.Machine.execRailCommand g j s
  | .railPwmPeriod g => Sys2Proof.Machine.execRailPwmPeriod g s
  | .railLow g => Sys2Proof.Machine.execRailLow g s
  | .railOv g => Sys2Proof.Machine.execRailOv g s
  | .railClr v mid => Sys2Proof.Machine.execRailClr v mid s
  | .thmWindowEnd m => Sys2Proof.Machine.execThmWindowEnd m s
  | .thmStoreError m => Sys2Proof.Machine.execThmStoreError m s
  | .refActivityLost n => Sys2Proof.Machine.execRefActivityLost n s
  | .refWindowEnd n ofs phase => Sys2Proof.Machine.execRefWindowEnd n ofs phase s
  | .refQualified refs => Sys2Proof.Machine.execRefQualified refs s
  | .refCfgWrite n v mid => Sys2Proof.Machine.execRefCfgWrite n v mid s
  | .refLimitWrite n reject v mid => Sys2Proof.Machine.execRefLimitWrite n reject v mid s
  | .refForce v mid => Sys2Proof.Machine.execRefForce v mid s
  | .refRevert n => Sys2Proof.Machine.execRefRevert n s
  | .dpllLock => Sys2Proof.Machine.execDpllLock s
  | .dpllUnlock => Sys2Proof.Machine.execDpllUnlock s
  | .dpllHistoryValid => Sys2Proof.Machine.execDpllHistoryValid s
  | .dpllHoldExpire => Sys2Proof.Machine.execDpllHoldExpire s
  | .dpllSlewDone => Sys2Proof.Machine.execDpllSlewDone s
  | .dpllStepWrite v mid => Sys2Proof.Machine.execDpllStepWrite v mid s
  | .dpllStepDone => Sys2Proof.Machine.execDpllStepDone s
  | .stepAnnounce => Sys2Proof.Machine.execStepAnnounce s
  | .pnt3PulseEnd => Sys2Proof.Machine.execPnt3PulseEnd s
  | .ptpTimeRead mid => Sys2Proof.Machine.execPtpTimeRead mid s
  | .ptpRateCommit v mid => Sys2Proof.Machine.execPtpRateCommit v mid s
  | .ptpStepGo v mid => Sys2Proof.Machine.execPtpStepGo v mid s
  | .ptpSync v mid => Sys2Proof.Machine.execPtpSync v mid s
  | .ptpUnsync v mid => Sys2Proof.Machine.execPtpUnsync v mid s
  | .ptpKeepalive v mid => Sys2Proof.Machine.execPtpKeepalive v mid s
  | .ptpSyncWatchdog => Sys2Proof.Machine.execPtpSyncWatchdog s
  | .macRxFrame p bs raw16 => Sys2Proof.Machine.execMacRxFrame p bs raw16 s
  | .macPauseFrame p bs => Sys2Proof.Machine.execMacPauseFrame p bs s
  | .pauseEnd p => Sys2Proof.Machine.execPauseEnd p s
  | .pauseWatchdog p => Sys2Proof.Machine.execPauseWatchdog p s
  | .pauseHoldoffEnd p => Sys2Proof.Machine.execPauseHoldoffEnd p s
  | .macLinkChange p lock clean => Sys2Proof.Machine.execMacLinkChange p lock clean s
  | .macCntClr p v mid => Sys2Proof.Machine.execMacCntClr p v mid s
  | .ringTailWrite u k v mid => Sys2Proof.Machine.execRingTailWrite u k v mid s
  | .macTxStart p left woken => Sys2Proof.Machine.execMacTxStart p left woken s
  | .macTxDone p raw16 => Sys2Proof.Machine.execMacTxDone p raw16 s
  | .lpiEnter p rx left opens => Sys2Proof.Machine.execLpiEnter p rx left opens s
  | .lpiExit p rx => Sys2Proof.Machine.execLpiExit p rx s
  | .gateEntryChange p cycleEnd => Sys2Proof.Machine.execGateEntryChange p cycleEnd s
  | .gclChange p v mid => Sys2Proof.Machine.execGclChange p v mid s
  | .gclConfigChange p => Sys2Proof.Machine.execGclConfigChange p s
  | .gclDataWrite v mid => Sys2Proof.Machine.execGclDataWrite v mid s
  | .streamTxPacket n => Sys2Proof.Machine.execStreamTxPacket n s
  | .streamRxPacket n => Sys2Proof.Machine.execStreamRxPacket n s
  | .streamRampOutStart n => Sys2Proof.Machine.execStreamRampOutStart n s
  | .streamRampInStart n => Sys2Proof.Machine.execStreamRampInStart n s
  | .mcOfsWrite hi v mid => Sys2Proof.Machine.execMcOfsWrite hi v mid s
  | .carixFrameRx n valid h audio tun crc t4 late => Sys2Proof.Machine.execCarixFrameRx n valid h audio tun crc t4 late s
  | .carixRampOutStart n => Sys2Proof.Machine.execCarixRampOutStart n s
  | .laneBlockLock n lane hs => Sys2Proof.Machine.execLaneBlockLock n lane hs s
  | .laneLockLost n lane hs => Sys2Proof.Machine.execLaneLockLost n lane hs s
  | .carixLinkChange n skew frame => Sys2Proof.Machine.execCarixLinkChange n skew frame s
  | .dlyValid n => Sys2Proof.Machine.execDlyValid n s
  | .stepBlockRx n c0 c1 inTime => Sys2Proof.Machine.execStepBlockRx n c0 c1 inTime s
  | .stackRoleWrite v mid => Sys2Proof.Machine.execStackRoleWrite v mid s
  | .stackClr v mid => Sys2Proof.Machine.execStackClr v mid s
  | .crxCntClr n v mid => Sys2Proof.Machine.execCrxCntClr n v mid s
  | .remoteReadRequest n v mid => Sys2Proof.Machine.execRemoteReadRequest n v mid s
  | .remoteWriteRequest n v mid => Sys2Proof.Machine.execRemoteWriteRequest n v mid s
  | .tunnelResponse n => Sys2Proof.Machine.execTunnelResponse n s
  | .raTimeout n => Sys2Proof.Machine.execRaTimeout n s
  | .tunnelReadRequestRx n => Sys2Proof.Machine.execTunnelReadRequestRx n s
  | .tunnelWriteRequestRx n x => Sys2Proof.Machine.execTunnelWriteRequestRx n x s
  | .tunnelMessageRx n => Sys2Proof.Machine.execTunnelMessageRx n s
  | .tunnelMessageTx n => Sys2Proof.Machine.execTunnelMessageTx n s
  | .pairElectTimeout => Sys2Proof.Machine.execPairElectTimeout s
  | .pairLinkSilent => Sys2Proof.Machine.execPairLinkSilent s
  | .pinFault => Sys2Proof.Machine.execPinFault s
  | .pairTakeover => Sys2Proof.Machine.execPairTakeover s
  | .pairConverged => Sys2Proof.Machine.execPairConverged s
  | .pairConvLimit => Sys2Proof.Machine.execPairConvLimit s
  | .pairSuspect => Sys2Proof.Machine.execPairSuspect s
  | .healthPublish => Sys2Proof.Machine.execHealthPublish s
  | .pairStrikeCmd v mid => Sys2Proof.Machine.execPairStrikeCmd v mid s
  | .clrStruck v mid => Sys2Proof.Machine.execClrStruck v mid s
  | .pairCntClr v mid => Sys2Proof.Machine.execPairCntClr v mid s
  | .drcInit v mid => Sys2Proof.Machine.execDrcInit v mid s
  | .drcInitDone => Sys2Proof.Machine.execDrcInitDone s
  | .drcOnline v mid => Sys2Proof.Machine.execDrcOnline v mid s
  | .drcOffline v mid => Sys2Proof.Machine.execDrcOffline v mid s
  | .probeReadCal v mid => Sys2Proof.Machine.execProbeReadCal v mid s
  | .probeWriteRead v mid => Sys2Proof.Machine.execProbeWriteRead v mid s
  | .probeCaTrain v mid => Sys2Proof.Machine.execProbeCaTrain v mid s
  | .probeGate v mid => Sys2Proof.Machine.execProbeGate v mid s
  | .probeWckLvl v mid => Sys2Proof.Machine.execProbeWckLvl v mid s
  | .probeDone res errs => Sys2Proof.Machine.execProbeDone res errs s
  | .mrWrite v mid => Sys2Proof.Machine.execMrWrite v mid s
  | .mrRead v dev mid => Sys2Proof.Machine.execMrRead v dev mid s
  | .dphyDelayWrite o v mid => Sys2Proof.Machine.execDphyDelayWrite o v mid s
  | .tsetWrite o v mid => Sys2Proof.Machine.execTsetWrite o v mid s
  | .dramRequest arrived recent age us => Sys2Proof.Machine.execDramRequest arrived recent age us s
  | .urgencyRaise k => Sys2Proof.Machine.execUrgencyRaise k s
  | .rowClose bank => Sys2Proof.Machine.execRowClose bank s
  | .refresh bank postpone => Sys2Proof.Machine.execRefresh bank postpone s
  | .tempPoll rate => Sys2Proof.Machine.execTempPoll rate s
  | .srEnter => Sys2Proof.Machine.execSrEnter s
  | .fcGo v mid => Sys2Proof.Machine.execFcGo v mid s
  | .fcDone => Sys2Proof.Machine.execFcDone s
  | .fillGo v mid => Sys2Proof.Machine.execFillGo v mid s
  | .fillDone => Sys2Proof.Machine.execFillDone s
  | .maxWaitClear port v mid => Sys2Proof.Machine.execMaxWaitClear port v mid s
  | .dphyUnlock => Sys2Proof.Machine.execDphyUnlock s
  | .zqCalibration ok => Sys2Proof.Machine.execZqCalibration ok s
  | .defaultTargetAccess a mid write fetch size => Sys2Proof.Machine.execDefaultTargetAccess a mid write fetch size s
  | .amo core op a v stall => Sys2Proof.Machine.execAmo core op a v stall s
  | .lockTimeout => Sys2Proof.Machine.execLockTimeout s
  | .lr core a => Sys2Proof.Machine.execLr core a s
  | .sc core a v => Sys2Proof.Machine.execSc core a v s
  | .holdMaxClear v mid => Sys2Proof.Machine.execHoldMaxClear v mid s
  | .cpuRun n v mid => Sys2Proof.Machine.execCpuRun n v mid s
  | .cpuHold n v mid => Sys2Proof.Machine.execCpuHold n v mid s
  | .haltReq n v mid => Sys2Proof.Machine.execHaltReq n v mid s
  | .wdogEnable v mid => Sys2Proof.Machine.execWdogEnable v mid s
  | .wdogKick v mid => Sys2Proof.Machine.execWdogKick v mid s
  | .wdogWarn => Sys2Proof.Machine.execWdogWarn s
  | .wdogExpire => Sys2Proof.Machine.execWdogExpire s
  | .hostGo v mid => Sys2Proof.Machine.execHostGo v mid s
  | .flashCmd v data mid => Sys2Proof.Machine.execFlashCmd v data mid s
  | .bootFifoRead mid => Sys2Proof.Machine.execBootFifoRead mid s
  | .bootFifoWrite v mid => Sys2Proof.Machine.execBootFifoWrite v mid s
  | .pcieRequest bar o n wr data x => Sys2Proof.Machine.execPcieRequest bar o n wr data x s
  | .flr => Sys2Proof.Machine.execFlr s
  | .pciePerst low => Sys2Proof.Machine.execPciePerst low s
  | .fuseProgKey v mid => Sys2Proof.Machine.execFuseProgKey v mid s
  | .fuseProgGo v bad mid => Sys2Proof.Machine.execFuseProgGo v bad mid s
  | .dbgReq v mid => Sys2Proof.Machine.execDbgReq v mid s
  | .dbgGo v mid => Sys2Proof.Machine.execDbgGo v mid s
  | .doorbellH2a v mid => Sys2Proof.Machine.execDoorbellH2a v mid s
  | .doorbellA2h v mid => Sys2Proof.Machine.execDoorbellA2h v mid s
  | .gpioEdge p level => Sys2Proof.Machine.execGpioEdge p level s
  | .twbSetPointer p stop => Sys2Proof.Machine.execTwbSetPointer p stop s
  | .twbTargetWriteWord w stop => Sys2Proof.Machine.execTwbTargetWriteWord w stop s
  | .twbTargetReadWord first late n stop => Sys2Proof.Machine.execTwbTargetReadWord first late n stop s
  | .twbAccessDone x => Sys2Proof.Machine.execTwbAccessDone x s
  | .twbTargetBusError => Sys2Proof.Machine.execTwbTargetBusError s
  | .twbControllerWrite v run mid => Sys2Proof.Machine.execTwbControllerWrite v run mid s
  | .twbControllerRead v run mid => Sys2Proof.Machine.execTwbControllerRead v run mid s
  | .twbArbRetry run => Sys2Proof.Machine.execTwbArbRetry run s
  | .twbControllerBusError => Sys2Proof.Machine.execTwbControllerBusError s
  | .twbSclTimeout => Sys2Proof.Machine.execTwbSclTimeout s
  | .twbRecover v run mid => Sys2Proof.Machine.execTwbRecover v run mid s
  | .twbAbort v run mid => Sys2Proof.Machine.execTwbAbort v run mid s
  | .twbFifoRead mid => Sys2Proof.Machine.execTwbFifoRead mid s
  | .twbFifoWrite v mid => Sys2Proof.Machine.execTwbFifoWrite v mid s
  | .twbWakeMatch addr => Sys2Proof.Machine.execTwbWakeMatch addr s
  | .modeReqRun v mid => Sys2Proof.Machine.execModeReqRun v mid s
  | .modeReqService v mid => Sys2Proof.Machine.execModeReqService v mid s
  | .modeReqQuiet v mid => Sys2Proof.Machine.execModeReqQuiet v mid s
  | .modeReqDormant v mid => Sys2Proof.Machine.execModeReqDormant v mid s
  | .agentAnswer xfer edges shut => Sys2Proof.Machine.execAgentAnswer xfer edges shut s
  | .agentTimeout => Sys2Proof.Machine.execAgentTimeout s
  | .quietResume => Sys2Proof.Machine.execQuietResume s
  | .resumeDone us => Sys2Proof.Machine.execResumeDone us s
  | .wakeN => Sys2Proof.Machine.execWakeN s
  | .ledgerAlarm => Sys2Proof.Machine.execLedgerAlarm s
  | .wakeSw v mid => Sys2Proof.Machine.execWakeSw v mid s
  | .wakeRailsValid rom l valid => Sys2Proof.Machine.execWakeRailsValid rom l valid s
  | .wakeTimeout => Sys2Proof.Machine.execWakeTimeout s
  | .rtcInactive => Sys2Proof.Machine.execRtcInactive s
  | .fabEnWrite v mid => Sys2Proof.Machine.execFabEnWrite v mid s
  | .quadrantPowered q => Sys2Proof.Machine.execQuadrantPowered q s
  | .por => Sys2Proof.Machine.execPor s
  | .bor rom l valid => Sys2Proof.Machine.execBor rom l valid s
  | .pinReset rom => Sys2Proof.Machine.execPinReset rom s
  | .wdogReset rom => Sys2Proof.Machine.execWdogReset rom s
  | .softReset v rom mid => Sys2Proof.Machine.execSoftReset v rom mid s
  | .aoRelease => Sys2Proof.Machine.execAoRelease s
  | .deviceRelease rom => Sys2Proof.Machine.execDeviceRelease rom s
  | .tempReading k r => Sys2Proof.Machine.execTempReading k r s
  | .supplyReading k mv => Sys2Proof.Machine.execSupplyReading k mv s
  | .tempMaxClear v mid => Sys2Proof.Machine.execTempMaxClear v mid s
  | .storeScrub us => Sys2Proof.Machine.execStoreScrub us s
  | .dramScrub us => Sys2Proof.Machine.execDramScrub us s
  | .sramScrub m us => Sys2Proof.Machine.execSramScrub m us s
  | .pcieLinkChange up gen width ltssm => Sys2Proof.Machine.execPcieLinkChange up gen width ltssm s
  | .rtcActive => Sys2Proof.Machine.execRtcActive s
  | .holdLimitWrite v mid => Sys2Proof.Machine.execHoldLimitWrite v mid s
  | .mediaOfsWrite v mid => Sys2Proof.Machine.execMediaOfsWrite v mid s
  | .powerUpFromBootDone => Sys2Proof.Machine.execPowerUpFromBootDone s
  | .twbBusFreeStart run => Sys2Proof.Machine.execTwbBusFreeStart run s
  | .mainEnLowTimeEnd => Sys2Proof.Machine.execMainEnLowTimeEnd s

end Sys2Proof.Machine
end

