-- ==== Sys2Proof/Safety.lean ====
section
/-! DEFINITION. The words that claims use: the canonical form of the machine's collections, when an access reaches a
block, what an engine is about to do, and what a command leaves unchanged. -/

namespace Sys2Proof.Machine

/-- The collections that hold registers, latches, memory bytes and error marks are in canonical form, so that equal
contents are equal data. -/
def State.canonical (s : State) : Bool :=
  smapWf resetWord s.regs && smapWf resetWord s.hiLatch && smapWf zeroB s.mem && smapWf zeroN s.ecc

/-- No request that later ones must follow is outstanding, at DRC, at a window or at RTR, and none is held back: every
access is made at once (R385, R386). -/
def State.clear (s : State) : Bool :=
  s.mtx.held.isEmpty && s.dram.reqs.all (fun r => (chanOf r.1.mid r.1.id).isNone)
  && s.sched.held.all (fun h => h.chan.isNone) && s.rtr.held.all (fun h => h.chan.isNone)

/-- A register write reaches the block: the device is released (R483), no earlier request holds it back (R385), the page
answers (R381), its block is enabled (R397), not locked against the write (R399), and its domain is powered (R498). -/
def State.admits (s : State) (page off : Nat) (stops : Bool := false) : Prop :=
  s.pwr.released = true ∧ s.guard page off stops = .pass ∧ s.clear = true

/-- A register read reaches the block (R381, R385, R397). -/
def State.readable (s : State) (page off : Nat) : Prop :=
  s.pwr.released = true ∧ s.reachable page off = true ∧ s.pageEn page = true ∧ s.clear = true

/-- Engine nn takes its next step with instruction i: it may step (R17, R54), its fetch has no error (R89, R90), and
the word at PC is i (R119). -/
def State.atInstr (s : State) (nn : Nat) (i : EngInstr) : Prop :=
  s.canStep (s.engine nn) = true ∧ (s.engine nn).pc < 12288 ∧ s.fetchMark nn = 0
    ∧ decEng ((s.engine nn).instr (s.engine nn).pc) = some i

/-- The command of a two-operand ALU instruction of engine nn, without memory upsets. -/
def Alu2.cmd (o : Alu2) (nn : Fin 32) : Instr :=
  match o with
  | .add => .add nn [] | .sub => .sub nn [] | .and => .and nn [] | .or => .or nn [] | .xor => .xor nn []
  | .shl => .shl nn [] | .shra => .shra nn [] | .shrl => .shrl nn [] | .min => .min nn [] | .max => .max nn []

/-- The command of a multiplier instruction of engine nn. -/
def MacMode.cmd (m : MacMode) (nn : Fin 32) : Instr :=
  match m with
  | .s => .macS nn [] | .d => .macD nn [] | .du => .macDu nn [] | .q => .macQ nn [] | .sum => .macSum nn []

/-- The latches of engine nn after the bus reads of a P-format step (R56, R100). -/
def State.latched (s : State) (nn : Nat) (p : PFields) : Engine :=
  let e := s.engine nn
  let rx := s.busRead nn e true p.xf
  let ry := s.busRead nn e false p.yf
  { e with x0 := rx.l0.getD e.x0, x1 := rx.l1.getD e.x1, y0 := ry.l0.getD e.y0, y1 := ry.l1.getD e.y1 }

/-- D register j after a step with write field wf and result res (register and word): the write field stands where both
name one register (R105). -/
def Engine.dAfter (e : Engine) (h : Hd) (wf : WrF) (res : Option (Nat × Word)) (j : Nat) : Word :=
  let r : Word := match res with
    | some (d, v) => if j = d then v else e.rd j
    | none => e.rd j
  match wf with
  | .on (.dreg d) src => if j = d.val then (e.srcWord h src).1 else r
  | _ => r

/-- The engine address that the write field of a step stores to, and the word, where the store is allowed (R65, R84,
R103); a detached engine stores nothing in OB (R33). -/
def State.storeOf (s : State) (nn : Nat) (h : Hd) (wf : WrF) : Option (Nat × Word) :=
  let e := s.engine nn
  match wf with
  | .on (.mem k _) src =>
    let a := e.ptr k
    let a' := s.redirect nn a
    if emem a = .none ∨ emem a = .ib ∨ e.busy a' = true ∨ (emem a = .ob ∧ (e.st = .detached ∨ e.st = .skipping)) then none
    else some (a', (e.srcWord h src).1)
  | _ => none

/-- The post-modification of a bus read, and of a write field: the pointer and the amount (R66, R101). -/
def Engine.rdMod (e : Engine) : BusRd → Option (Nat × Int)
  | .one k md _ => (e.modAmt k md).map (fun d => (k.val, d))
  | .pair k md => (e.modAmt k md).map (fun d => (k.val, d))
  | _ => none
def Engine.wrMod (e : Engine) : WrF → Option (Nat × Int)
  | .on (.mem k md) _ => (e.modAmt k md).map (fun d => (k.val, d))
  | _ => none

/-- Pointer k after the post-modifications of a step, in their order, each under the wrap length of the pointer (R57). -/
def Engine.ptrAfter (e : Engine) (ms : List (Option (Nat × Int))) (k : Nat) : Nat :=
  ms.foldl (fun p m => match m with
    | some (j, d) => if j = k then wrapadd (e.wrap k) p d % 131072 else p
    | none => p) (e.ptr k)

/-- The offsets and wrap lengths of the pointers are those of e, and pointer k is where the modifications ms leave it. -/
def Engine.moved (e e' : Engine) (ms : List (Option (Nat × Int))) : Prop :=
  ∀ k, e'.ptr k = e.ptrAfter ms k ∧ e'.ofs k = e.ofs k ∧ e'.wrap k = e.wrap k

/-- What every plain step does besides its result: the program counter and the loop stack advance (R115), one step is
counted (R54), the write field's word is the only word of engine memory that changes, and no byte of the system's
memories and no other engine changes. -/
def State.steppedTo (s t : State) (nn : Nat) (store : Option (Nat × Word)) : Prop :=
  (t.engine nn).pc = (loopNext (s.engine nn).loops (s.engine nn).pc).2
  ∧ (t.engine nn).loops = (loopNext (s.engine nn).loops (s.engine nn).pc).1
  ∧ (t.engine nn).steps = (s.engine nn).steps + 1 ∧ (t.engine nn).st = (s.engine nn).st
  ∧ (∀ a, (t.engine nn).word a = match store with
      | some (b, v) => if a = b then v else (s.engine nn).word a
      | none => (s.engine nn).word a)
  ∧ t.mem = s.mem ∧ ∀ m, m ≠ nn → t.engine m = s.engine m

/-- A range of bytes lies in the shared store, which answers and holds no error mark (R380, R372). -/
def State.storeOk (s : State) (a n : Nat) : Prop := s.ecc = [] ∧ s.mode ≠ 4 ∧ 0x10000000 ≤ a ∧ a + n ≤ 0x11000000

/-- The buffer address and the length in the descriptor at HEAD of a ring (R289). -/
def State.ringBuf (s : State) (r : Ring) : Nat := s.le (s.ringAddr r) 8 % 2 ^ 40
def State.ringBlen (s : State) (r : Ring) : Nat := s.le (s.ringAddr r + 12) 2

/-- No slot of a running engine meets the range (R81, R288). -/
def State.noSlot (s : State) (a n : Nat) : Prop := s.slotOwners a n = []

/-- A ring holds work, its descriptor and n bytes of its buffer lie apart in the shared store, outside the slots of
running engines (R288, R289). -/
def State.ringReady (s : State) (r : Ring) (n : Nat) : Prop :=
  s.ringWork r = true ∧ s.storeOk (s.ringAddr r) 16 ∧ s.storeOk (s.ringBuf r) n
    ∧ (s.ringBuf r + n ≤ s.ringAddr r ∨ s.ringAddr r + 16 ≤ s.ringBuf r)
    ∧ s.noSlot (s.ringAddr r) 16 ∧ s.noSlot (s.ringBuf r) n

/-- Every register is as before, but those whose places are listed. -/
def SameRegs (s t : State) (except : List Nat) : Prop :=
  ∀ page off, rkey page off ∉ except → t.rg page off = s.rg page off

/-- Every byte of every memory is as before. -/
def SameMem (s t : State) : Prop := ∀ a, t.byte a = s.byte a

/-- Every engine but nn is as before. -/
def SameEngines (s t : State) (nn : Nat) : Prop := ∀ m, m ≠ nn → t.engine m = s.engine m

end Sys2Proof.Machine
end

