-- ==== Sys2Proof/WellFormed.lean ====
section
/-! DEFINITION. Which commands are well formed: operands within the widths that the specification gives them. The
machine answers every command; a sender sends well-formed ones. -/

namespace Sys2Proof

/-- A 32-bit value (R7). -/
def isWord (v : Nat) : Bool := decide (v < 2 ^ 32)

/-- A master ID of eight bits (R464). -/
def isMaster (m : Nat) : Bool := decide (m < 256)

/-- An address of the 40-bit system address space (R380). -/
def isAddr (a : Nat) : Bool := decide (a < 2 ^ 40)

/-- The bytes of one access: at least one. -/
def isSize (n : Nat) : Bool := decide (1 ≤ n)

/-- Memory upsets: each marks a word as clean, correctable or uncorrectable. -/
def upsetsWf (us : List (Nat × Nat)) : Bool := us.all (fun u => decide (u.2 < 3))

/-- Well-formed commands. -/
def Instr.wf : Instr → Bool
  | .registerWrite _ _ size v mid _ => isSize size && isWord v && isMaster mid
  | .loReadLatch _ _ mid => isMaster mid
  | .intRawWrite _ v hwSet mid => isWord v && isWord hwSet && isMaster mid
  | .intEnWrite _ v mid => isWord v && isMaster mid
  | .msixUnmask _ v mid => isWord v && isMaster mid
  | .captureRelease _ v mid => isWord v && isMaster mid
  | .pageEnable _ v mid _ => isWord v && isMaster mid
  | .pageDisable _ v mid _ => isWord v && isMaster mid
  | .blockReset _ v mid _ => isWord v && isMaster mid
  | .wlockSet _ v mid _ => isWord v && isMaster mid
  | .tickBoundary _ => true
  | .tickRelease _ t1A t1B us => isWord t1A && isWord t1B && upsetsWf us
  | .beatBarrier us => upsetsWf us
  | .transferBComplete units xferNs us => isWord units && isWord xferNs && upsetsWf us
  | .beatDeadline b => decide (1 ≤ b) && decide (b ≤ 15)
  | .escSlackClr mid => isMaster mid
  | .escHistClr mid => isMaster mid
  | .avsWindowEnd => true
  | .avsSettleEnd => true
  | .avsHoldoffEnd => true
  | .avsTransactionDone _ readback => isWord readback
  | .avsEnable mid => isMaster mid
  | .avsDisable mid => isMaster mid
  | .avsModeSet _ mid => isMaster mid
  | .avsRestart mid => isMaster mid
  | .avsVCmdWrite v mid => isWord v && isMaster mid
  | .engineArm _ mid => isMaster mid
  | .engineDisarm _ mid => isMaster mid
  | .nop _ us => upsetsWf us
  | .macS _ us => upsetsWf us
  | .macD _ us => upsetsWf us
  | .macDu _ us => upsetsWf us
  | .macQ _ us => upsetsWf us
  | .macSum _ us => upsetsWf us
  | .mov _ us => upsetsWf us
  | .accLd _ us => upsetsWf us
  | .accAdd _ us => upsetsWf us
  | .accMov _ us => upsetsWf us
  | .accSh _ us => upsetsWf us
  | .add _ us => upsetsWf us
  | .sub _ us => upsetsWf us
  | .and _ us => upsetsWf us
  | .or _ us => upsetsWf us
  | .xor _ us => upsetsWf us
  | .shl _ us => upsetsWf us
  | .shra _ us => upsetsWf us
  | .shrl _ us => upsetsWf us
  | .min _ us => upsetsWf us
  | .max _ us => upsetsWf us
  | .abs _ us => upsetsWf us
  | .neg _ us => upsetsWf us
  | .cmp _ us => upsetsWf us
  | .sel _ us => upsetsWf us
  | .movx _ us => upsetsWf us
  | .endBeat _ us be => upsetsWf us && isWord be.waitNs && isWord be.busyNs
  | .rep _ us => upsetsWf us
  | .ldi _ us => upsetsWf us
  | .setptr _ us => upsetsWf us
  | .gramp _ us => upsetsWf us
  | .mpr _ us => upsetsWf us
  | .mpw _ us => upsetsWf us
  | .illegalInstruction _ us => upsetsWf us
  | .mpTransferDone _ _ us be => upsetsWf us && isWord be.waitNs && isWord be.busyNs
  | .engineWindowWrite _ o _ mid => decide (o < 0x100000) && isMaster mid
  | .mpWaitMaxClear _ v mid => isWord v && isMaster mid
  | .loadGo mid => isMaster mid
  | .loadPass1Done us => upsetsWf us
  | .loadSectionDone us => upsetsWf us
  | .loadPass2Done => true
  | .sourceReadError off us => isWord off && upsetsWf us
  | .loadAbort mid => isMaster mid
  | .invalB mid => isMaster mid
  | .schedRateWrite v mid => isWord v && isMaster mid
  | .hoistSwapRequest v mid => isWord v && isMaster mid
  | .hoistParamRequest v mid => isWord v && isMaster mid
  | .hoistRegsRequest v mid => isWord v && isMaster mid
  | .hoistRouteRequest v mid => isWord v && isMaster mid
  | .swapLanding => true
  | .paramLanding => true
  | .paramCopyForwardDone _ _ => true
  | .regsLanding => true
  | .routeLanding => true
  | .routeCopyForwardDone => true
  | .pgpSet _ v mid => isWord v && isMaster mid
  | .rtDataWrite v mid => isWord v && isMaster mid
  | .rtDataRead mid us => isMaster mid && upsetsWf us
  | .softSwitchTimeout d => decide (d < 16384)
  | .tdmMuteNow _ mid => isMaster mid
  | .groupArm _ v mid => isWord v && isMaster mid
  | .groupStop _ v mid => isWord v && isMaster mid
  | .startEdgeCapture => true
  | .groupFrame0Start _ _ _ => true
  | .tdmInputFrame _ slots bclk units => slots.all isWord && isWord bclk && isWord units
  | .tdmGroupFrame _ _ _ _ => true
  | .tdmRateFault _ => true
  | .tdmRateFaultClear _ => true
  | .tdmRampOutStart _ _ => true
  | .tdmRampOutEnd _ _ => true
  | .tdmRampInStart _ _ => true
  | .tdmRampInEnd _ _ => true
  | .groupFlywheel _ => true
  | .flywheelExit _ _ => true
  | .decOutput _ _ _ => true
  | .decSettled _ => true
  | .decStuck _ _ => true
  | .decStuckClear _ => true
  | .modForceOff _ v mid => isWord v && isMaster mid
  | .modClr _ v mid => isWord v && isMaster mid
  | .modSwitchingPeriod _ _ _ => true
  | .modCmUpEnd _ _ => true
  | .modFadeInEnd _ => true
  | .modFadeOutEnd _ => true
  | .modCmDownEnd _ => true
  | .ocQualify _ => true
  | .zWindowEnd _ _ => true
  | .modRetry _ => true
  | .retryCntClear _ => true
  | .railCommand _ _ => true
  | .railPwmPeriod _ => true
  | .railLow _ => true
  | .railOv _ => true
  | .railClr v mid => isWord v && isMaster mid
  | .thmWindowEnd _ => true
  | .thmStoreError _ => true
  | .refActivityLost _ => true
  | .refWindowEnd _ _ _ => true
  | .refQualified refs => decide (refs < 128)
  | .refCfgWrite _ v mid => isWord v && isMaster mid
  | .refLimitWrite _ _ v mid => isWord v && isMaster mid
  | .refForce v mid => isWord v && isMaster mid
  | .refRevert _ => true
  | .dpllLock => true
  | .dpllUnlock => true
  | .dpllHistoryValid => true
  | .dpllHoldExpire => true
  | .dpllSlewDone => true
  | .dpllStepWrite v mid => isWord v && isMaster mid
  | .dpllStepDone => true
  | .stepAnnounce => true
  | .pnt3PulseEnd => true
  | .ptpTimeRead mid => isMaster mid
  | .ptpRateCommit v mid => isWord v && isMaster mid
  | .ptpStepGo v mid => isWord v && isMaster mid
  | .ptpSync v mid => isWord v && isMaster mid
  | .ptpUnsync v mid => isWord v && isMaster mid
  | .ptpKeepalive v mid => isWord v && isMaster mid
  | .ptpSyncWatchdog => true
  | .macRxFrame _ _ raw16 => isWord raw16
  | .macPauseFrame _ _ => true
  | .pauseEnd _ => true
  | .pauseWatchdog _ => true
  | .pauseHoldoffEnd _ => true
  | .macLinkChange _ _ _ => true
  | .macCntClr _ v mid => isWord v && isMaster mid
  | .ringTailWrite _ _ v mid => isWord v && isMaster mid
  | .macTxStart _ _ _ => true
  | .macTxDone _ raw16 => isWord raw16
  | .lpiEnter _ _ _ _ => true
  | .lpiExit _ _ => true
  | .gateEntryChange _ _ => true
  | .gclChange _ v mid => isWord v && isMaster mid
  | .gclConfigChange _ => true
  | .gclDataWrite v mid => isWord v && isMaster mid
  | .streamTxPacket _ => true
  | .streamRxPacket _ => true
  | .streamRampOutStart _ => true
  | .streamRampInStart _ => true
  | .mcOfsWrite _ v mid => isWord v && isMaster mid
  | .carixFrameRx _ _ _ _ _ crc _ _ => isWord crc
  | .carixRampOutStart _ => true
  | .laneBlockLock _ _ hs => hs.all (fun h => decide (h < 4))
  | .laneLockLost _ _ hs => hs.all (fun h => decide (h < 4))
  | .carixLinkChange _ _ _ => true
  | .dlyValid _ => true
  | .stepBlockRx _ _ _ _ => true
  | .stackRoleWrite v mid => isWord v && isMaster mid
  | .stackClr v mid => isWord v && isMaster mid
  | .crxCntClr _ v mid => isWord v && isMaster mid
  | .remoteReadRequest _ v mid => isWord v && isMaster mid
  | .remoteWriteRequest _ v mid => isWord v && isMaster mid
  | .tunnelResponse _ => true
  | .raTimeout _ => true
  | .tunnelReadRequestRx _ => true
  | .tunnelWriteRequestRx _ _ => true
  | .tunnelMessageRx _ => true
  | .tunnelMessageTx _ => true
  | .pairElectTimeout => true
  | .pairLinkSilent => true
  | .pinFault => true
  | .pairTakeover => true
  | .pairConverged => true
  | .pairConvLimit => true
  | .pairSuspect => true
  | .healthPublish => true
  | .pairStrikeCmd v mid => isWord v && isMaster mid
  | .clrStruck v mid => isWord v && isMaster mid
  | .pairCntClr v mid => isWord v && isMaster mid
  | .drcInit v mid => isWord v && isMaster mid
  | .drcInitDone => true
  | .drcOnline v mid => isWord v && isMaster mid
  | .drcOffline v mid => isWord v && isMaster mid
  | .probeReadCal v mid => isWord v && isMaster mid
  | .probeWriteRead v mid => isWord v && isMaster mid
  | .probeCaTrain v mid => isWord v && isMaster mid
  | .probeGate v mid => isWord v && isMaster mid
  | .probeWckLvl v mid => isWord v && isMaster mid
  | .probeDone res errs => isWord res && isWord errs
  | .mrWrite v mid => isWord v && isMaster mid
  | .mrRead v _ mid => isWord v && isMaster mid
  | .dphyDelayWrite o v mid => decide (o < 4096) && isWord v && isMaster mid
  | .tsetWrite o v mid => decide (o < 4096) && isWord v && isMaster mid
  | .dramRequest arrived _ _ us => arrived.all (fun r => isMaster r.mid && isAddr r.addr) && upsetsWf us
  | .urgencyRaise _ => true
  | .rowClose _ => true
  | .refresh _ _ => true
  | .tempPoll _ => true
  | .srEnter => true
  | .fcGo v mid => isWord v && isMaster mid
  | .fcDone => true
  | .fillGo v mid => isWord v && isMaster mid
  | .fillDone => true
  | .maxWaitClear _ v mid => isWord v && isMaster mid
  | .dphyUnlock => true
  | .zqCalibration _ => true
  | .defaultTargetAccess a mid _ _ size => isAddr a && isMaster mid && isSize size
  | .amo _ _ a v _ => isAddr a && isWord v
  | .lockTimeout => true
  | .lr _ a => isAddr a
  | .sc _ a v => isAddr a && isWord v
  | .holdMaxClear v mid => isWord v && isMaster mid
  | .cpuRun _ v mid => isWord v && isMaster mid
  | .cpuHold _ v mid => isWord v && isMaster mid
  | .haltReq _ v mid => isWord v && isMaster mid
  | .wdogEnable v mid => isWord v && isMaster mid
  | .wdogKick v mid => isWord v && isMaster mid
  | .wdogWarn => true
  | .wdogExpire => true
  | .hostGo v mid => isWord v && isMaster mid
  | .flashCmd v _ mid => isWord v && isMaster mid
  | .bootFifoRead mid => isMaster mid
  | .bootFifoWrite v mid => isWord v && isMaster mid
  | .pcieRequest _ _ n _ _ _ => isSize n
  | .flr => true
  | .pciePerst _ => true
  | .fuseProgKey v mid => isWord v && isMaster mid
  | .fuseProgGo v bad mid => isWord v && isWord bad && isMaster mid
  | .dbgReq v mid => isWord v && isMaster mid
  | .dbgGo v mid => isWord v && isMaster mid
  | .doorbellH2a v mid => isWord v && isMaster mid
  | .doorbellA2h v mid => isWord v && isMaster mid
  | .gpioEdge _ _ => true
  | .twbSetPointer p _ => isWord p
  | .twbTargetWriteWord w _ => isWord w
  | .twbTargetReadWord _ _ _ _ => true
  | .twbAccessDone _ => true
  | .twbTargetBusError => true
  | .twbControllerWrite v _ mid => isWord v && isMaster mid
  | .twbControllerRead v _ mid => isWord v && isMaster mid
  | .twbArbRetry _ => true
  | .twbControllerBusError => true
  | .twbSclTimeout => true
  | .twbRecover v _ mid => isWord v && isMaster mid
  | .twbAbort v _ mid => isWord v && isMaster mid
  | .twbFifoRead mid => isMaster mid
  | .twbFifoWrite v mid => isWord v && isMaster mid
  | .twbWakeMatch addr => decide (addr < 128)
  | .modeReqRun v mid => isWord v && isMaster mid
  | .modeReqService v mid => isWord v && isMaster mid
  | .modeReqQuiet v mid => isWord v && isMaster mid
  | .modeReqDormant v mid => isWord v && isMaster mid
  | .agentAnswer _ edges shut => decide (edges < 2 ^ 48) && decide (shut < 32)
  | .agentTimeout => true
  | .quietResume => true
  | .resumeDone _ => true
  | .wakeN => true
  | .ledgerAlarm => true
  | .wakeSw v mid => isWord v && isMaster mid
  | .wakeRailsValid rom _ _ => decide (rom.straps < 4)
  | .wakeTimeout => true
  | .rtcInactive => true
  | .fabEnWrite v mid => isWord v && isMaster mid
  | .quadrantPowered _ => true
  | .por => true
  | .bor rom _ _ => decide (rom.straps < 4)
  | .pinReset rom => decide (rom.straps < 4)
  | .wdogReset rom => decide (rom.straps < 4)
  | .softReset v rom mid => isWord v && decide (rom.straps < 4) && isMaster mid
  | .aoRelease => true
  | .deviceRelease rom => decide (rom.straps < 4)
  | .tempReading _ _ => true
  | .supplyReading _ mv => isWord mv
  | .tempMaxClear v mid => isWord v && isMaster mid
  | .storeScrub us => upsetsWf us
  | .dramScrub us => upsetsWf us
  | .sramScrub _ us => upsetsWf us
  | .pcieLinkChange _ _ _ _ => true
  | .rtcActive => true
  | .holdLimitWrite v mid => isWord v && isMaster mid
  | .mediaOfsWrite v mid => isWord v && isMaster mid
  | .powerUpFromBootDone => true
  | .twbBusFreeStart _ => true
  | .mainEnLowTimeEnd => true

end Sys2Proof
end

