-- ==== Sys2Proof/Certificates/Slice0/Obligations.lean ====
section
/-! DEFINITION. The statements for the provers, one definition each. -/

open Sys2Proof Sys2Proof.Machine

/-! ## The machine -/

/-- A step takes the command at the front of the queue and runs it with the rest (a convention of a model of a
block). On an empty queue one period of the 500 MHz clock passes, except in DORMANT (R295; that an idle step stands
for one period is the model's choice, log entry 1): the raw counter goes up by one modulo 2^64, and a rate that waits
takes effect at that count (R298), here where no step of the time waits; a watchdog that counts has one period less
left (R394); the DPLL's frequency moves (R254), and with it the record of LOCK; the transmit credit of the shapers
moves (R274). No register, byte of memory or engine and no other part of the state changes. -/
def Obligations.StepRunsFrontCommand : Prop :=
  (∀ (s : State) (c : Instr) (rest : List Instr),
    step { s with pending := c :: rest } = exec c { s with pending := rest })
  ∧ (∀ s : State, s.pending = [] → s.mode ≠ 4 → s.ptp.step = none → ∃ t, step s = .next t
    ∧ t.ptp.raw = (s.ptp.raw + 1) % 2 ^ 64 ∧ t.ptp.commit = none
    ∧ t.ptp.rate = s.ptp.commit.getD s.ptp.rate ∧ (s.ptp.commit = none → t.ptp.offset = s.ptp.offset)
    ∧ t.ctl = (if s.wdCounts then { s.ctl with wdLeft := s.ctl.wdLeft - 1 } else s.ctl)
    ∧ (s.dpllState ≠ 2 → t.dpll.record = s.dpll.record)
    ∧ (∀ p, p < 4 → s.slope p 5 = 0 → s.slope p 6 = 0 → t.mac p = s.mac p)
    ∧ { t with ptp := s.ptp, ctl := s.ctl, dpll := s.dpll, net := s.net } = s)
  ∧ (∀ s : State, s.pending = [] → s.mode = 4 → step s = .next s)

/-- Every command completes: the block turns no command away and no command stops it. Refused accesses and errors are
effects on the state (R3, R7, R461, R462). That an event whose condition does not hold completes too, and changes
nothing, is the model's choice (log entry 7). -/
def Obligations.EveryCommandCompletes : Prop :=
  ∀ (c : Instr) (s : State), ∃ t, exec c s = .next t

/-- After reset the queue is empty, the mode is BOOT (R454, R457), the tick number is 0, AVS.V_CMD is 750 mV, every
register reads its reset value (R6), and the collections are in canonical form. That the state is the one right after
the releases, and the level of the strap pins in SYS.STRAPS, which reads 2, are the model's choice (log entry 11). -/
def Obligations.ResetState : Prop :=
  State.reset.pending = [] ∧ State.reset.mode = 0 ∧ State.reset.tick = 0
  ∧ State.reset.rg pgAvs Off.avsV_CMD = 750 ∧ State.reset.rg pgEsc Off.escSLACK_MIN = 0xFFFFFFFF
  ∧ (∀ page off : Nat, off < 0x1000 → State.reset.rg page off = resetNat page off % 2 ^ 32)
  ∧ State.reset.canonical = true

/-- Every step keeps the registers, the _HI latches, the memory bytes and the error marks in canonical form. -/
def Obligations.StepKeepsCanonicalForm : Prop :=
  ∀ s t : State, s.canonical = true → step s = .next t → t.canonical = true

/-- A register set reads back its low 32 bits and every other register keeps its value; a byte stored reads back and
every other byte keeps its value; bytes stored from an address on lie there in order and all others keep theirs; an
engine set is what is read and every other engine is unchanged. -/
def Obligations.ReadAfterWrite : Prop :=
  (∀ (s : State) (page off v page' off' : Nat), (s.setRg page off v).rg page' off'
    = if rkey page' off' = rkey page off then v % 2 ^ 32 else s.rg page' off')
  ∧ (∀ (s : State) (a x : Nat) (b : Byte), (s.setByte a b).byte x = if x = a then b else s.byte x)
  ∧ (∀ (s : State) (a x : Nat) (bs : List Byte), (s.store a bs).byte x
    = if a ≤ x ∧ x < a + bs.length then bs.getD (x - a) 0 else s.byte x)
  ∧ (∀ (s : State) (nn m : Nat) (e : Engine), (s.setEngine nn e).engine m = if m = nn then e else s.engine m)

/-- A 64-bit word is an engine instruction exactly where it is the word of a legal instruction: a word decodes to i
if and only if i's encoding is that word and i is legal, so every reserved bit and unused field of a legal word is
zero (R97 to R119). -/
def Obligations.EngineWordDecodes : Prop :=
  ∀ (w : Nat) (i : EngInstr), decEng w = some i ↔ encEng i = w ∧ i.legal = true


/-! ## Pages and their common head -/

/-- Register pages accept 32-bit aligned accesses only (R7). A write of another size or alignment, and a read of one,
is answered, once it is issued (R385), with an error response and writes nothing: the registers that are not the
page's capture, the memory and the engines stay as they are; it is captured as a Contained error of the addressed
page, a first one with its address, master and type. -/
def Obligations.UnalignedPageAccessIsRefused : Prop :=
  ∀ (s : State) (page : Fin 256) (off : Fin 4096) (size v mid id : Nat) (x : Ext),
    (size ≠ 4 ∨ off.val % 4 ≠ 0) → s.pwr.released = true → s.reachable page off = true → s.clear = true →
    mid < 2 ^ 32 →
    let refused (t : State) (write : Bool) : Prop :=
      t.resp = { err := true, data := [] } ∧ SameMem s t ∧ t.eng = s.eng
      ∧ SameRegs s t [rkey page Off.headERR_CLASS, rkey page Off.headERR_ADDR_LO, rkey page Off.headERR_ADDR_HI,
          rkey page Off.headERR_MASTER, rkey page Off.headERR_TYPE, rkey page Off.headERR_TIME_LO,
          rkey page Off.headERR_TIME_HI, rkey page Off.headERR_MERGED]
      ∧ (s.fld page Off.headERR_CLASS 1 0 = 0 → t.rg page Off.headERR_CLASS = 2
          ∧ t.rg page Off.headERR_ADDR_LO = regAddr page off ∧ t.rg page Off.headERR_MASTER = mid
          ∧ t.rg page Off.headERR_TYPE = b2n write + 16 * sizeCode size)
    (∃ t, exec (.registerWrite page off size v mid x) s = .next t ∧ refused t true)
    ∧ refused (State.pageRead page off size mid id s) false

/-- A write of a register that has no behaviour of its own (pages RST, STORE and GAIN) follows its access code: RW,
RWH and NX take the writable bits with limited fields at the nearer limit, W1C clears the bits written 1, the others
and reserved offsets ignore it (R3, R8); nothing else changes. Reading the _LO of a pair delivers it and latches the
_HI of the same moment (R9), here for the pairs of ESC, SCHED and PAIR and for the raw counter of PTP; no register,
byte of memory or engine changes. -/
def Obligations.RegisterWriteAndLatch : Prop :=
  (
    ∀ (s : State) (page : Fin 256) (off : Fin 4096) (v mid : Nat) (x : Ext),
      (page.val = pgRst ∨ page.val = pgStore ∨ page.val = pgGain) → 0x100 ≤ off.val → off.val % 4 = 0 → v < 2 ^ 32 →
      s.admits page off →
      exec (.registerWrite page off 4 v mid x) s = .next (match rowAt page off with
        | none => s.ok
        | some r => match r.acc with
          | .rw | .rwh | .nx => s.ok.setRg page off (applyLimits r.limits (v &&& r.mask))
          | .w1c => s.ok.setRg page off (s.rg page off - (s.rg page off &&& v))
          | .ro | .wo | .w1s => s.ok)
  )
  ∧ (
    (∀ (s : State) (page : Fin 256) (off : Fin 4096) (mid : Nat),
      (page.val = pgEsc ∨ page.val = pgSched ∨ page.val = pgPair) → 0x100 ≤ off.val → isPairLo page off = true →
      s.readable page off →
      ∃ t, exec (.loReadLatch page off mid) s = .next t
        ∧ t.resp = { err := false, data := toLE 4 (s.rg page off) }
        ∧ t.latch page (off + 4) = s.rg page (off + 4)
        ∧ t.regs = s.regs ∧ t.mem = s.mem ∧ t.eng = s.eng)
    ∧ (∀ (s : State) (off : Fin 4096) (mid : Nat), off.val = Off.ptpRAW_LO → s.readable pgPtp off → s.ptp.raw < 2 ^ 64 →
      ∃ t, exec (.loReadLatch 0x42 off mid) s = .next t
        ∧ t.resp = { err := false, data := toLE 4 (s.ptp.raw % 2 ^ 32) }
        ∧ t.latch pgPtp Off.ptpRAW_HI = s.ptp.raw / 2 ^ 32
        ∧ t.regs = s.regs ∧ t.mem = s.mem ∧ t.eng = s.eng))

/-- A write of INT_RAW clears the bits written 1, and a bit of the page that hardware sets in the same access reads 1
afterwards (R4), a reserved bit never (R8); a write of INT_EN enables its bits. Each leaves exactly one message of
the page's unmasked vector where INT_STAT is then not 0, and none otherwise (R412). Other registers keep their
values, but for the vector's pending bit. The place of a vector's mask bit and of the pending bits is presumed (log
entry 5). -/
def Obligations.InterruptHeadWrites : Prop :=
  (∀ (s : State) (page : Fin 256) (v hw mid : Nat), v < 2 ^ 32 → hw < 2 ^ 32 → s.pwr.released = true →
    s.reachable page Off.headINT_RAW = true → s.raises page = true → s.clear = true →
    ∃ t, exec (.intRawWrite page v hw mid) s = .next t
      ∧ t.rg page Off.headINT_RAW
        = (s.rg page Off.headINT_RAW - (s.rg page Off.headINT_RAW &&& v)) ||| (hw &&& intBits (pageKind page))
      ∧ t.resp = { err := false, data := [] }
      ∧ SameRegs s t [rkey page Off.headINT_RAW, rkey pgPcie (Off.pciePBA + 4 * (msixVector page / 32))]
      ∧ SameMem s t ∧ t.eng = s.eng
      ∧ (t.line page = true → s.bit pgPcie (Off.pcieMSIX + 16 * msixVector page + 12) 0 = false →
          t.ctl.msixSent = s.ctl.msixSent ++ [msixVector page])
      ∧ (t.line page = false → t.ctl.msixSent = s.ctl.msixSent))
  ∧ (∀ (s : State) (page : Fin 256) (v mid : Nat), s.pwr.released = true →
    s.reachable page Off.headINT_EN = true → s.clear = true →
    ∃ t, exec (.intEnWrite page v mid) s = .next t
      ∧ t.rg page Off.headINT_EN = regValue page Off.headINT_EN v % 2 ^ 32
      ∧ t.resp = { err := false, data := [] }
      ∧ SameRegs s t [rkey page Off.headINT_EN, rkey pgPcie (Off.pciePBA + 4 * (msixVector page / 32))]
      ∧ SameMem s t ∧ t.eng = s.eng
      ∧ (t.line page = true → s.bit pgPcie (Off.pcieMSIX + 16 * msixVector page + 12) 0 = false →
          t.ctl.msixSent = s.ctl.msixSent ++ [msixVector page])
      ∧ (t.line page = false → t.ctl.msixSent = s.ctl.msixSent))

/-- Firmware releases a capture by writing 0 to ERR_CLASS, which sets every capture field and ERR_MERGED to 0;
INT_RAW and every other register keep their values. A write of another value is ignored (R466). -/
def Obligations.CaptureRelease : Prop :=
  ∀ (s : State) (page : Fin 256) (mid : Nat), s.pwr.released = true → s.reachable page Off.headERR_CLASS = true →
    s.clear = true →
    (∃ t, exec (.captureRelease page 0 mid) s = .next t
      ∧ (∀ o, o ∈ [Off.headERR_CLASS, Off.headERR_ADDR_LO, Off.headERR_ADDR_HI, Off.headERR_MASTER, Off.headERR_TYPE,
            Off.headERR_TIME_LO, Off.headERR_TIME_HI, Off.headERR_MERGED] → t.rg page o = 0)
      ∧ SameRegs s t [rkey page Off.headERR_CLASS, rkey page Off.headERR_ADDR_LO, rkey page Off.headERR_ADDR_HI,
          rkey page Off.headERR_MASTER, rkey page Off.headERR_TYPE, rkey page Off.headERR_TIME_LO,
          rkey page Off.headERR_TIME_HI, rkey page Off.headERR_MERGED]
      ∧ { t with regs := s.regs } = s.ok)
    ∧ (∀ v, v % 2 ^ 32 ≠ 0 → exec (.captureRelease page v mid) s = .next s.ok)

/-- PAGE_CTL on a page that is not locked: EN = 1 on a held block releases it, and only PAGE_CTL changes; EN = 0
leaves the block held (R397); SRST = 1 records the page in RST.BLOCK_LAST, that of RST itself too (log entry 103),
and leaves EN at 1 (R398, R459); on the pages named here it returns every class C and D register, those of the head
included, to its reset value, and class A and B registers keep theirs (R398); WLOCK written 1 with EN as it is locks
the page (R399). Page REF, when it is enabled or reset in SYNC, has its reference 4 active at once (R243, R301). -/
def Obligations.PageControl : Prop :=
  ∀ (s : State) (page : Fin 256) (v mid : Nat) (late : List Nat), s.pwr.released = true →
    s.reachable page Off.headPAGE_CTL = true → s.clear = true →
    s.pageLocked page = false →
    (s.pageEn page = false → bitN v 0 = true → bitN v 1 = false → bitN v 2 = false →
      (page.val ≠ pgRef ∨ s.timeQual ≠ 2) →
      ∃ t, exec (.pageEnable page v mid late) s = .next t ∧ t.pageEn page = true ∧ t.resp = { err := false, data := [] }
        ∧ SameRegs s t [rkey page Off.headPAGE_CTL] ∧ { t with regs := s.regs } = s.ok)
    ∧ (s.pageEn page = true → bitN v 0 = false → bitN v 1 = false → bitN v 2 = false →
      ∃ t, exec (.pageDisable page v mid late) s = .next t ∧ t.pageEn page = false)
    ∧ (s.pageEn page = false → bitN v 0 = true → bitN v 1 = false → page.val = pgRef → s.timeQual = 2 →
      ∃ t, exec (.pageEnable page v mid late) s = .next t ∧ t.pageEn page = true ∧ t.refActive 4 = true)
    ∧ (bitN v 1 = true → bitN v 2 = false →
      ∃ t, exec (.blockReset page v mid late) s = .next t ∧ t.pageEn page = true
        ∧ t.rg pgRst Off.rstBLOCK_LAST = page + 2 ^ 16
        ∧ (page.val = pgRef → s.timeQual = 2 → t.refActive 4 = true)
        ∧ (pageKind page ∈ [.avs, .sens, .fuse, .boot, .gpio, .cpu, .aoc, .mtx, .twb, .drc, .esc, .store, .gain, .dec, .mod,
              .rail, .thm, .mac, .macm, .tsn, .eng] → ∀ off, off < 0x1000 →
            t.rg page off = (if retOf (rkey page off) = .c ∨ retOf (rkey page off) = .d then resetNat page off % 2 ^ 32
              else s.rg page off)))
    ∧ (bitN v 0 = s.pageEn page → bitN v 1 = false → bitN v 2 = true →
      ∃ t, exec (.wlockSet page v mid late) s = .next t ∧ t.pageLocked page = true ∧ t.resp = { err := false, data := [] }
        ∧ SameRegs s t [rkey page Off.headPAGE_CTL] ∧ { t with regs := s.regs } = s.ok)


/-! ## The Escapement and the voltage loop -/

/-- A boundary increments the tick number and records the length of the tick that ends, T sample periods at the
output frequency with its slew and steps (R26, R255, R256), where no change of the numbering is due (R325); the input
blocks collected wait for their release (R25). That slew and steps move the output by their part of a tick at its
boundary, and the truncation to whole ns, are the model's choice (log entries 13 and 90). A release of the oldest
boundary opens its tick in beat 1 (R17, R25). Writing CTL clears the slack extremes to their reset values (R47), or
asks for a histogram clear at the next boundary (R30); nothing else changes. -/
def Obligations.BoundaryReleaseAndClears : Prop :=
  (
    (∀ (s : State) (act : Bool), s.boundaryOk = true → s.dpll.adopt = none →
      ∃ t, exec (.tickBoundary act) s = .next t ∧ t.tick = (s.tick + 1) % 2 ^ 64
        ∧ t.rg pgEsc Off.escTICK_PERIOD = s.tickLen % 2 ^ 32 ∧ t.sig.due = s.sig.due ++ [s.sig.next]
        ∧ t.esc.tickRaw = some s.ptp.raw)
    ∧ (∀ (s : State) (late : List Nat) (t1A t1B : Nat), s.boundaryDue = true → s.esc.tickOpen = false →
      s.fabStopped = false → s.landingDue = false → s.pair.takeoverDue = false → s.bit pgEsc Off.escSTAT 5 = false →
      ∃ t, exec (.tickRelease late t1A t1B []) s = .next t ∧ t.esc.tickOpen = true ∧ t.esc.running = s.relTick
        ∧ t.beat = 1 ∧ t.sig.due = s.sig.due.tail)
  )
  ∧ (
    ∀ (s : State) (mid : Nat), s.admits pgEsc Off.escCTL →
      exec (.escSlackClr mid) s = .next ((s.ok.setRg pgEsc Off.escSLACK_MIN 0xFFFFFFFF).setRg pgEsc Off.escSLACK_MAX 0)
      ∧ exec (.escHistClr mid) s = .next { s.ok with esc := { s.esc with histClr := true } })

/-- The barrier of a beat that every running engine has ended performs its transfer and starts the next beat, or ends
the beats of the tick after the last (R17). The completion of transfer B records the slack, 0 in a tick with an
overrun and else twice the 2 ns units (R29), and the transfers' duration, and closes the tick. At the deadline D(b)
an engine that has not ended beat b is detached, or, where its last tick was an overrun too, stops in FAULT (R31,
R33, R35, R36); every other engine is as before. -/
def Obligations.BeatsAndDeadlines : Prop :=
  (
    (∀ s : State, s.esc.tickOpen = true → 1 ≤ s.beat → s.barrierMet s.beat = true →
      ∃ t, exec (.beatBarrier []) s = .next t ∧ t.esc.xfers = s.beat + 1
        ∧ t.beat = (if s.beat < s.beatsN then (s.beat + 1) % 16 else 0))
    ∧ (∀ (s : State) (units xferNs : Nat), s.esc.tickOpen = true → s.beat = 0 → s.esc.xfers = s.beatsN + 1 →
      ∃ t, exec (.transferBComplete units xferNs []) s = .next t ∧ t.esc.tickOpen = false
        ∧ t.rg pgEsc Off.escSLACK_LAST = (if s.esc.ovrInTick then 0 else 2 * units % 2 ^ 32)
        ∧ t.rg pgRtr Off.rtrXFER_NS_LAST = xferNs % 2 ^ 32)
  )
  ∧ (
    ∀ (s : State) (b : Nat), s.esc.tickOpen = true → 1 ≤ b → b ≤ s.beatsN →
      ∃ t, exec (.beatDeadline b) s = .next t
        ∧ (∀ nn : Fin 32, (s.engine nn).st = .running → (s.engine nn).ended < b →
            (t.engine nn).st = (if (s.engine nn).ovrLast then .fault else .detached) ∧ t.esc.ovrInTick = true)
        ∧ (∀ nn : Nat, ¬ ((s.engine nn).st = .running ∧ (s.engine nn).ended < b) → t.engine nn = s.engine nn))

/-- The loop's events (R40): a complete window sends bound(v + UP) below the target, bound(v - DN) above target plus
hysteresis without holdoff, and else opens the next window; the end of SETTLE opens a window; the end of the holdoff
clears it. A transaction stores the voltage read back; an acknowledged one ends, a failed one is retried, and after
the last retry BUS_FAIL is set and FAIL_CNT raised (R43, R44). Behind a transaction in progress the newest value
waits (the model's choice, log entry 82), and is sent within the bounds that stand then (R41). The loop's register
commands: EN = 1 in RUN or SHADOW starts the block, which sends bound(V_START) in closed loop, where no bus failure
stops it, and bound(V_CMD) in fixed mode (R44, R45, R46); EN = 0 stops it; MODE selects (R42); RESTART clears
BUS_FAIL (R44); V_CMD is ignored in closed loop, and bounded and sent in fixed mode (R41, R42). -/
def Obligations.VoltageLoop : Prop :=
  (
    (∀ s : State, s.avsLoop = true → s.avs.winOpen = true → s.fld pgAvs Off.avsPERIOD 15 0 ≤ s.avs.winCnt →
      s.esc.ovrInTick = false →
      let m := s.avs.winMin
      let tgt := s.fld pgAvs Off.avsSLACK_TGT 9 0
      let v := s.avsV
      let w := if m < tgt then s.avsBound (v + s.fld pgAvs Off.avsSTEP 15 8 : Nat)
        else if tgt + s.fld pgAvs Off.avsSLACK_HYST 9 0 < m ∧ s.avs.holdoff = 0 then
          s.avsBound ((v : Int) - (s.fld pgAvs Off.avsSTEP 7 0 : Nat))
        else v
      ∃ t, exec .avsWindowEnd s = .next t ∧ t.avs.winCnt = 0
        ∧ (w ≠ v → t.avs.winOpen = false ∧ t.bit pgAvs Off.avsSTAT 3 = true
            ∧ (s.avs.txn = none → t.rg pgAvs Off.avsV_CMD = w
                ∧ t.avs.txn = some (w, s.fld pgAvs Off.avsBUS_CFG 9 8))
            ∧ (s.avs.txn ≠ none → t.avs.queued = some w ∧ t.avs.txn = s.avs.txn))
        ∧ (w = v → t.rg pgAvs Off.avsV_CMD = s.rg pgAvs Off.avsV_CMD ∧ t.avs.winOpen = true))
    ∧ (∀ s : State, s.bit pgAvs Off.avsSTAT 3 = true → s.avs.txn = none →
      ∃ t, exec .avsSettleEnd s = .next t ∧ t.bit pgAvs Off.avsSTAT 3 = false
        ∧ (s.avsLoop = true → s.avs.winAtBoundary = false → t.avs.winOpen = true ∧ t.avs.winCnt = 0))
    ∧ (∀ s : State, s.avs.holdEnd = true →
      ∃ t, exec .avsHoldoffEnd s = .next t ∧ t.avs.holdoff = 0 ∧ t.bit pgAvs Off.avsSTAT 4 = false)
    ∧ (∀ (s : State) (v r rb : Nat), s.avs.txn = some (v, r) → ((v : Int) - rb).natAbs ≤ 10 →
      ∃ t, exec (.avsTransactionDone false rb) s = .next t ∧ t.rg pgAvs Off.avsV_READ = rb % 65536 ∧ t.avs.acked = v
        ∧ (s.avs.queued = none → t.avs.txn = none)
        ∧ (∀ w, s.avs.queued = some w → t.avs.txn = some (s.avsBound w, s.fld pgAvs Off.avsBUS_CFG 9 8)))
    ∧ (∀ (s : State) (v r rb : Nat), s.avs.txn = some (v, r) → 10 < ((v : Int) - rb).natAbs → 0 < r →
      exec (.avsTransactionDone false rb) s
        = .next { s.setRg pgAvs Off.avsV_READ (rb % 65536) with avs := { s.avs with txn := some (v, r - 1) } })
    ∧ (∀ (s : State) (v rb : Nat), s.avs.txn = some (v, 0) →
      ∃ t, exec (.avsTransactionDone true rb) s = .next t ∧ t.bit pgAvs Off.avsSTAT 2 = true ∧ t.avs.txn = none
        ∧ t.rg pgAvs Off.avsFAIL_CNT = min (s.rg pgAvs Off.avsFAIL_CNT + 1) 0xFFFFFFFF)
  )
  ∧ (
    ∀ (s : State) (mid : Nat), s.admits pgAvs Off.avsCTL → s.admits pgAvs Off.avsV_CMD →
      (s.avsEn = false → s.mode = 1 ∨ s.mode = 2 → s.avs.txn = none →
        (s.avsFixed = true ∨ s.bit pgAvs Off.avsSTAT 2 = false) →
        ∃ t, exec (.avsEnable mid) s = .next t ∧ t.avsEn = true ∧ t.avs.started = true
          ∧ t.rg pgAvs Off.avsV_CMD
            = (if s.avsFixed then s.avsBound s.avsCmd else s.avsBound (s.fld pgAvs Off.avsV_START 15 0 : Nat))
          ∧ t.avs.txn = some (t.rg pgAvs Off.avsV_CMD, s.fld pgAvs Off.avsBUS_CFG 9 8))
      ∧ (∃ t, exec (.avsDisable mid) s = .next t ∧ t.avsEn = false ∧ t.avs.started = false
          ∧ t.rg pgAvs Off.avsV_CMD = s.rg pgAvs Off.avsV_CMD ∧ t.avs.txn = s.avs.txn ∧ t.avs.queued = none)
      ∧ (∀ fixed : Bool, ∃ t, exec (.avsModeSet fixed mid) s = .next t ∧ t.avsFixed = fixed
          ∧ t.rg pgAvs Off.avsV_CMD = s.rg pgAvs Off.avsV_CMD)
      ∧ (s.bit pgAvs Off.avsSTAT 2 = true → ∃ t, exec (.avsRestart mid) s = .next t ∧ t.bit pgAvs Off.avsSTAT 2 = false
          ∧ t.rg pgAvs Off.avsV_CMD = s.rg pgAvs Off.avsV_CMD)
      ∧ (∀ v, s.avsFixed = false → exec (.avsVCmdWrite v mid) s = .next s.ok)
      ∧ (∀ v, v < 65536 → s.avsFixed = true → s.avsEn = true → s.avs.started = true →
        ∃ t, exec (.avsVCmdWrite v mid) s = .next t
          ∧ (s.avs.txn = none → t.rg pgAvs Off.avsV_CMD = s.avsBound v
              ∧ t.avs.txn = some (s.avsBound v, s.fld pgAvs Off.avsBUS_CFG 9 8))
          ∧ (s.avs.txn ≠ none → t.avs.queued = some (s.avsBound v) ∧ t.avs.txn = s.avs.txn)))


/-! ## The Bareel engines: instructions -/

/-- The results of the two-operand ALU operations in 32 bits (R110): sums, differences and left shifts clamp with SAT
and wrap without; the logic operations are bitwise; right shifts are arithmetic or logical by the low five bits; MIN
and MAX compare signed. A two-operand ALU instruction that an engine executes puts its result of Da and B into Dd,
unless the write field names Dd; SX advances with SXA; the write field stores and modifies its pointer; accumulators
and latches keep their values (R66, R103, R105, R110). -/
def Obligations.AluStep : Prop :=
  (
    ∀ (a b : Word),
      (aluOp .add false a b.toInt = a + b ∧ aluOp .sub false a b.toInt = a - b)
      ∧ ((aluOp .add true a b.toInt).toInt = max (-(2 : Int) ^ 31) (min (2 ^ 31 - 1) (a.toInt + b.toInt)))
      ∧ ((aluOp .sub true a b.toInt).toInt = max (-(2 : Int) ^ 31) (min (2 ^ 31 - 1) (a.toInt - b.toInt)))
      ∧ (∀ sat, aluOp .and sat a b.toInt = a &&& b ∧ aluOp .or sat a b.toInt = a ||| b ∧ aluOp .xor sat a b.toInt = a ^^^ b)
      ∧ aluOp .shl false a b.toInt = a <<< (b.toNat % 32)
      ∧ ((aluOp .shl true a b.toInt).toInt = max (-(2 : Int) ^ 31) (min (2 ^ 31 - 1) (a.toInt * 2 ^ (b.toNat % 32))))
      ∧ (∀ sat, aluOp .shra sat a b.toInt = a.sshiftRight (b.toNat % 32)
          ∧ aluOp .shrl sat a b.toInt = a >>> (b.toNat % 32))
      ∧ (∀ sat, aluOp .min sat a b.toInt = (if a.toInt ≤ b.toInt then a else b)
          ∧ aluOp .max sat a b.toInt = (if b.toInt ≤ a.toInt then a else b))
  )
  ∧ (
    ∀ (s : State) (nn : Fin 32) (o : Alu2) (h : Hd) (dd da : Fin 16) (b : OpB) (sxa : Bool) (wf : WrF),
      s.atInstr nn (.alu2 o h dd da b sxa wf) →
      ∃ t, exec (o.cmd nn) s = .next t ∧ s.steppedTo t nn (s.storeOf nn h wf)
        ∧ (∀ j, (t.engine nn).rd j = (s.engine nn).dAfter h wf
            (some (dd.val, aluOp o h.sat ((s.engine nn).rd da) ((s.engine nn).opB b))) j)
        ∧ (t.engine nn).sx = (if sxa then ((s.engine nn).sx + 1) % s.T else (s.engine nn).sx)
        ∧ (t.engine nn).acc = (s.engine nn).acc ∧ (t.engine nn).x0 = (s.engine nn).x0
        ∧ (t.engine nn).y0 = (s.engine nn).y0 ∧ (s.engine nn).moved (t.engine nn) [(s.engine nn).wrMod wf])

/-- ABS, NEG, CMP and SEL: the absolute value and the negative clamp with SAT and wrap without (R110); CMP writes all
ones or zero by its condition, and SEL takes Da or Db by its test of Dc (R111). The write field modifies its pointer
(R66). -/
def Obligations.AbsNegCmpSel : Prop :=
  (∀ (s : State) (nn : Fin 32) (h : Hd) (dd da : Fin 16) (sxa : Bool) (wf : WrF), s.atInstr nn (.absI h dd da sxa wf) →
    ∃ t, exec (.abs nn []) s = .next t ∧ s.steppedTo t nn (s.storeOf nn h wf)
      ∧ (∀ j, (t.engine nn).rd j = (s.engine nn).dAfter h wf
          (some (dd.val, alu32 h.sat ((s.engine nn).rd da).toInt.natAbs)) j) ∧ (t.engine nn).acc = (s.engine nn).acc
      ∧ (s.engine nn).moved (t.engine nn) [(s.engine nn).wrMod wf])
  ∧ (∀ (s : State) (nn : Fin 32) (h : Hd) (dd da : Fin 16) (sxa : Bool) (wf : WrF), s.atInstr nn (.negI h dd da sxa wf) →
    ∃ t, exec (.neg nn []) s = .next t ∧ s.steppedTo t nn (s.storeOf nn h wf)
      ∧ (∀ j, (t.engine nn).rd j = (s.engine nn).dAfter h wf
          (some (dd.val, alu32 h.sat (-((s.engine nn).rd da).toInt))) j) ∧ (t.engine nn).acc = (s.engine nn).acc
      ∧ (s.engine nn).moved (t.engine nn) [(s.engine nn).wrMod wf])
  ∧ (∀ (s : State) (nn : Fin 32) (h : Hd) (dd da : Fin 16) (b : OpB) (c : Fin 8) (sxa : Bool) (wf : WrF),
    s.atInstr nn (.cmp h dd da b c sxa wf) →
    let x := (s.engine nn).rd da
    let y : Word := BitVec.ofInt 32 ((s.engine nn).opB b)
    let hit : Bool := match c.val with
      | 0 => x == y | 1 => x != y | 2 => x.slt y | 3 => x.sle y | 4 => y.slt x | 5 => y.sle x | 6 => x.ult y
      | _ => y.ule x
    ∃ t, exec (.cmp nn []) s = .next t ∧ s.steppedTo t nn (s.storeOf nn h wf)
      ∧ (∀ j, (t.engine nn).rd j = (s.engine nn).dAfter h wf (some (dd.val, if hit then 0xFFFFFFFF else 0)) j)
      ∧ (t.engine nn).acc = (s.engine nn).acc ∧ (s.engine nn).moved (t.engine nn) [(s.engine nn).wrMod wf])
  ∧ (∀ (s : State) (nn : Fin 32) (h : Hd) (dd da db dc : Fin 16) (c : Fin 6) (sxa : Bool) (wf : WrF),
    s.atInstr nn (.sel h dd da db dc c sxa wf) →
    let x := ((s.engine nn).rd dc).toInt
    let hit : Prop := match c.val with
      | 0 => x < 0 | 1 => 0 ≤ x | 2 => x = 0 | 3 => x ≠ 0 | 4 => 0 < x | _ => x ≤ 0
    ∃ t, exec (.sel nn []) s = .next t ∧ s.steppedTo t nn (s.storeOf nn h wf)
      ∧ (hit → ∀ j, (t.engine nn).rd j = (s.engine nn).dAfter h wf (some (dd.val, (s.engine nn).rd da)) j)
      ∧ (¬ hit → ∀ j, (t.engine nn).rd j = (s.engine nn).dAfter h wf (some (dd.val, (s.engine nn).rd db)) j)
      ∧ (t.engine nn).acc = (s.engine nn).acc ∧ (s.engine nn).moved (t.engine nn) [(s.engine nn).wrMod wf])

/-- A multiplier instruction adds its sums of products of the latches, loaded by this step, to accumulators A, A + 1,
..., or replaces them with REPL, negated with NEG, each result fitted to 80 bits once (R59 to R61, R106); the other
accumulators keep their values. The pointers are modified in the order X read, Y read, write (R57). wrapadd: without
a wrap length modulo 131,072; with one of W the offset from the next lower multiple of the power of two at or above W
is taken modulo W (R66). A pair read takes its second word at wrapadd(a, 1) (R67), and an indexed read one word at
wrapadd(P, D >> sh) (R68), where no addressing fault, transfer or error mark stands against the words. The word
stored of an accumulator A with shift s: x = A x 2^(s - 31) is rounded to q, by floor, half up or to the nearest with
ties to even; a q of 32 bits is the word, another saturates with SAT and wraps without (R62). MOV with such a write
sets STORE_SAT or STORE_WRAP. -/
def Obligations.MultiplierStep : Prop :=
  (
    ∀ (s : State) (nn : Fin 32) (m : MacMode) (h : Hd) (x : MacOpx) (p : PFields), s.atInstr nn (.mac m h x p) →
      let e := s.engine nn
      let e1 := s.latched nn p
      let vs := m.sums e1.prods
      ∃ t, exec (m.cmd nn) s = .next t ∧ s.steppedTo t nn (s.storeOf nn h p.wf)
        ∧ (∀ j, (t.engine nn).accV j = (if x.a.val ≤ j ∧ j < x.a.val + vs.length then
            (fitAcc ((if x.repl then 0 else e.accV j)
              + (if x.neg then -(vs.getD (j - x.a.val) 0) else vs.getD (j - x.a.val) 0)) h.sat).1
            else e.accV j))
        ∧ (t.engine nn).x0 = e1.x0 ∧ (t.engine nn).x1 = e1.x1 ∧ (t.engine nn).y0 = e1.y0 ∧ (t.engine nn).y1 = e1.y1
        ∧ (∀ j, (t.engine nn).rd j = e.dAfter h p.wf none j)
        ∧ (t.engine nn).sx = (if p.sxa then (e.sx + 1) % s.T else e.sx)
        ∧ e.moved (t.engine nn) [e.rdMod p.xf, e.rdMod p.yf, e.wrMod p.wf]
  )
  ∧ (
    (∀ (p : Nat) (d : Int), (wrapadd 0 p d : Int) = (p + d) % 131072)
    ∧ (∀ (w p m : Nat) (d : Int), 0 < w → w ≤ 2 ^ m → (∀ j, j < m → 2 ^ j < w) → m ≤ 14 →
      (wrapadd w p d : Int) = (p / 2 ^ m * 2 ^ m : Nat) + (((p % 2 ^ m : Nat) : Int) + d) % (w : Int))
    ∧ (∀ (s : State) (nn : Nat) (isX : Bool) (k : Fin 8) (md : PMod) (ix : Fin 16) (sh : Fin 16),
      let e := s.engine nn
      let mine := if isX then EMem.xm else EMem.ym
      let free (a : Nat) : Prop := emem a = mine ∧ e.busy (s.redirect nn a) = false ∧ s.eccAt 4 (winAddr nn (s.redirect nn a)) = 0
      let b := wrapadd (e.wrap k) (e.ptr k) 1
      let c := wrapadd (e.wrap k) (e.ptr k) ((e.rd ix).toInt / 2 ^ sh.val)
      (free (e.ptr k) → free b → (s.busRead nn e isX (.pair k md)).l0 = some (e.word (s.redirect nn (e.ptr k)))
        ∧ (s.busRead nn e isX (.pair k md)).l1 = some (e.word (s.redirect nn b)))
      ∧ (free c → (s.busRead nn e isX (.idx k ix sh)).l0 = some (e.word (s.redirect nn c))
        ∧ (s.busRead nn e isX (.idx k ix sh)).l1 = none ∧ (s.busRead nn e isX (.idx k ix sh)).md = none))
  )
  ∧ (
    (∀ (a : Int) (sh : Nat) (h : Hd), sh < 32 →
      let k := if sh < 16 then 31 - sh else 63 - sh
      ∃ q : Int,
        (match h.rnd with
          | .trunc => q * 2 ^ k ≤ a ∧ a < (q + 1) * 2 ^ k
          | .halfUp => 2 * q * 2 ^ k ≤ 2 * a + 2 ^ k ∧ 2 * a + 2 ^ k < 2 * (q + 1) * 2 ^ k
          | .conv => (2 * (a - q * 2 ^ k)).natAbs ≤ 2 ^ k ∧ ((2 * (a - q * 2 ^ k)).natAbs = 2 ^ k → q % 2 = 0))
        ∧ (storeAcc a sh h).1 = (if -(2 : Int) ^ 31 ≤ q ∧ q < 2 ^ 31 ∨ h.sat = false then BitVec.ofInt 32 q
            else if q < 0 then 0x80000000 else 0x7FFFFFFF))
    ∧ (∀ (s : State) (nn : Fin 32) (h : Hd) (dd : Fin 16) (a : Fin 8) (sh : Fin 32) (p : PFields),
      s.atInstr nn (.mov h { p with wf := .on (.dreg dd) (.acc a sh) }) → p.xf = .off → p.yf = .off →
      let x := (s.engine nn).accV a
      ∃ t, exec (.mov nn []) s = .next t ∧ (t.engine nn).rd dd = (storeAcc x sh h).1
        ∧ ((storeAcc x sh h).2 = [] → t.rg (pgEng + nn) Off.engSTAT = s.rg (pgEng + nn) Off.engSTAT)
        ∧ ((storeAcc x sh h).2 ≠ [] → t.bit (pgEng + nn) Off.engSTAT (if h.sat then 2 else 3) = true)))

/-- MOV moves through the buses alone; ACC.LD loads an accumulator with a latch at the accumulator's scale; ACC.ADD
adds it; ACC.MOV copies an accumulator, negated or not; ACC.SH shifts it: left fitted, right by floor (R58, R107 to
R109). -/
def Obligations.AccumulatorStep : Prop :=
  ∀ (s : State) (nn : Fin 32) (h : Hd) (p : PFields),
    let e := s.engine nn
    let e1 := s.latched nn p
    let done (c : Instr) (a : Nat) (v : Int) : Prop :=
      ∃ t, exec c s = .next t ∧ s.steppedTo t nn (s.storeOf nn h p.wf)
        ∧ (∀ j, (t.engine nn).accV j = (if j = a then v else e.accV j))
        ∧ (t.engine nn).x0 = e1.x0 ∧ (t.engine nn).y0 = e1.y0 ∧ (∀ j, (t.engine nn).rd j = e.dAfter h p.wf none j)
        ∧ e.moved (t.engine nn) [e.rdMod p.xf, e.rdMod p.yf, e.wrMod p.wf]
    (s.atInstr nn (.mov h p) → done (.mov nn []) 0 (e.accV 0))
    ∧ (∀ (neg : Bool) (a : Fin 8) (ls : Bool), s.atInstr nn (.accLd h neg a ls p) →
        done (.accLd nn []) a ((if neg then -1 else 1) * (if ls then e1.y0.toInt else e1.x0.toInt) * 2 ^ 31))
    ∧ (∀ (neg : Bool) (a : Fin 8) (ls : Bool), s.atInstr nn (.accAdd h neg a ls p) →
        done (.accAdd nn []) a
          (fitAcc (e.accV a + (if neg then -1 else 1) * (if ls then e1.y0.toInt else e1.x0.toInt) * 2 ^ 31) h.sat).1)
    ∧ (∀ (a b : Fin 8) (neg : Bool), s.atInstr nn (.accMov h a b neg p) →
        done (.accMov nn []) a (fitAcc (if neg then -(e.accV b) else e.accV b) h.sat).1)
    ∧ (∀ (a : Fin 8) (sh : Fin 32), s.atInstr nn (.accSh h a sh p) →
        done (.accSh nn []) a (if sh.val < 16 then (fitAcc (e.accV a * 2 ^ sh.val) h.sat).1
          else (e.accV a) / 2 ^ (32 - sh.val)))

/-- The other plain instructions change exactly what they name (R112 to R114): NOP nothing; LDI a D register; SETPTR
the pointer, offset and wrap length it marks; GRAMP stages a ramp start, replacing an earlier one of its unit; MOVX
moves a D register to a pointer, offset, wrap length or SX, or back. -/
def Obligations.PlainInstructions : Prop :=
  ∀ (s : State) (nn : Fin 32) (h : Hd),
    let e := s.engine nn
    (s.atInstr nn (.nop h) → exec (.nop nn []) s = .next (s.setEngine nn e.advance))
    ∧ (∀ (dd : Fin 16) (imm : Fin 4294967296), s.atInstr nn (.ldi h dd imm) →
        exec (.ldi nn []) s = .next (s.setEngine nn (e.setD dd (w32 imm.val)).advance))
    ∧ (∀ (k : Fin 8) (pv nv : Fin 131072) (wv : Fin 32768) (mp mn mw : Bool), s.atInstr nn (.setptr h k pv nv wv mp mn mw) →
        ∃ t, exec (.setptr nn []) s = .next t ∧ s.steppedTo t nn none
          ∧ (t.engine nn).ptr k = (if mp then pv.val else e.ptr k)
          ∧ (t.engine nn).ofs k = (if mn then toSigned 17 nv.val else e.ofs k)
          ∧ (t.engine nn).wrap k = (if mw then min wv.val 16384 else e.wrap k)
          ∧ (t.engine nn).d = e.d ∧ (t.engine nn).acc = e.acc)
    ∧ (∀ (k : Fin 8) (dt : Fin 16) (cnt : Fin 16777216), s.atInstr nn (.grampI h k dt cnt) →
        exec (.gramp nn []) s = .next (s.setEngine nn
          { e with gramps := e.gramps.filter (fun (g : Nat × Int × Nat) => g.1 != k.val)
              ++ [(k.val, (e.rd dt).toInt, cnt.val)] }.advance))
    ∧ (∀ (k : Fin 8) (dt dc : Fin 16), s.atInstr nn (.grampR h k dt dc) →
        exec (.gramp nn []) s = .next (s.setEngine nn
          { e with gramps := e.gramps.filter (fun (g : Nat × Int × Nat) => g.1 != k.val)
              ++ [(k.val, (e.rd dt).toInt, (e.rd dc).toNat % 2 ^ 24)] }.advance))
    ∧ (∀ (dd : Fin 16) (x : XReg) (sxa : Bool) (wf : WrF), s.atInstr nn (.movxFrom h dd x sxa wf) →
        ∃ t, exec (.movx nn []) s = .next t ∧ s.steppedTo t nn (s.storeOf nn h wf)
          ∧ ∀ j, (t.engine nn).rd j = e.dAfter h wf (some (dd.val, e.xget x)) j)
    ∧ (∀ (da : Fin 16) (x : XReg) (sxa : Bool) (wf : WrF), s.atInstr nn (.movxTo h da x sxa wf) →
        ∃ t, exec (.movx nn []) s = .next t ∧ s.steppedTo t nn (s.storeOf nn h wf)
          ∧ (t.engine nn).xget x = (match x with
            | .p _ => w32 ((e.rd da).toNat % 131072)
            | .n _ => BitVec.ofInt 32 (toSigned 17 (e.rd da).toNat)
            | .w _ => w32 (min ((e.rd da).toNat % 32768) 16384)
            | .sx => w32 ((e.rd da).toNat % s.T))
          ∧ ∀ j, (t.engine nn).rd j = e.dAfter h wf none j)

/-- REP opens a loop of its body (R115); a fifth, or one whose body leaves PM or the body around it, is a loop fault:
FAULT with LOOP_ERR and FATAL (R70, R121). An END_BEAT outside a loop ends the beat; it waits while a transfer due in
the beat is outstanding, and inside a loop it is a loop fault (R116, R121). A word that is no instruction stops the
engine in FAULT, with FATAL and ILLEGAL in STAT (R119, R120). The last END_BEAT of a tick ends it for the engine:
STEPS_LAST shows its steps (R54), and every ramp unit advances by min(T, GC) samples; one whose count runs out stands
at its target with step 0 (R72). A ramp start that waits then begins from the value reached: GS is the difference
over the count, rounded towards zero, and a count of 0 sets the value (R73, R74, R114). A ramp operand reads GT at
its end and else GV + (SX + 1) GS (R71). -/
def Obligations.LoopBeatAndIllegal : Prop :=
  (
    (∀ (s : State) (nn : Fin 32) (h : Hd) (len : Fin 4096) (cnt : Fin 65536), s.atInstr nn (.rep h len cnt) →
      (s.engine nn).loops.length < 4 → (s.engine nn).pc + len.val + 1 < 12288 →
      (∀ l, (s.engine nn).loops.head? = some l → (s.engine nn).pc + len.val + 1 ≤ l.fin) →
      exec (.rep nn []) s = .next (s.setEngine nn { s.engine nn with
        loops := ⟨(s.engine nn).pc + 1, (s.engine nn).pc + len.val + 1, cnt.val + 1⟩ :: (s.engine nn).loops
        pc := (s.engine nn).pc + 1, steps := (s.engine nn).steps + 1 }))
    ∧ (∀ (s : State) (nn : Fin 32) (h : Hd) (be : BeatEnd), s.atInstr nn (.endBeat h) → (s.engine nn).loops = [] →
      (∀ m ∈ (s.engine nn).mp, m.due = (s.engine nn).ended + 1 → m.done = true) → (s.engine nn).ended + 1 < s.beatsN →
      ∃ t, exec (.endBeat nn [] be) s = .next t ∧ (t.engine nn).ended = (s.engine nn).ended + 1
        ∧ (t.engine nn).pc = (s.engine nn).pc + 1 ∧ (t.engine nn).steps = (s.engine nn).steps + 1
        ∧ (t.engine nn).mp = (s.engine nn).mp.filter (fun m => m.due != (s.engine nn).ended + 1)
        ∧ t.mem = s.mem ∧ ∀ m, m ≠ nn.val → t.engine m = s.engine m)
    ∧ (∀ (s : State) (nn : Fin 32) (h : Hd) (be : BeatEnd), s.atInstr nn (.endBeat h) → (s.engine nn).loops = [] →
      (∃ m ∈ (s.engine nn).mp, m.due = (s.engine nn).ended + 1 ∧ m.done = false) →
      exec (.endBeat nn [] be) s = .next (s.setEngine nn { s.engine nn with
        pc := (s.engine nn).pc + 1, steps := (s.engine nn).steps + 1, waiting := true }))
    ∧ (∀ (s : State) (nn : Fin 32) (c : Instr), (s.engine nn).st ≠ .fault →
      (∃ (h : Hd) (len : Fin 4096) (cnt : Fin 65536), c = .rep nn [] ∧ s.atInstr nn (.rep h len cnt)
          ∧ (4 ≤ (s.engine nn).loops.length ∨ 12288 ≤ (s.engine nn).pc + len.val + 1
            ∨ ∃ l, (s.engine nn).loops.head? = some l ∧ l.fin < (s.engine nn).pc + len.val + 1))
        ∨ (∃ (h : Hd) (be : BeatEnd), c = .endBeat nn [] be ∧ s.atInstr nn (.endBeat h) ∧ (s.engine nn).loops ≠ []) →
      ∃ t, exec c s = .next t ∧ (t.engine nn).st = .fault ∧ t.bit (pgEng + nn) Off.engSTAT 9 = true
        ∧ t.bit (pgEng + nn) Off.engSTAT 13 = true ∧ (t.engine nn).loops = (s.engine nn).loops
        ∧ (t.engine nn).pc = (s.engine nn).pc ∧ ∀ m, m ≠ nn.val → t.engine m = s.engine m)
    ∧ (∀ (s : State) (nn : Fin 32), s.canStep (s.engine nn) = true → (s.engine nn).pc < 12288 → s.fetchMark nn = 0 →
      decEng ((s.engine nn).instr (s.engine nn).pc) = none →
      ∃ t, exec (.illegalInstruction nn []) s = .next t ∧ (t.engine nn).st = .fault
        ∧ t.bit (pgEng + nn) Off.engSTAT 10 = true ∧ t.bit (pgEng + nn) Off.engSTAT 13 = true
        ∧ (t.engine nn).d = (s.engine nn).d ∧ (t.engine nn).acc = (s.engine nn).acc
        ∧ ∀ m, m ≠ nn.val → t.engine m = s.engine m)
  )
  ∧ (
    (∀ (s : State) (nn : Fin 32) (h : Hd) (be : BeatEnd), s.atInstr nn (.endBeat h) → (s.engine nn).loops = [] →
      (∀ m ∈ (s.engine nn).mp, m.due = (s.engine nn).ended + 1 → m.done = true) → (s.engine nn).ended + 1 = s.beatsN →
      let e := s.engine nn
      let v (k : Nat) : Int := if e.gainC k ≤ s.T then e.gainT k else e.gainV k + s.T * e.gainS k
      ∃ t, exec (.endBeat nn [] be) s = .next t ∧ (t.engine nn).ended = s.beatsN
        ∧ t.rg (pgEng + nn) Off.engSTEPS_LAST = (e.steps + 1) % 2 ^ 32
        ∧ (∀ k, k < 8 → (∀ g ∈ e.gramps, g.1 ≠ k) → (t.engine nn).gainV k = v k ∧ (t.engine nn).gainT k = e.gainT k
            ∧ (t.engine nn).gainS k = (if e.gainC k ≤ s.T then 0 else e.gainS k)
            ∧ (t.engine nn).gainC k = e.gainC k - s.T)
        ∧ (∀ (k c : Nat) (x : Int), k < 8 → e.gramps = [(k, x, c)] → (t.engine nn).gainT k = x ∧ (t.engine nn).gainC k = c
            ∧ (t.engine nn).gainV k = (if c = 0 then x else v k)
            ∧ (t.engine nn).gainS k = (if c = 0 then 0 else (x - v k).tdiv c))
        ∧ (t.engine nn).gramps = [])
    ∧ (∀ (s : State) (nn : Nat) (isX l : Bool) (g : Fin 8),
      let e := s.engine nn
      let v : Word := BitVec.ofInt 32 (if e.gainC g = 0 ∨ e.gainC g ≤ e.sx + 1 then e.gainT g
        else e.gainV g + ((e.sx : Int) + 1) * e.gainS g)
      s.busRead nn e isX (.ramp g l) = (if l then { l1 := some v } else { l0 := some v })))


/-! ## The Bareel engines: memory port, windows and page -/

/-- A post that no check refuses enters the queue with the external address of each word, the engine address of each
local word, its due beat and the QoS of its slot; the pointer alone is modified (R79, R82, R117). A refused post
queues nothing and sets MP_ERR (R85, R86). -/
def Obligations.MemoryPortPosts : Prop :=
  ∀ (s : State) (nn : Fin 32) (h : Hd) (m : MpPost) (wr : Bool),
    s.atInstr nn (if wr then .mpw h m else .mpr h m) →
    let e := s.engine nn
    let c : Instr := if wr then .mpw nn [] else .mpr nn []
    let o := (e.rd m.dO).toNat % 2 ^ 24
    (s.postRefused nn e wr m = false →
      ∃ t, exec c s = .next t ∧ s.steppedTo t nn none ∧ (t.engine nn).d = e.d
        ∧ (t.engine nn).mp = e.mp ++ [{
            wr := wr
            ext := (List.range (m.len.val + 1)).map (fun i => s.slotWord nn m.slot.val m.ring.val (o + i))
            loc := (List.range (m.len.val + 1)).map (fun i => s.redirect nn (e.ptr m.k + i))
            due := if m.due.val < e.ended + 1 ∨ s.beatsN < m.due.val then s.beatsN else m.due.val
            qos := 12 + s.fld (pgEng + nn) (Off.engMB + 16 * m.slot.val + 4) 25 24
            done := false }])
    ∧ (s.postRefused nn e wr m = true →
      ∃ t, exec c s = .next t ∧ s.steppedTo t nn none ∧ (t.engine nn).mp = e.mp
        ∧ t.bit (pgEng + nn) Off.engSTAT 6 = true)

/-- The completion of a transfer marks its entry done and raises MP_CNT by one up to its limit (R83, R94). A one-word
read of the shared store puts the external word into the engine's memory, and a one-word write puts the local word
into the store, least significant byte first; neither changes another byte or another word. A transfer that a locked
sequence or DRC holds (R368, R372, R375, R382; State.mpHeld) is not yet complete. -/
def Obligations.MemoryPortTransfer : Prop :=
  (∀ (s : State) (nn : Fin 32) (i : Nat) (m : MpEntry) (be : BeatEnd), (s.engine nn).mp[i]? = some m →
    mpMayFinish (s.engine nn).mp i = true → s.mpHeld nn i = false → (s.engine nn).waiting = false →
    ∃ t, exec (.mpTransferDone nn i [] be) s = .next t
      ∧ (t.engine nn).mp = (s.engine nn).mp.set i { m with done := true }
      ∧ t.rg (pgEng + nn) Off.engMP_CNT = min (s.rg (pgEng + nn) Off.engMP_CNT + 1) 0xFFFFFFFF)
  ∧ (∀ (s : State) (nn : Fin 32) (i a b due q : Nat) (wr : Bool) (be : BeatEnd),
    (s.engine nn).mp[i]? = some { wr := wr, ext := [a], loc := [b], due := due, qos := q, done := false } →
    mpMayFinish (s.engine nn).mp i = true → s.mpHeld nn i = false → (s.engine nn).waiting = false →
    (s.engine nn).st = .running → s.ecc = [] → s.mode ≠ 4 → 0x10000000 ≤ a → a + 4 ≤ 0x11000000 →
    ∃ t, exec (.mpTransferDone nn i [] be) s = .next t
      ∧ (wr = false → (t.engine nn).word b = w32 (s.le a 4) ∧ t.mem = s.mem
          ∧ ∀ c, c ≠ b → (t.engine nn).word c = (s.engine nn).word c)
      ∧ (wr = true → t.le a 4 = ((s.engine nn).word b).toNat ∧ (t.engine nn).dm = (s.engine nn).dm
          ∧ ∀ c, c < a ∨ a + 4 ≤ c → t.byte c = s.byte c))

/-- A window write that the rules admit (State.winAct: R14, R78, R143) stores an aligned word, or the two words of an
aligned doubleword, in XM, YM, IB or OB at the byte offset that R64 gives each; one held for a hoist changes no
engine and has no response yet (R143, R387); a refused one gets an error response and changes neither memory nor
engine (R92). PM of a stopped engine takes a doubleword, or a low half that waits in the latch and a high half that
writes the instruction with it (R93, R129); a write to PM of an engine of the signal plane is refused (R14, R92). In
QUIET the retained memories answer, where the quadrant is not OFF (log entry 86). Writing CTL_NX arms a STOPPED or
FAULT engine, and disarms an ARMED one to the state it was armed from while no REGS request holds the value (R52);
MP_WAIT_MAX is cleared by a write of 0 and ignores other values (R94). -/
def Obligations.EngineAccesses : Prop :=
  (
    ∀ (s : State) (nn : Fin 32) (bs : List Byte) (mid : Nat), s.pwr.released = true → s.clear = true →
      s.mode ≠ 4 →
      (s.engine nn).st ≠ .off →
      (∀ a, a < 0xC000 →
        let o := if a < 0x4000 then 0x40000 + 4 * a else if a < 0x8000 then 0x60000 + 4 * (a - 0x4000)
          else if a < 0xA000 then 0x80000 + 4 * (a - 0x8000) else 0xA0000 + 4 * (a - 0xA000)
        (bs.length = 4 → s.winAct nn a = .apply →
          ∃ t, exec (.engineWindowWrite nn o bs mid) s = .next t ∧ t.resp = { err := false, data := [] }
            ∧ (t.engine nn).word a = w32 (ofLE bs) ∧ (∀ b, b ≠ a → (t.engine nn).word b = (s.engine nn).word b)
            ∧ t.regs = s.regs ∧ t.mem = s.mem ∧ ∀ m, m ≠ nn.val → t.engine m = s.engine m)
        ∧ (bs.length = 8 → a % 2 = 0 → s.winAct nn a = .apply → s.winAct nn (a + 1) = .apply →
          ∃ t, exec (.engineWindowWrite nn o bs mid) s = .next t ∧ t.resp = { err := false, data := [] }
            ∧ (t.engine nn).word a = w32 (ofLE (bs.take 4)) ∧ (t.engine nn).word (a + 1) = w32 (ofLE (bs.drop 4))
            ∧ (∀ b, b ≠ a → b ≠ a + 1 → (t.engine nn).word b = (s.engine nn).word b)
            ∧ t.regs = s.regs ∧ t.mem = s.mem ∧ ∀ m, m ≠ nn.val → t.engine m = s.engine m)
        ∧ (bs.length = 4 → ∀ g k, s.winAct nn a = .hold g k →
          ∃ t, exec (.engineWindowWrite nn o bs mid) s = .next t ∧ t.resp.waits = true ∧ t.eng = s.eng
            ∧ t.regs = s.regs ∧ t.mem = s.mem
            ∧ ∃ h, t.sched.held = s.sched.held ++ [h] ∧ h.nn = nn.val ∧ h.g = g ∧ h.o = k ∧ h.v = w32 (ofLE bs))
        ∧ (bs.length = 4 → s.winAct nn a = .refuse →
          ∃ t, exec (.engineWindowWrite nn o bs mid) s = .next t ∧ t.resp = { err := true, data := [] }
            ∧ t.eng = s.eng ∧ t.mem = s.mem))
      ∧ (∀ i, i < 12288 → bs.length = 4 → (s.engine nn).st.isStopped = true →
        (∃ t, exec (.engineWindowWrite nn (8 * i) bs mid) s = .next t ∧ t.resp = { err := false, data := [] }
          ∧ (t.engine nn).pmLatch = some (i, ofLE bs) ∧ (t.engine nn).pm = (s.engine nn).pm
          ∧ t.regs = s.regs ∧ t.mem = s.mem)
        ∧ (∀ low, (s.engine nn).pmLatch = some (i, low) →
          ∃ t, exec (.engineWindowWrite nn (8 * i + 4) bs mid) s = .next t ∧ t.resp = { err := false, data := [] }
            ∧ (t.engine nn).instr i = low + 2 ^ 32 * ofLE bs ∧ (t.engine nn).pmLatch = none
            ∧ (∀ j, j ≠ i → (t.engine nn).instr j = (s.engine nn).instr j) ∧ t.regs = s.regs ∧ t.mem = s.mem))
      ∧ (∀ i, i < 12288 → bs.length = 8 → (s.engine nn).st.isStopped = true →
        ∃ t, exec (.engineWindowWrite nn (8 * i) bs mid) s = .next t ∧ t.resp = { err := false, data := [] }
          ∧ (t.engine nn).instr i = ofLE bs ∧ (∀ j, j ≠ i → (t.engine nn).instr j = (s.engine nn).instr j)
          ∧ t.regs = s.regs ∧ t.mem = s.mem ∧ ∀ m, m ≠ nn.val → t.engine m = s.engine m)
      ∧ (∀ i, i < 12288 → bs.length = 8 → (s.engine nn).st.inPlane = true →
        ∃ t, exec (.engineWindowWrite nn (8 * i) bs mid) s = .next t ∧ t.resp = { err := true, data := [] }
          ∧ t.eng = s.eng ∧ t.mem = s.mem)
  )
  ∧ (
    ∀ (s : State) (nn : Fin 32) (mid : Nat),
      (s.admits (pgEng + nn) Off.engCTL_NX →
        ((s.engine nn).st = .stopped ∨ (s.engine nn).st = .fault →
          exec (.engineArm nn mid) s = .next ((s.ok.setRg (pgEng + nn) Off.engCTL_NX 1).setEngine nn
            { s.engine nn with st := .armed, fromFault := (s.engine nn).st == .fault }))
        ∧ ((s.engine nn).st = .armed → s.hoistBit 2 = false →
          ∃ t, exec (.engineDisarm nn mid) s = .next t ∧ t.rg (pgEng + nn) Off.engCTL_NX = 0
            ∧ (t.engine nn).st = (if (s.engine nn).fromFault then .fault else .stopped) ∧ t.mem = s.mem))
      ∧ (s.admits (pgEng + nn) Off.engMP_WAIT_MAX →
        exec (.mpWaitMaxClear nn 0 mid) s = .next (s.ok.setRg (pgEng + nn) Off.engMP_WAIT_MAX 0)
        ∧ ∀ v, 0 < v → v < 2 ^ 32 → exec (.mpWaitMaxClear nn v mid) s = .next s.ok))


/-! ## Schedules -/

/-- LOAD.GO starts a load of the named source and invalidates bank B, and is refused with code 1 while a load runs or
a SWAP is pending (R129, R131); ABORT ends a running load as REFUSED with code 19, and otherwise changes nothing;
INVAL_B empties bank B where no load runs and no SWAP is pending (R146). A write of RATE with a reserved code, or
while an engine is armed or in the signal plane, is refused: it completes with a normal response and leaves RATE; any
other write takes effect (R146, R499). -/
def Obligations.LoaderAndRateWrites : Prop :=
  (
    ∀ (s : State) (mid : Nat), s.admits pgSched Off.schedLOAD → s.admits pgSched Off.schedCTL →
      (s.loading = false → s.hoistBit 0 = false →
        ∃ t, exec (.loadGo mid) s = .next t ∧ t.loadState = 1 ∧ t.sched.b.valid = false
          ∧ t.sched.src = s.rg pgSched Off.schedSRC_LO + 2 ^ 32 * s.fld pgSched Off.schedSRC_HI 7 0
          ∧ t.sched.srcLen = s.rg pgSched Off.schedSRC_LEN ∧ t.mem = s.mem ∧ t.eng = s.eng)
      ∧ ((s.loading = true ∨ s.hoistBit 0 = true) →
        ∃ t, exec (.loadGo mid) s = .next t ∧ t.rg pgSched Off.schedLOAD_CODE = 1 ∧ t.loadState = s.loadState
          ∧ t.sched = s.sched ∧ t.mem = s.mem ∧ t.eng = s.eng)
      ∧ (s.loading = true →
        ∃ t, exec (.loadAbort mid) s = .next t ∧ t.loadState = 5 ∧ t.rg pgSched Off.schedLOAD_CODE = 19
          ∧ t.sched.b.valid = false ∧ t.mem = s.mem ∧ t.eng = s.eng)
      ∧ (s.loading = false → exec (.loadAbort mid) s = .next s.ok)
      ∧ (s.loading = false → s.hoistBit 0 = false →
        ∃ t, exec (.invalB mid) s = .next t ∧ t.loadState = 0 ∧ t.sched.b.valid = false
          ∧ t.bit pgRtr Off.rtrSTAT 2 = false ∧ t.mem = s.mem ∧ t.eng = s.eng)
  )
  ∧ (
    ∀ (s : State) (v mid : Nat), s.admits pgSched Off.schedRATE → v < 64 →
      ((6 ≤ bitsN v 2 0 ∨ 6 ≤ bitsN v 5 3 ∨ s.anyActive = true) →
        ∃ t, exec (.schedRateWrite v mid) s = .next t ∧ t.rg pgSched Off.schedRATE = s.rg pgSched Off.schedRATE
          ∧ t.resp = { err := false, data := [] } ∧ t.mem = s.mem ∧ t.eng = s.eng)
      ∧ (bitsN v 2 0 < 6 → bitsN v 5 3 < 6 → s.anyActive = false →
        ∃ t, exec (.schedRateWrite v mid) s = .next t ∧ t.rg pgSched Off.schedRATE = v
          ∧ t.resp = { err := false, data := [] } ∧ t.mem = s.mem ∧ t.eng = s.eng))

/-- The progress of a load (R129 to R131). That LOAD_PASS1_DONE comes twice, its first coming ending PASS1 in VERIFY
and its second ending the checks, is log entry 49. A source that pass 1 has read is verified; one whose checks all
pass goes on to pass 2 and nothing of it is written yet, another ends the load as REFUSED with its code; a section of
pass 2 whose CRC agrees is followed by the next one, and one whose CRC differs ends the load with code 18; the end of
pass 2 makes bank B VALID; a read that fails ends the load with code 2, in pass 2 with its section. -/
def Obligations.LoaderProgress : Prop :=
  (∀ (s : State) (hd im : List Byte), s.loadState = 1 →
    s.readSource 0 (min s.sched.srcLen 0x80) = (some hd, s) →
    s.readSource 0 (min (min (leAt hd 0x10 4) s.sched.srcLen) 0x4000000) = (some im, s) →
    ∃ t, exec (.loadPass1Done []) s = .next t ∧ t.loadState = 2 ∧ t.sched = { s.sched with img := im }
      ∧ t.mem = s.mem ∧ t.eng = s.eng)
  ∧ (∀ s : State, s.loadState = 2 →
    let m := parseImage s.sched.img
    let bad := (s.checkImage m s.sched.srcLen).orElse (fun _ => (s.checkClaim m).1)
    ∃ t, exec (.loadPass1Done []) s = .next t ∧ t.mem = s.mem ∧ t.eng = s.eng
      ∧ t.loadState = (if bad = none then 3 else 5)
      ∧ (∀ f, bad = some f → t.fld pgSched Off.schedLOAD_CODE 7 0 = f.code % 256 ∧ t.sched.b.valid = false)
      ∧ (bad = none → t.sched.b.id = m.h.id ∧ t.sched.dir = m.dir ∧ t.sched.sec = 0))
  ∧ (∀ (s : State) (x : Sect) (d : List Byte), s.loadState = 3 → s.sched.dir[s.sched.sec]? = some x →
    s.readSource x.off x.len = (some d, s) →
    ∃ t, exec (.loadSectionDone []) s = .next t
      ∧ (crc32 d = x.crc → t.sched.sec = s.sched.sec + 1)
      ∧ (crc32 d ≠ x.crc → t.loadState = 5 ∧ t.fld pgSched Off.schedLOAD_CODE 7 0 = 18))
  ∧ (∀ s : State, s.loadState = 3 → s.sched.sec = s.sched.dir.length →
    ∃ t, exec .loadPass2Done s = .next t ∧ t.loadState = 4 ∧ t.sched.b.valid = true
      ∧ t.bit pgRtr Off.rtrSTAT 2 = true ∧ t.mem = s.mem ∧ t.eng = s.eng)
  ∧ (∀ (s u : State) (off : Nat), s.loadState = 1 → off < s.sched.srcLen →
    s.readSource (off - off % 8) 8 = (none, u) →
    ∃ t, exec (.sourceReadError off []) s = .next t ∧ t.loadState = 5 ∧ t.rg pgSched Off.schedLOAD_CODE = 2
      ∧ t.sched.b.valid = false)
  ∧ (∀ (s u : State) (x : Sect) (d : List Byte) (off : Nat), s.loadState = 3 → off < s.sched.srcLen → off % 8 = 0 →
    s.sched.dir[s.sched.sec]? = some x → x.off ≤ off → off < x.off + x.len →
    s.readSource x.off (off - x.off) = (some d, s) → s.readSource off 8 = (none, u) →
    ∃ t, exec (.sourceReadError off []) s = .next t ∧ t.loadState = 5 ∧ t.fld pgSched Off.schedLOAD_CODE 7 0 = 2
      ∧ t.fld pgSched Off.schedLOAD_CODE 17 8 = s.sched.sec % 1024 ∧ t.sched.b.valid = false)

/-- A HOIST write that carries SWAP, PARAM, REGS or ROUTE: accepted, it marks its kinds pending, and a request that
finds none pending lands at the release after the next boundary, or with AT_TICK at the named tick (R134); refused,
it completes with a normal response, marks nothing pending, and HOIST_STAT takes the first reason in the order tick
passed (2), not merged (1), bank B not VALID (3) (R135, R136). -/
def Obligations.HoistRequests : Prop :=
  ∀ (s : State) (i : Fin 4) (v mid : Nat), s.admits pgSched Off.schedHOIST → v < 32 → bitN v i = true →
    let c : Instr := match i with
      | 0 => .hoistSwapRequest v mid | 1 => .hoistParamRequest v mid | 2 => .hoistRegsRequest v mid
      | 3 => .hoistRouteRequest v mid
    let passed := bitN v 4 = true ∧ s.hoistTick ≤ s.tick
    let apart := s.hoistKinds ≠ 0 ∧ ¬ (if bitN v 4 then s.hoistBit 4 = true ∧ s.sched.landTick = s.hoistTick
      else s.hoistBit 4 = false)
    let noBank := bitN v 0 = true ∧ s.loadState ≠ 4
    (¬ passed → ¬ apart → ¬ noBank →
      ∃ t, exec c s = .next t ∧ t.rg pgSched Off.schedHOIST = s.rg pgSched Off.schedHOIST ||| v
        ∧ t.bit pgSched Off.schedSTAT 4 = true ∧ t.resp = { err := false, data := [] }
        ∧ (s.hoistKinds = 0 → t.sched.landTick = (if bitN v 4 then s.hoistTick else s.tick + 1))
        ∧ t.mem = s.mem ∧ t.eng = s.eng)
    ∧ (passed ∨ apart ∨ noBank →
      ∃ t, exec c s = .next t ∧ t.rg pgSched Off.schedHOIST = s.rg pgSched Off.schedHOIST
        ∧ (passed → t.rg pgSched Off.schedHOIST_STAT = 2)
        ∧ (¬ passed → apart → t.rg pgSched Off.schedHOIST_STAT = 1)
        ∧ (¬ passed → ¬ apart → t.rg pgSched Off.schedHOIST_STAT = 3)
        ∧ t.resp = { err := false, data := [] } ∧ t.sched = s.sched ∧ t.mem = s.mem ∧ t.eng = s.eng)

/-- A SWAP lands where no engine is late: bank B becomes bank A, B becomes empty, the image route bank becomes the
live one, and ESC.MARGIN takes the image's value (R138); where one is late the request moves to the next release
(R137). That an engine in SKIPPING does not defer it is log entry 50. In a request with SWAP and REGS, the registers
land first and start or stop no engine (R138). A ROUTE landing exchanges the live and the staged bank and starts the
copy-forward (R153); at its end the staged bank holds the live entries as the router uses them (R153, R168), and
COPY_FWD is 0. -/
def Obligations.SwapAndRouteLandings : Prop :=
  (∀ s : State, s.landingDue = true → s.hoistBit 0 = true → s.hoistBit 2 = false → s.anyLate = false →
    ∃ t, exec .swapLanding s = .next t ∧ t.sched.a = s.sched.b ∧ t.sched.b = {} ∧ t.loadState = 0
      ∧ t.rtr.live = s.rtr.image ∧ t.rg pgEsc Off.escMARGIN = s.sched.b.margin % 2 ^ 32 ∧ t.mem = s.mem)
  ∧ (∀ s : State, s.landingDue = true → s.hoistBit 0 = true → s.anyLate = true →
    ∃ t, exec .swapLanding s = .next t ∧ t.sched = { s.sched with landTick := s.relTick + 1 }
      ∧ t.rg pgSched Off.schedSWAP_DEFER_CNT = min (s.rg pgSched Off.schedSWAP_DEFER_CNT + 1) 0xFFFFFFFF
      ∧ t.mem = s.mem ∧ t.eng = s.eng)
  ∧ (∀ s : State, s.landingDue = true → s.hoistBit 0 = true → s.hoistBit 2 = true → s.anyLate = false →
    exec .swapLanding s = .next s
    ∧ ∃ t, exec .regsLanding s = .next t ∧ t.hoistBit 2 = false ∧ t.hoistBit 0 = true ∧ t.mem = s.mem
      ∧ ∀ nn : Fin 32, (s.engine nn).st ≠ .skipping → (t.engine nn).st = (s.engine nn).st)
  ∧ (∀ s : State, s.landingDue = true → s.hoistBit 3 = true → s.hoistBit 0 = false →
    ∃ t, exec .routeLanding s = .next t ∧ t.rtr.live = s.rtr.staged ∧ t.rtr.staged = s.rtr.live
      ∧ t.rtr.image = s.rtr.image ∧ t.rtr.tbl = s.rtr.tbl ∧ t.bit pgRtr Off.rtrSTAT 0 = true
      ∧ t.hoistBit 3 = false ∧ t.mem = s.mem ∧ t.eng = s.eng)
  ∧ (∀ s : State, s.bit pgRtr Off.rtrSTAT 0 = true → s.rtr.held = [] → s.rtr.live ≠ s.rtr.staged →
    ∃ t, exec .routeCopyForwardDone s = .next t ∧ t.bit pgRtr Off.rtrSTAT 0 = false
      ∧ (∀ d, d < 16384 → t.entry s.rtr.live d = s.entry s.rtr.live d
        ∧ t.rtr.staged = s.rtr.staged ∧ t.entry s.rtr.staged d = s.liveEntry d) ∧ t.mem = s.mem ∧ t.eng = s.eng)

/-- A PARAM landing inverts the PAR_SEL bit of each pending group that holds words, of an engine that is RUNNING,
STOPPED, ARMED or FAULT, and clears its pending bit; of an OFF engine it clears the bit alone; a group of a DETACHED
engine waits for the rejoin (R137, R140 to R142). The copy-forward then copies the selected copy's words into the
other one. A REGS landing ends the request (R134): the staged thresholds of GAIN and of the ports go into effect, and
so do the staged values of every page whose landing refuses none; the ports, rail groups, channels, thermal pages,
decimation instances, streams, stack ports, the pair and the engines take their enables (R52, R53, R175, R203, R212,
R226, R231, R280, R317, R339), a generator whose MODE changes or that restarts begins anew (R152). A unit in STRUCK
keeps EN (log entry 105); an enable that a start check refuses is not stated here. Pending bits are set by writing 1
(R140). -/
def Obligations.ParamAndRegsLandings : Prop :=
  (∀ s : State, s.landingDue = true → s.hoistBit 1 = true → s.hoistBit 0 = false →
    ∃ t, exec .paramLanding s = .next t ∧ t.hoistBit 1 = false ∧ t.mem = s.mem
      ∧ ∀ (nn : Fin 32) (g : Fin 64), let e := s.engine nn
        ((e.st = .running ∨ e.st = .stopped ∨ e.st = .armed ∨ e.st = .fault) →
          t.parSel nn g = (if s.pgp nn g = true ∧ s.parLen nn ≠ 0 ∧ (s.groupOf nn g).2 ≠ 0 then !s.parSel nn g
            else s.parSel nn g) ∧ t.pgp nn g = false)
        ∧ (e.st = .off → t.parSel nn g = s.parSel nn g ∧ t.pgp nn g = false)
        ∧ (e.st = .detached → t.parSel nn g = s.parSel nn g ∧ t.pgp nn g = s.pgp nn g
          ∧ (s.pgp nn g = true → bitN (t.engine nn).parDue g = true)))
  ∧ (∀ (s : State) (nn : Fin 32) (g : Fin 64), (nn.val, g.val) ∈ s.sched.copyFwd → s.sched.held = [] → s.ecc = [] →
    (s.groupOf nn g).1 + (s.groupOf nn g).2 ≤ s.parLen nn →
    ∃ t, exec (.paramCopyForwardDone nn g) s = .next t ∧ (nn.val, g.val) ∉ t.sched.copyFwd
      ∧ (∀ i, i < (s.groupOf nn g).2 → (t.engine nn).word (s.parWord nn g ((s.groupOf nn g).1 + i) false)
          = (s.engine nn).word (s.parWord nn g ((s.groupOf nn g).1 + i) true)) ∧ t.mem = s.mem)
  ∧ (∀ (s : State) (new : SMap Word), s.landingDue = true → s.hoistBit 2 = true → s.hoistBit 0 = false →
    s.hoistBit 1 = false → s.sched.snap = some new →
    ∃ t, exec .regsLanding s = .next t ∧ t.sched.snap = none ∧ t.hoistBit 2 = false
      ∧ (let u (p o : Nat) : Nat := (smapGet resetWord new (rkey p o)).toNat
        t.rg pgGain Off.gainZC_TIMEOUT = u pgGain Off.gainZC_TIMEOUT_NX
        ∧ t.rg pgGain Off.gainZC_THRESH = u pgGain Off.gainZC_THRESH_NX
        ∧ (∀ p o, o < 0x1000 → (∀ nn : Fin 32, p ≠ pgEng + nn) → (∀ x : Fin 16, p ≠ pgTdm + x) →
            (∀ x : Fin 4, p ≠ pgMod + x) → t.eff p o = u p o)
        ∧ (∀ x : Fin 16, t.rg (pgTdm + x) Off.tdmHOLD_FRAMES = u (pgTdm + x) Off.tdmHOLD_FRAMES_NX
          ∧ t.rg (pgTdm + x) Off.tdmRATE_TOL = u (pgTdm + x) Off.tdmRATE_TOL_NX
          ∧ ((bitN (u (pgTdm + x) Off.tdmCTL_NX) 0 = false ∨ s.bit (pgTdm + x) Off.tdmCTL 0 = true) →
            t.rg (pgTdm + x) Off.tdmCTL = u (pgTdm + x) Off.tdmCTL_NX % 4))
        ∧ t.rg pgRail Off.railCTL = u pgRail Off.railCTL_NX % 256
        ∧ (∀ x : Fin 4, t.rg (pgThm + x) Off.thmCTL = u (pgThm + x) Off.thmCTL_NX % 256
          ∧ (u pgRail Off.railCTL_NX % 256 = 255 → t.rg (pgMod + x) Off.modCTL = u (pgMod + x) Off.modCTL_NX % 256))
        ∧ (∀ n, n < 96 → (bitN (u (decPage n) Off.decRUN_NX) (n % 16) = false → t.decRuns n = false)
          ∧ (bitN (u (decPage n) Off.decRUN_NX) (n % 16) = true → s.decRuns n = true → t.decRuns n = true))
        ∧ (∀ d n, d < 2 → n < 256 →
          let b := bitN (u pgStrm ((if d = 0 then Off.strmRX_EN_NX else Off.strmTX_EN_NX) + 4 * (n / 32))) (n % 32)
          (b = false → t.strmRuns d n = false) ∧ (b = true → s.strmRuns d n = true → t.strmRuns d n = true))
        ∧ (∀ x : Fin 2, (bitN (u (pgCrx + x) Off.crxCTL_NX) 0 = false → t.crxEn x = false)
          ∧ (bitN (u (pgCrx + x) Off.crxCTL_NX) 0 = true → s.crxEn x = true → t.crxEn x = true))
        ∧ (∀ g : Fin 64, s.genRestart new g = true →
          let seed := u pgRtr (Off.rtrGEN + 16 * g + 12)
          smapGet genReset t.rtr.gens g = { phase := 0, noise := if seed = 0 then 1 else seed, imp := 0 })
        ∧ ((∀ nn : Fin 32, (s.engine nn).st ≠ .skipping) → s.pairState ≠ 6 →
          t.pairEn = bitN (u pgPair Off.pairCTL_NX) 0)
        ∧ (∀ nn : Fin 32,
          let run := bitN (u (pgEng + nn) Off.engCTL_NX) 0
          ((s.engine nn).st = .running → (t.engine nn).st = (if run then .running else .stopped)
            ∧ t.rg (pgEng + nn) Off.engCTL = b2n run)
          ∧ ((s.engine nn).st = .armed → run = false → (t.engine nn).st = .armed)
          ∧ ((s.engine nn).st = .detached → (t.engine nn).st = .detached
            ∧ (t.engine nn).stopDue = ((s.engine nn).stopDue || !run)))))
  ∧ (∀ (s : State) (i : Fin 64) (v mid : Nat), s.admits pgSched (Off.schedPGP + 4 * i.val) → v < 2 ^ 32 →
    exec (.pgpSet i v mid) s = .next (s.ok.setRg pgSched (Off.schedPGP + 4 * i.val)
      (s.rg pgSched (Off.schedPGP + 4 * i.val) ||| v)))


/-! ## The router's tables and the serial audio ports -/

/-- A write of RT_DATA that passes the checks of R157 writes SRC, EN, SOFT and BYP of the indexed entry of the staged
bank and keeps its XFER and C1; one that fails a check, or names another bank, changes no entry, and is recorded and
counted; one between a request and the end of the copy-forward is held, and has no response yet (R158, R387). A read
returns the entry of the bank that BANK names; with AUTOINC the index advances (R169). A switch that has waited
ZC_TIMEOUT ticks closes (R162). -/
def Obligations.RouteEntryAccess : Prop :=
  (∀ (s : State) (v mid : Nat), s.admits pgRtr Off.rtrRT_DATA →
    let d := s.rtIndex
    ∃ t, exec (.rtDataWrite v mid) s = .next t ∧ t.mem = s.mem ∧ t.eng = s.eng ∧ t.rtr.live = s.rtr.live
      ∧ t.rtIndex = (if s.bit pgRtr Off.rtrRT_ADDR 20 then (d + 1) % 2 ^ 14 else d)
      ∧ (s.rtBank = 0 → s.rtHolding = false → s.stagedCheck d (v % 2 ^ 17) = 0 →
          t.entry s.rtr.staged d = v % 2 ^ 17 + bitsN (s.entry s.rtr.staged d) 21 17 * 2 ^ 17
          ∧ ∀ b e, e < 16384 → (b ≠ s.rtr.staged ∨ e ≠ d) → t.entry b e = s.entry b e)
      ∧ (s.rtBank = 0 → s.rtHolding = false → s.stagedCheck d (v % 2 ^ 17) ≠ 0 → t.rtr = s.rtr
          ∧ t.rg pgRtr Off.rtrREFUSE_LAST = d + s.stagedCheck d (v % 2 ^ 17) * 2 ^ 16
          ∧ t.rg pgRtr Off.rtrREFUSE_CNT = min (s.rg pgRtr Off.rtrREFUSE_CNT + 1) 0xFFFFFFFF)
      ∧ (s.rtBank ≠ 0 → t.rtr = s.rtr ∧ t.rg pgRtr Off.rtrREFUSE_LAST = d + 5 * 2 ^ 16)
      ∧ (s.rtBank = 0 → s.rtHolding = true → t.resp.waits = true ∧
          t.rtr = { s.rtr with held := s.rtr.held ++ [{ d := d, v := v, mid := mid, chan := chanOf mid 0 }] }))
  ∧ (∀ (s : State) (mid b : Nat), s.readable pgRtr Off.rtrRT_DATA → s.domain 5 = true → s.bankNo = some b →
    s.entryMark b s.rtIndex = 0 →
    ∃ t, exec (.rtDataRead mid []) s = .next t ∧ t.resp = { err := false, data := toLE 4 (s.entry b s.rtIndex) }
      ∧ t.rtr = s.rtr ∧ t.mem = s.mem ∧ t.eng = s.eng
      ∧ t.rtIndex = (if s.bit pgRtr Off.rtrRT_ADDR 20 then (s.rtIndex + 1) % 2 ^ 14 else s.rtIndex))
  ∧ (∀ (s : State) (d : Nat) (w : SoftSw), s.softOf d = some w → s.zcTimeout ≤ w.count → d < 16384 →
    ∃ t, exec (.softSwitchTimeout d) s = .next t ∧ t.softOf d = none
      ∧ t.rg pgGain Off.gainLAST = d + 3 * 2 ^ 16
      ∧ t.rg pgGain Off.gainTIMEOUT_CNT = min (s.rg pgGain Off.gainTIMEOUT_CNT + 1) 0xFFFFFFFF
      ∧ t.rtr.tbl = s.rtr.tbl ∧ t.mem = s.mem ∧ t.eng = s.eng)

/-- MUTE_NOW sets MUTE in effect and requested at once (R189). ARM takes the fields of an IDLE group and arms it
where the trigger is allowed, and a refused one changes nothing (R499); STOP makes the group IDLE, and its running
members stop with the end of their frame in progress (R178). A START edge is captured on the time base and reaches
the groups that wait for it (R177). At the trigger instant frame 0 starts: the group is RUNNING and FRAME is 0
(R177). A frame of a group that receives no clocks advances its position by RATE_DIV samples and FRAME by one (R179);
a slip of a RUNNING target group that may slip is counted, and the phase moves by RATE_DIV sample periods (R181). A
slip that the return from FLYWHEEL asked for acts on the frame first (R187). -/
def Obligations.AlignmentGroups : Prop :=
  (
    (∀ (s : State) (p : Fin 16) (mid : Nat), s.admits (pgTdm + p) Off.tdmMUTE_NOW true →
      ∃ t, exec (.tdmMuteNow p mid) s = .next t ∧ t.bit (pgTdm + p) Off.tdmCTL 1 = true
        ∧ t.bit (pgTdm + p) Off.tdmCTL_NX 1 = true
        ∧ SameRegs s t [rkey (pgTdm + p) Off.tdmCTL, rkey (pgTdm + p) Off.tdmCTL_NX]
        ∧ t.tdm = s.tdm ∧ t.mem = s.mem ∧ t.eng = s.eng)
    ∧ (∀ (s : State) (g : Fin 4) (v mid : Nat), s.admits pgTdmg (grpOff g Off.tdmgG_CTL) → bitN v 0 = true →
      bitN v 1 = false →
      let s1 := s.setFld pgTdmg (grpOff g Off.tdmgG_CTL) 11 2 (bitsN v 11 2 &&& 0x3CF)
      (s.grpState g = 0 → s1.armRefused g = false →
        ∃ t, exec (.groupArm g v mid) s = .next t ∧ t.grpState g = 1 ∧ t.bit pgTdmg (grpOff g Off.tdmgG_CTL) 0 = true
          ∧ t.grpCtl g 3 2 = bitsN v 3 2 ∧ t.grpCtl g 4 4 = bitsN v 4 4 ∧ t.grpCtl g 11 8 = bitsN v 11 8
          ∧ (t.group g).armTick = s.tick ∧ t.tdm = s.tdm ∧ t.mem = s.mem ∧ t.eng = s.eng)
      ∧ (s.grpState g ≠ 0 ∨ s1.armRefused g = true →
        ∃ t, exec (.groupArm g v mid) s = .next t ∧ t.grpState g = s.grpState g ∧ t.grp = s.grp ∧ t.tdm = s.tdm
          ∧ t.rg pgTdmg (grpOff g Off.tdmgG_CTL) = s.rg pgTdmg (grpOff g Off.tdmgG_CTL) ∧ t.mem = s.mem ∧ t.eng = s.eng))
    ∧ (∀ (s : State) (g : Fin 4) (v mid : Nat), s.admits pgTdmg (grpOff g Off.tdmgG_CTL) → bitN v 1 = true →
      bitN v 0 = false →
      ∃ t, exec (.groupStop g v mid) s = .next t ∧ t.grpState g = 0 ∧ t.bit pgTdmg (grpOff g Off.tdmgG_CTL) 0 = false
        ∧ (∀ p, p < 16 → s.portGroup p = g → (s.port p).runs = true →
            t.port p = { s.port p with stopDue := true })
        ∧ (∀ p, p < 16 → s.portGroup p ≠ g → t.port p = s.port p) ∧ t.mem = s.mem ∧ t.eng = s.eng)
    ∧ (∀ s : State, s.bit pgTdmg Off.tdmgSTART_CFG 0 = true → s.pageEn pgTdmg = true →
      ∃ t, exec .startEdgeCapture s = .next t
        ∧ t.rg64 pgTdmg Off.tdmgSTART_TS_LO Off.tdmgSTART_TS_HI = captureForm s.tq s.timeQual % 2 ^ 64
        ∧ (∀ g : Fin 4, s.grpState g = 1 → s.grpCtl g 3 2 = 3 → (t.group g).edge = true)
        ∧ t.tdm = s.tdm ∧ t.mem = s.mem ∧ t.eng = s.eng)
    ∧ (∀ (s : State) (g : Fin 4) (pos e : Nat), s.triggered g = true → pos < s.T →
      (s.grpTarget g = true ∨ 2 ≤ s.grpCtl g 3 2 ∨ pos = 0) →
      ∃ t, exec (.groupFrame0Start g pos e) s = .next t ∧ t.grpState g = 2 ∧ (t.group g).next = s.tick * s.T + pos
        ∧ t.rg64 pgTdmg (grpOff g Off.tdmgG_START_TICK_LO) (grpOff g Off.tdmgG_START_TICK_HI) = (s.tick + 1) % 2 ^ 64
        ∧ t.rg64 pgTdmg (grpOff g Off.tdmgG_FRAME_LO) (grpOff g Off.tdmgG_FRAME_HI) = 0
        ∧ (s.grpTarget g = true → t.phaseNow g = phaseStart (s.grpDiv g) e ∧ t.phase0 g = phaseStart (s.grpDiv g) e)
        ∧ (∀ p, p < 16 → s.portGroup p = g → (s.port p).inD.ph = 1 → (t.port p).runs = true)
        ∧ t.mem = s.mem ∧ t.eng = s.eng)
  )
  ∧ (
    ∀ (s : State) (g : Nat) (e : Int) (und ovr : List Nat), g < 4 → 2 ≤ s.grpState g →
      ∃ t, exec (.tdmGroupFrame g e und ovr) s = .next t ∧ t.mem = s.mem ∧ t.eng = s.eng
        ∧ t.rg64 pgTdmg (grpOff g Off.tdmgG_FRAME_LO) (grpOff g Off.tdmgG_FRAME_HI)
          = (s.rg64 pgTdmg (grpOff g Off.tdmgG_FRAME_LO) (grpOff g Off.tdmgG_FRAME_HI) + 1) % 2 ^ 64
        ∧ ((s.group g).slip ≠ .none → (t.group g).next = (s.group g).next + (s.group g).slip.step (s.grpDiv g))
        ∧ (s.grpTarget g = false → (s.group g).slip = .none → (t.group g).next = (s.group g).next + s.grpDiv g)
        ∧ (s.grpTarget g = true → s.grpState g = 2 → s.mayslip g = true → (64 + 256 * s.grpDiv g : Nat) ≤ e →
            ((s.group g).slip = .none → (t.group g).next = (s.group g).next)
            ∧ t.phaseNow g = ofSigned 16 (e - (256 * s.grpDiv g : Nat))
            ∧ t.rg pgTdmg (grpOff g Off.tdmgG_SLIP_FAST_CNT)
              = min (s.rg pgTdmg (grpOff g Off.tdmgG_SLIP_FAST_CNT) + 1) 0xFFFFFFFF)
        ∧ (s.grpTarget g = true → s.grpState g = 2 → s.mayslip g = true → e < 64 →
            ((s.group g).slip = .none → (t.group g).next = (s.group g).next + 2 * s.grpDiv g)
            ∧ t.phaseNow g = ofSigned 16 (e + (256 * s.grpDiv g : Nat))
            ∧ t.rg pgTdmg (grpOff g Off.tdmgG_SLIP_SLOW_CNT)
              = min (s.rg pgTdmg (grpOff g Off.tdmgG_SLIP_SLOW_CNT) + 1) 0xFFFFFFFF))

/-- A completed frame is taken for the group frame in progress, and a second one is discarded (R185); it lengthens
the run of good frames, which on a target port a wrong BCLK count or a period outside tolerance ends (R183, R184),
and a frame with a wrong count is not used; in RATE_FAULT a frame is used from the 64th good one on. A frame of an
ungrouped running port delivers the taken frame, stores it in the block being collected, sends the output frame to
SDO and moves on by RATE_DIV sample periods (R182); a missing one is counted and, within HOLD_FRAMES, the one
delivered last is repeated (R185, R186). -/
def Obligations.AudioFrames : Prop :=
  (∀ (s : State) (p : Fin 16) (slots : List Nat) (bclk units : Nat), (s.port p).runs = true → s.isTarget p = false →
    ∃ t, exec (.tdmInputFrame p slots bclk units) s = .next t ∧ t.mem = s.mem ∧ t.eng = s.eng
      ∧ (t.port p).inD.good = (s.port p).inD.good + 1
      ∧ ((s.port p).got = none → (t.port p).got = some (s.frameIn p slots))
      ∧ (∀ w, (s.port p).got = some w → (t.port p).got = some w
          ∧ t.rg (pgTdm + p) Off.tdmIN_OVR_CNT = min (s.rg (pgTdm + p) Off.tdmIN_OVR_CNT + 1) 0xFFFFFFFF))
  ∧ (∀ (s : State) (p : Fin 16) (slots : List Nat) (bclk units : Nat), (s.port p).runs = true → s.isTarget p = true →
    let okB := bclk = s.fmtSlots p * s.fmtSlotBits p
    ∃ t, exec (.tdmInputFrame p slots bclk units) s = .next t ∧ t.mem = s.mem ∧ t.eng = s.eng
      ∧ t.rg (pgTdm + p) Off.tdmBCLK_LAST = bclk % 65536 ∧ (t.port p).miss = 0 ∧ (t.port p).seen = true
      ∧ (t.port p).bad = (if s.outOfTol p units then (s.port p).bad + 1 else 0)
      ∧ (t.port p).inD.good = (if okB ∧ s.outOfTol p units = false then (s.port p).inD.good + 1 else 0)
      ∧ (t.port p).outD.good = (if okB ∧ s.outOfTol p units = false then (s.port p).outD.good + 1 else 0)
      ∧ (¬ okB → (t.port p).got = (s.port p).got
          ∧ t.rg (pgTdm + p) Off.tdmBCLK_ERR_CNT = min (s.rg (pgTdm + p) Off.tdmBCLK_ERR_CNT + 1) 0xFFFFFFFF)
      ∧ (okB → (s.port p).got = none → (t.port p).got
          = (if s.rateFault p = false ∨ 64 ≤ (t.port p).inD.good then some (s.frameIn p slots) else none)))
  ∧ (∀ (s : State) (p : Fin 16) (e : Int) (und ovr : List Nat), s.portGroup p = 7 →
      (s.port p).inD.ph = 2 → (s.port p).outD.ph = 2 → (s.port p).stopDue = false → p.val ∉ und → p.val ∉ ovr →
      let live := s.outFrame p (s.port p).next 0
      ∃ t, exec (.tdmGroupFrame (16 + p) e und ovr) s = .next t ∧ t.mem = s.mem ∧ t.eng = s.eng
        ∧ (t.port p).next = (s.port p).next + s.fmtDiv p
        ∧ (t.port p).got = none ∧ (t.port p).outD = { (s.port p).outD with run := 0, last := live }
        ∧ (t.port p).sdo = s.sdoFrame p live
        ∧ (∀ w, (s.port p).got = some w → (t.port p).inD = { (s.port p).inD with run := 0, last := w }
            ∧ (s.mode ≠ 3 → ((s.port p).next + s.fmtDiv p - 1) / s.T = s.tick → w.length ≤ 32 → ∀ i, i < w.length →
                smapGet zeroW t.sig.next (sigKey (0x800 + 32 * p + i) (((s.port p).next + s.fmtDiv p - 1) % s.T))
                  = w.getD i 0))
        ∧ ((s.port p).got = none → (s.port p).inD.run + 1 ≤ s.fld (pgTdm + p) Off.tdmHOLD_FRAMES 15 0 →
            (t.port p).inD = { (s.port p).inD with
              ph := 3, run := (s.port p).inD.run + 1, good := if (s.port p).seen then (s.port p).inD.good else 0 }
            ∧ t.rg (pgTdm + p) Off.tdmIN_UND_CNT = min (s.rg (pgTdm + p) Off.tdmIN_UND_CNT + 1) 0xFFFFFFFF))

/-- The events of a port and of a group: RATE_FAULT after 8 frames outside tolerance and its end after 64 good ones
(R184), the ramps' beginnings and ends (R186, R188), and the flywheel of a target group whose lead port has lost its
FSYNC or is in RATE_FAULT, with its end after 64 good frames, at which e is measured again and a slip that it asks
for becomes due (R187). -/
def Obligations.AudioEvents : Prop :=
  (∀ (s : State) (p : Fin 16), (s.port p).runs = true → 8 ≤ (s.port p).bad → s.rateFault p = false →
    ∃ t, exec (.tdmRateFault p) s = .next t ∧ t.rateFault p = true ∧ t.tdm = s.tdm
      ∧ t.rg (pgTdm + p) Off.tdmRATE_FAULT_CNT = min (s.rg (pgTdm + p) Off.tdmRATE_FAULT_CNT + 1) 0xFFFFFFFF
      ∧ t.mem = s.mem ∧ t.eng = s.eng)
  ∧ (∀ (s : State) (p : Fin 16), s.rateFault p = true → 64 ≤ (s.port p).inD.good →
    ∃ t, exec (.tdmRateFaultClear p) s = .next t ∧ t.rateFault p = false ∧ (t.port p).bad = 0
      ∧ SameRegs s t [rkey (pgTdm + p) Off.tdmSTATE] ∧ t.mem = s.mem ∧ t.eng = s.eng)
  ∧ (∀ (s : State) (p : Fin 16) (out : Bool),
    (4 * b2n out ∈ (s.port p).due → ∃ t, exec (.tdmRampOutStart p out) s = .next t
      ∧ t.tdm = (s.tdmDone p (4 * b2n out)).tdm ∧ t.bit (pgTdm + p) Off.tdmSTAT 7 = true
      ∧ t.rg (pgTdm + p) Off.tdmHOLD_CNT = min (s.rg (pgTdm + p) Off.tdmHOLD_CNT + 1) 0xFFFFFFFF
      ∧ t.mem = s.mem ∧ t.eng = s.eng)
    ∧ (4 * b2n out + 1 ∈ (s.port p).due → exec (.tdmRampOutEnd p out) s = .next (s.tdmDone p (4 * b2n out + 1)))
    ∧ (4 * b2n out + 2 ∈ (s.port p).due → exec (.tdmRampInStart p out) s = .next (s.tdmDone p (4 * b2n out + 2)))
    ∧ (4 * b2n out + 3 ∈ (s.port p).due → ∃ t, exec (.tdmRampInEnd p out) s = .next t
      ∧ t.tdm = (s.tdmDone p (4 * b2n out + 3)).tdm ∧ t.bit (pgTdm + p) Off.tdmSTAT 9 = true
      ∧ t.mem = s.mem ∧ t.eng = s.eng))
  ∧ (∀ (s : State) (g : Fin 4), s.grpTarget g = true → s.grpState g = 2 →
    (2 ≤ (s.port (s.lead g)).miss ∨ s.rateFault (s.lead g) = true) →
    ∃ t, exec (.groupFlywheel g) s = .next t ∧ t.grpState g = 3 ∧ t.tdm = s.tdm ∧ t.grp = s.grp
      ∧ t.mem = s.mem ∧ t.eng = s.eng)
  ∧ (∀ (s : State) (g : Fin 4) (e : Int), s.grpState g = 3 → 64 ≤ (s.port (s.lead g)).inD.good →
    ∃ t, exec (.flywheelExit g e) s = .next t ∧ t.grpState g = 2 ∧ t.tdm = s.tdm
      ∧ (t.group g).next = (s.group g).next ∧ t.mem = s.mem ∧ t.eng = s.eng
      ∧ (s.grpTarget g = true → s.mayslip g = true → (64 + 256 * s.grpDiv g : Nat) ≤ e → (t.group g).slip = .fast
          ∧ t.phaseNow g = ofSigned 16 (e - (256 * s.grpDiv g : Nat)))
      ∧ (s.grpTarget g = true → s.mayslip g = true → e < 64 → (t.group g).slip = .slow
          ∧ t.phaseNow g = ofSigned 16 (e + (256 * s.grpDiv g : Nat)))
      ∧ (s.grpTarget g = true → s.mayslip g = true → 64 ≤ e → e < (64 + 256 * s.grpDiv g : Nat) →
          (t.group g).slip = .none ∧ t.phaseNow g = ofSigned 16 e))


/-! ## Decimation and the bridge channels -/

/-- The end of a span: the captured bits enter the filter, the mean of the last L results is the instance's value
from that sample on, and it is 0 until K + L - 1 results exist (R198, R199, R201, R203); SETTLED follows (R203). A
run of STUCK_LEN equal bits makes the instance stuck and shuts down the channels that sense with it (R205, R223); the
next transition ends that. -/
def Obligations.DecimationInstances : Prop :=
  (∀ (s : State) (n : Fin 96) (j : Nat) (bits : List Bool), s.spanEnds n j bits = true →
    let d := s.dec n
    let us := (bits.reverse.map (fun b => b != (s.decCfg n 5 5 == 1)) ++ d.bits).take (s.decK n * s.decN n)
    let ys := (cicOut (s.decK n) (s.decN n) us :: d.ys).take (s.decL n)
    let w := convQ (ys.sum * 2 ^ 31) (s.decN n ^ s.decK n * s.decL n)
    ∃ t, exec (.decOutput n j bits) s = .next t ∧ (t.dec n).outs = d.outs + 1 ∧ (t.dec n).bits = us ∧ (t.dec n).ys = ys
      ∧ (d.outs + 1 < s.decK n + s.decL n - 1 → (t.dec n).val = 0)
      ∧ (s.decK n + s.decL n - 1 ≤ d.outs + 1 → (t.dec n).val = BitVec.ofInt 32 (if w = 2 ^ 31 then 2 ^ 31 - 1 else w))
      ∧ (w = 2 ^ 31 → t.bit (decPage n) Off.decCLIP (n % 16) = true
          ∧ t.rg (decPage n) (decOff n Off.decI_CLIP_CNT)
            = min (s.rg (decPage n) (decOff n Off.decI_CLIP_CNT) + 1) 0xFFFFFFFF)
      ∧ (∀ i, j ≤ i → i < s.T → smapGet zeroW t.sig.next (sigKey (senseSrc n) i) = (t.dec n).val)
      ∧ t.mem = s.mem ∧ t.eng = s.eng)
  ∧ (∀ (s : State) (n : Fin 96), s.decRuns n = true → s.decSettled n = false →
    s.decK n + s.decL n - 1 ≤ (s.dec n).outs →
    ∃ t, exec (.decSettled n) s = .next t ∧ t.decSettled n = true ∧ t.drive = s.drive ∧ t.mem = s.mem ∧ t.eng = s.eng
      ∧ SameRegs s t [rkey (decPage n) Off.decSETTLED, rkey (decPage n) Off.headINT_RAW,
          rkey pgPcie (Off.pciePBA + 4 * (msixVector (decPage n) / 32))])
  ∧ (∀ (s : State) (n : Fin 96) (run : Nat), s.decRuns n = true → (s.dec n).stuck = false →
    s.fld (decPage n) Off.decSTUCK_LEN 15 0 ≤ run →
    ∃ t, exec (.decStuck n run) s = .next t ∧ (t.dec n).stuck = true ∧ t.bit (decPage n) Off.decSTUCK (n % 16) = true
      ∧ t.rg (decPage n) (decOff n Off.decI_STUCK_CNT)
        = min (s.rg (decPage n) (decOff n Off.decI_STUCK_CNT) + 1) 0xFFFFFFFF
      ∧ (∀ m : Fin 32, (s.chV m = n.val ∨ s.chI m = n.val) → t.switching m = false) ∧ t.mem = s.mem ∧ t.eng = s.eng)
  ∧ (∀ (s : State) (n : Fin 96), (s.dec n).stuck = true →
    exec (.decStuckClear n) s = .next (s.setDec n { s.dec n with stuck := false }))

/-- The course of a channel (R211): FORCE_OFF takes each named channel to OFF at once, with its EN bits clear and its
pins low, and CLR clears RETRY_CNT of each named LATCHED channel, which goes to OFF with EN = 0 and else begins CM_UP
with its next switching period (R214); no other channel changes. The ends of the ramps and fades lead on (R213,
R219); a retry lets a TRIPPED channel that has cooled begin CM_UP with its next switching period (R224). -/
def Obligations.ChannelCourse : Prop :=
  (∀ (s : State) (x : Fin 4) (v mid : Nat), s.admits (pgMod + x) Off.modFORCE_OFF true →
    ∃ t, exec (.modForceOff x v mid) s = .next t ∧ t.mem = s.mem ∧ t.eng = s.eng ∧ ∀ k : Fin 8,
      let m := 8 * x.val + k.val
      (bitN v k = true → t.chState m = 0 ∧ t.chEn m = false ∧ (t.chan m).wA = 0 ∧ (t.chan m).wB = 0)
      ∧ (bitN v k = false → t.chState m = s.chState m ∧ t.chEn m = s.chEn m ∧ t.chan m = s.chan m))
  ∧ (∀ (s : State) (x : Fin 4) (v mid : Nat), s.admits (pgMod + x) Off.modCLR →
    ∃ t, exec (.modClr x v mid) s = .next t ∧ t.mem = s.mem ∧ t.eng = s.eng ∧ ∀ k : Fin 8,
      let m := 8 * x.val + k.val
      (bitN v k = true → s.chState m = 7 → s.chEn m = false → t.chState m = 0 ∧ t.chFld m Off.modC_STAT 10 8 = 0)
      ∧ (bitN v k = true → s.chState m = 7 → s.chEn m = true →
          t.chState m = 7 ∧ t.chFld m Off.modC_STAT 10 8 = 0 ∧ t.chan m = { s.chan m with upDue := true })
      ∧ (bitN v k = false ∨ s.chState m ≠ 7 → t.chState m = s.chState m ∧ t.chan m = s.chan m))
  ∧ (∀ (s : State) (m : Fin 32) (e : Nat), s.chState m = 1 → s.rampLen m ≤ (s.chan m).i → s.chEn m = true →
    ∃ t, exec (.modCmUpEnd m e) s = .next t ∧ t.chState m = 2 ∧ (t.chan m).fadeN = 0 ∧ (t.chan m).fadeUp = true
      ∧ SameRegs s t [rkey (chPage m) (chOff m Off.modC_STAT)] ∧ t.mem = s.mem ∧ t.eng = s.eng)
  ∧ (∀ (s : State) (m : Fin 32), s.chState m = 2 → s.fadeNum m (s.chan m).lastA = s.fadeLen m →
    exec (.modFadeInEnd m) s = .next (s.setChState m 3))
  ∧ (∀ (s : State) (m : Fin 32), s.chState m = 4 → s.fadeNum m (s.chan m).lastA = 0 →
    exec (.modFadeOutEnd m) s = .next ((s.setChan m { s.chan m with i := 0, zOn := false }).setChState m 5))
  ∧ (∀ (s : State) (m : Fin 32), s.chState m = 5 → s.rampLen m ≤ (s.chan m).i →
    ∃ t, exec (.modCmDownEnd m) s = .next t ∧ t.chState m = 0 ∧ (t.chan m).wA = 0 ∧ (t.chan m).wB = 0
      ∧ SameRegs s t [rkey (chPage m) (chOff m Off.modC_STAT)] ∧ t.mem = s.mem ∧ t.eng = s.eng)
  ∧ (∀ (s : State) (m : Fin 32), s.chState m = 6 → s.cooled m = true →
    exec (.modRetry m) s = .next (s.setChan m { s.chan m with upDue := true }))
  ∧ (∀ (s : State) (m : Fin 32), s.chState m = 3 →
    exec (.retryCntClear m) s = .next (s.setFld (chPage m) (chOff m Off.modC_STAT) 10 8 0))

/-- A switching period: a start, a CLR or a retry that waits begins CM_UP with it, and a retry is counted except
after THERMAL (R212, R214, R224); in CM_UP both pins carry equal pulses that rise by a step of the ramp (R219); in AD
mode pin B is the complement of pin A (R218). A qualified over-current cuts the period and is counted, and N of the
last M periods shut the channel down (R220, R221). The end of an impedance window after the first writes the ratio of
the sums, and a short shuts the channel down (R222). -/
def Obligations.ChannelPeriods : Prop :=
  (∀ (s : State) (m : Fin 32) (e : Nat), s.per ≠ 0 → s.works 10 = true →
    ((e : Int) - s.phase m * s.per / 64) % s.per = 0 → e / s.edgeS / s.T = s.tick →
    (s.dec (s.chV m)).stuck = false → (s.dec (s.chI m)).stuck = false →
    ∃ t, exec (.modSwitchingPeriod m e false) s = .next t ∧ t.mem = s.mem ∧ t.eng = s.eng
      ∧ ((s.chan m).upDue = true → t.chState m = 1 ∧ (t.chan m).i = 1 ∧ (t.chan m).wA = (t.chan m).wB
          ∧ (t.chan m).wA = s.per / (2 * s.rampLen m) ∧ t.chFld m Off.modC_STAT 21 16 = s.phase m
          ∧ t.chFld m Off.modC_STAT 10 8 = (if s.chState m = 6 ∧ s.chFld m Off.modC_STAT 6 4 ≠ 4 then
              min 7 (s.chFld m Off.modC_STAT 10 8 + 1) else s.chFld m Off.modC_STAT 10 8))
      ∧ ((s.chan m).upDue = false → t.chState m = s.chState m
          ∧ (s.chState m = 1 → (t.chan m).i = (s.chan m).i + 1 ∧ (t.chan m).wA = (t.chan m).wB
              ∧ (t.chan m).wA = s.per * ((s.chan m).i + 1) / (2 * s.rampLen m))
          ∧ (s.audible m = true → s.chFld m Off.modC_CFG 0 0 = 0 →
              (t.chan m).compl = true ∧ (t.chan m).wB = s.per - (t.chan m).wA)
          ∧ (s.switching m = false → t.chan m = { s.chan m with shutNow := false })))
  ∧ (∀ (s : State) (m : Fin 32), s.switching m = true → (s.chan m).cut = false →
    ∃ t, exec (.ocQualify m) s = .next t ∧ t.mem = s.mem ∧ t.eng = s.eng
      ∧ t.rg (chPage m) (chOff m Off.modC_OC_CNT) = min (s.rg (chPage m) (chOff m Off.modC_OC_CNT) + 1) 0xFFFFFFFF
      ∧ (t.chan m).wA = 0 ∧ (t.chan m).wB = 0
      ∧ (let hits := (((true :: (s.chan m).oc.drop 1).take (s.ocM m)).filter id).length
        (s.ocN m ≤ hits → t.switching m = false ∧ t.chFld m Off.modC_STAT 6 4 = 1)
        ∧ (hits < s.ocN m → t.chState m = s.chState m)))
  ∧ (∀ (s : State) (m : Fin 32) (j : Nat), s.audible m = true → j < s.T →
    ((s.tick + 1) * s.T + j + 1) % s.chFld m Off.modC_Z_CFG 7 0 = 0 →
    let c := (State.zSum m (j + 1) s).chan m
    let v := c.zV * s.chFld m Off.modC_VFS 19 0
    let i := c.zI * s.chFld m Off.modC_IFS 19 0
    ∃ t, exec (.zWindowEnd m j) s = .next t ∧ (t.chan m).zV = 0 ∧ (t.chan m).zI = 0 ∧ (t.chan m).zOn = true
      ∧ t.mem = s.mem ∧ t.eng = s.eng
      ∧ ((s.chan m).zOn = false → t.regs = s.regs)
      ∧ ((s.chan m).zOn = true → i ≠ 0 → v * 1000 / i < 2 ^ 32 →
          t.rg (chPage m) (chOff m Off.modC_Z_LAST) = v * 1000 / i)
      ∧ ((s.chan m).zOn = true → s.chFld m Off.modC_Z_CFG 31 16 * i ≤ v * 1000 → t.chState m = s.chState m)
      ∧ ((s.chan m).zOn = true → s.chFld m Off.modC_Z_IMIN 15 0 * s.chFld m Off.modC_Z_CFG 7 0 * 2 ^ 31 ≤ i →
          v * 1000 < s.chFld m Off.modC_Z_CFG 31 16 * i →
          t.switching m = false ∧ t.chFld m Off.modC_STAT 6 4 = 2))


/-! ## Rails and the thermal models -/

/-- A rail group's command follows V_FIX in fixed mode, and else the plan at the slew rates, with LATE counted where
the rise is too slow (R228); a RAIL_PWM period's high count and carried error make up the exact width, and its pulse
lies in the middle of the period, while the unit is not STRUCK (R229, R338). LOW is counted once per excursion (log
entry 55); an over-voltage of a running group latches it, its switching channels and its TRIPPED ones, with cause
RAIL, a channel that is fading out with EN = 0 goes OFF; a latched group keeps its command while its sense is read on
(log entry 55), and CLR ends the latch at V_MIN (R225, R230). The end of a resistance window (R232): a window with
too little current changes no temperature and clears VALID; a valid one writes the power-weighted resistance and
corrects the coil's rise by K_CORR / 256 of the difference. A gain word that met an error response is reported once
(R233). -/
def Obligations.RailsAndThermal : Prop :=
  (
    (∀ (s : State) (g : Fin 8) (j : Nat), s.railRuns g = true → s.railLatched g = false → j < s.T →
      let up := s.railFld g Off.railG_SLEW_UP 19 0 * 1000000 / s.fs
      let dn := s.railFld g Off.railG_SLEW_DN 19 0 * 1000000 / s.fs
      let c := s.rg pgRail (railOff g Off.railG_CMD)
      let plan := s.railPlan g (s.atBridge (s.tick * s.T + j)) up
      ∃ t, exec (.railCommand g j) s = .next t ∧ t.mem = s.mem ∧ t.eng = s.eng
        ∧ (s.railFld g Off.railG_CFG 0 0 = 0 →
            t.rg pgRail (railOff g Off.railG_CMD) = s.railFld g Off.railG_V_FIX 19 0 * 1000)
        ∧ (s.railFld g Off.railG_CFG 0 0 = 1 → ((c + up : Nat) : Int) < plan →
            t.rg pgRail (railOff g Off.railG_CMD) = c + up
            ∧ t.rg pgRail (railOff g Off.railG_LATE_CNT)
              = min (s.rg pgRail (railOff g Off.railG_LATE_CNT) + 1) 0xFFFFFFFF)
        ∧ (s.railFld g Off.railG_CFG 0 0 = 1 → plan ≤ ((c + up : Nat) : Int) →
            (t.rg pgRail (railOff g Off.railG_CMD) : Int) = max 0 (max plan ((c : Int) - dn))
            ∧ t.rg pgRail (railOff g Off.railG_LATE_CNT) = s.rg pgRail (railOff g Off.railG_LATE_CNT))
        ∧ (0 ≤ s.vMeas g → t.rg pgRail (railOff g Off.railG_V_MEAS) = (s.vMeas g).toNat % 2 ^ 20))
    ∧ (∀ (s : State) (g : Fin 8) (j : Nat), s.railRuns g = true → s.railLatched g = true → j < s.T →
      ∃ t, exec (.railCommand g j) s = .next t ∧ t.mem = s.mem ∧ t.eng = s.eng
        ∧ t.rg pgRail (railOff g Off.railG_CMD) = s.rg pgRail (railOff g Off.railG_CMD)
        ∧ t.bit pgRail (railOff g Off.railG_STAT) 2 = s.railFallback g
        ∧ (0 ≤ s.vMeas g → t.rg pgRail (railOff g Off.railG_V_MEAS) = (s.vMeas g).toNat % 2 ^ 20))
    ∧ (∀ (s : State) (g : Fin 8), s.railRuns g = true → s.railLatched g = false → s.railFld g Off.railG_VFS 19 0 ≠ 0 →
      256 ≤ s.railFld g Off.railG_RPER 14 0 → s.railFld g Off.railG_RPER 14 0 ≤ 16384 →
      ∃ t, exec (.railPwmPeriod g) s = .next t ∧ (t.rail g).high ≤ s.railFld g Off.railG_RPER 14 0
        ∧ ((t.rail g).high : Rat) + (t.rail g).e = (s.rail g).e
          + ((s.railFld g Off.railG_RPER 14 0 * s.rg pgRail (railOff g Off.railG_CMD) : Nat) : Rat)
            / ((s.railFld g Off.railG_VFS 19 0 * 1000 : Nat) : Rat)
        ∧ (s.pair.fenced = false → ∀ i : Nat, t.railPin g i = true ↔ (s.railFld g Off.railG_RPER 14 0 - (t.rail g).high) / 2 ≤ i
            ∧ i < (s.railFld g Off.railG_RPER 14 0 - (t.rail g).high) / 2 + (t.rail g).high)
        ∧ (s.pair.fenced = true → ∀ i : Nat, t.railPin g i = false) ∧ t.regs = s.regs ∧ t.mem = s.mem ∧ t.eng = s.eng)
    ∧ (∀ (s : State) (g : Fin 8), s.railRuns g = true → (s.rail g).lowSent = false → 1 ≤ (s.rail g).low →
      s.railFld g Off.railG_TIME 15 0 ≤ (s.rail g).low →
      ∃ t, exec (.railLow g) s = .next t ∧ (t.rail g).lowSent = true ∧ t.mem = s.mem ∧ t.eng = s.eng
        ∧ t.rg pgRail (railOff g Off.railG_LOW_CNT) = min (s.rg pgRail (railOff g Off.railG_LOW_CNT) + 1) 0xFFFFFFFF)
    ∧ (∀ (s : State) (g : Fin 8), (s.rail g).lowSent = true → exec (.railLow g) s = .next s)
    ∧ (∀ (s : State) (g : Fin 8), s.railRuns g = false → exec (.railOv g) s = .next s)
    ∧ (∀ (s : State) (g : Fin 8), s.railRuns g = true → s.railLatched g = false → 4 ≤ (s.rail g).above →
      ∃ t, exec (.railOv g) s = .next t ∧ t.railLatched g = true ∧ (t.rail g).high = 0 ∧ t.mem = s.mem ∧ t.eng = s.eng
        ∧ ∀ k : Fin 4, s.switching (4 * g.val + k.val) = true → s.chEn (4 * g.val + k.val) = true →
          t.chState (4 * g.val + k.val) = 7 ∧ t.chFld (4 * g.val + k.val) Off.modC_STAT 6 4 = 5)
    ∧ (∀ (s : State) (g : Fin 8), s.railRuns g = true → s.railLatched g = false → 4 ≤ (s.rail g).above →
      ∃ t, exec (.railOv g) s = .next t ∧ ∀ k : Fin 4,
        let m := 4 * g.val + k.val
        (s.switching m = true → s.chEn m = false → t.chState m = 0)
        ∧ (s.chState m = 6 → (s.chan m).shutNow = false → t.chState m = 7 ∧ t.chFld m Off.modC_STAT 6 4 = 5)
        ∧ (s.chState m = 0 → t.chState m = 0 ∧ t.chan m = s.chan m))
    ∧ (∀ (s : State) (v mid : Nat), s.admits pgRail Off.railCLR →
      ∃ t, exec (.railClr v mid) s = .next t ∧ t.drive = s.drive ∧ t.mem = s.mem ∧ t.eng = s.eng ∧ ∀ g : Fin 8,
        (bitN v g = true → s.railLatched g = true →
          t.railLatched g = false ∧ t.rg pgRail (railOff g Off.railG_CMD) = s.railMin g)
        ∧ (bitN v g = false ∨ s.railLatched g = false →
          t.railLatched g = s.railLatched g ∧ t.rg pgRail (railOff g Off.railG_CMD) = s.rg pgRail (railOff g Off.railG_CMD)))
  )
  ∧ (
    (∀ (s : State) (m : Fin 32), s.thmRuns m = true → 1 ≤ (s.thm m).cnt → s.thmFld m Off.thmC_CORR 31 16 ≤ (s.thm m).cnt →
      let ifs := s.chFld m Off.modC_IFS 19 0
      let imin := (s.thmFld m Off.thmC_IMIN 15 0 ^ 2 * 2 ^ 62 * ((s.thm m).cnt * s.T) : Nat)
      let w := (s.thm m).sii * (ifs ^ 2 : Nat)
      let rm := Int.fdiv ((s.thm m).svi * s.chFld m Off.modC_VFS 19 0 * 1000) ((s.thm m).sii * ifs)
      let ref := s.thmFld m Off.thmC_R_REF 19 0
      let al := s.thmFld m Off.thmC_REF 31 16
      let tm := (s.thmFld m Off.thmC_REF 15 0 * 4096 : Nat) + Int.fdiv ((rm - ref) * 10 ^ 6 * 2 ^ 16) (ref * al : Nat)
      ∃ t, exec (.thmWindowEnd m) s = .next t ∧ (t.thm m).svi = 0 ∧ (t.thm m).sii = 0 ∧ (t.thm m).cnt = 0
        ∧ (t.thm m).tc = (s.thm m).tc ∧ t.mem = s.mem ∧ t.eng = s.eng
        ∧ (w < (imin : Int) → t.bit (thmPage m) (thmOff m Off.thmC_STAT) 3 = false ∧ (t.thm m).dTvc = (s.thm m).dTvc)
        ∧ ((imin : Int) ≤ w → (s.thm m).sii * ifs ≠ 0 → ref * al ≠ 0 → -2 ^ 31 ≤ rm → rm < 2 ^ 31 →
            t.bit (thmPage m) (thmOff m Off.thmC_STAT) 3 = true
            ∧ t.rgS (thmPage m) (thmOff m Off.thmC_R_MEAS) = rm
            ∧ (t.thm m).dTvc = (s.thm m).dTvc + (tm - (s.thm m).tc) * s.thmFld m Off.thmC_CORR 7 0 / 256))
    ∧ (∀ (s : State) (m : Fin 32), (s.thm m).err = true → s.raises (thmPage m) = true →
      ∃ t, exec (.thmStoreError m) s = .next t ∧ t.thm m = { s.thm m with err := false }
        ∧ t.bit (thmPage m) Off.headINT_RAW 24 = true ∧ t.mem = s.mem ∧ t.eng = s.eng))

/-- Qualification (R243 to R245): lost activity disqualifies at once; a window's result is stored, and disqualifies
at the end of a run of rejected windows that lasts DISQ_T; the phase of a window is the measured one, or for
reference 4 that of the present position's instant (R304; log entry 92); the references that reach QUAL_T at one
moment become qualified, and with nothing selected the best qualified and eligible reference is selected (R250,
R257). Writes of REF: CFG and the limits take their value or are refused whole, with a normal response (R245, R246,
R499); a forced reference that can be selected is selected, and another leaves the selection (R250); a better one is
selected after REVERT_WAIT (R250). -/
def Obligations.ReferenceSelection : Prop :=
  (
    (∀ (s : State) (n : Fin 7), s.pageEn pgRef = true → s.refActive n = true →
      ∃ t, exec (.refActivityLost n) s = .next t ∧ t.refActive n = false ∧ t.refQual n = false
        ∧ (s.refQual n = true → t.rg pgRef (refOff n Off.refR_DISQ_CNT)
            = min (s.rg pgRef (refOff n Off.refR_DISQ_CNT) + 1) 0xFFFFFFFF)
        ∧ (s.refQual n = true → s.refSel = n → t.refSel ≠ n) ∧ (s.refSel ≠ n → t.refSel = s.refSel))
    ∧ (∀ (s : State) (n : Fin 7) (ofs phase : Int), s.pageEn pgRef = true → s.refWindow n ≠ 0 →
      (n.val = 4 → s.timeQual = 2) →
      (5 ≤ n.val → (s.crxPort (n - 5)).mark = true ∧ s.bit (pgCrx + (n - 5)) Off.crxSTAT 0 = true) → -2 ^ 31 ≤ ofs → ofs < 2 ^ 31 →
      let acc := decide (ofs.natAbs ≤ s.refFld n Off.refR_ACCEPT 23 0)
      let bad := if s.refFld n Off.refR_REJECT 23 0 < ofs.natAbs then (s.refMon n).bad + 1 else 0
      ∃ t, exec (.refWindowEnd n ofs phase) s = .next t ∧ t.rgS pgRef (refOff n Off.refR_OFFSET) = ofs
        ∧ t.refActive n = true ∧ (t.refMon n).bad = bad
        ∧ (t.refMon n).good = (if acc then (s.refMon n).good + 1 else 0) ∧ (t.refMon n).phase = (if n.val = 4 then s.mediaPhase else phase * psUnit)
        ∧ t.refFld n Off.refR_STAT 1 1 = b2n acc
        ∧ (acc = false → 1 ≤ bad → s.refFld n Off.refR_TIMES 31 16 ≤ (bad - 1) * s.refWindow n → t.refQual n = false)
        ∧ (bad = 0 ∨ (bad - 1) * s.refWindow n < s.refFld n Off.refR_TIMES 31 16 →
            t.refQual n = s.refQual n ∧ t.refSel = s.refSel))
    ∧ (∀ (s : State) (refs : Nat), s.pageEn pgRef = true →
      let now (n : Nat) := bitN refs n && s.refReady n
      ∃ t, exec (.refQualified refs) s = .next t ∧ (∀ n, n < 7 → t.refQual n = (s.refQual n || now n))
        ∧ (s.refSel < 7 → t.refSel = s.refSel)
        ∧ (s.refSel = 7 → ∀ n, n < 7 → now n = true → s.eligible n = true →
            t.refSel < 7 ∧ t.refQual t.refSel = true ∧ s.eligible t.refSel = true ∧ ∀ m, m < 7 → t.refQual m = true →
              s.eligible m = true → s.refRank t.refSel ≤ s.refRank m))
  )
  ∧ (
    (∀ (s : State) (n : Fin 7) (v mid : Nat), s.admits pgRef (refOff n Off.refR_CFG) →
      let fixed := bitsN (s.rg pgRef (refOff n Off.refR_CFG)) 2 1 ≠ bitsN v 2 1
        ∨ bitsN (s.rg pgRef (refOff n Off.refR_CFG)) 6 4 ≠ bitsN v 6 4
      let w := if 5 ≤ n.val then putBits (v &&& 0x1F777) 15 12 (s.refQuality n) else v &&& 0x1F777
      (s.refSel = n ∧ fixed → ∃ t, exec (.refCfgWrite n v mid) s = .next t
        ∧ t.rg pgRef (refOff n Off.refR_CFG) = s.rg pgRef (refOff n Off.refR_CFG)
        ∧ t.resp = { err := false, data := [] } ∧ t.refSel = s.refSel)
      ∧ (¬ (s.refSel = n ∧ fixed) → ∃ t, exec (.refCfgWrite n v mid) s = .next t
        ∧ t.rg pgRef (refOff n Off.refR_CFG) = w ∧ t.resp = { err := false, data := [] }
        ∧ (bitN w 0 = true → bitsN w 15 12 < 15 → t.refQual n = s.refQual n ∧ t.refSel = s.refSel)
        ∧ (bitN w 0 = false ∨ bitsN w 15 12 = 15 → t.refQual n = false)))
    ∧ (∀ (s : State) (n : Fin 7) (reject : Bool) (v mid : Nat),
      s.admits pgRef (refOff n (if reject then Off.refR_REJECT else Off.refR_ACCEPT)) → v < 2 ^ 24 →
      let o := refOff n (if reject then Off.refR_REJECT else Off.refR_ACCEPT)
      let good := if reject then s.refFld n Off.refR_ACCEPT 23 0 < v else v < s.refFld n Off.refR_REJECT 23 0
      ∃ t, exec (.refLimitWrite n reject v mid) s = .next t ∧ t.resp = { err := false, data := [] }
        ∧ t.mem = s.mem ∧ t.eng = s.eng ∧ t.rg pgRef o = (if good then v else s.rg pgRef o))
    ∧ (∀ (s : State) (v mid : Nat), s.admits pgRef Off.refCTL → bitN v 1 = true →
      ∃ t, exec (.refForce v mid) s = .next t ∧ t.resp = { err := false, data := [] }
        ∧ (bitsN v 6 4 ∈ s.candidates → t.refSel = bitsN v 6 4 ∧ t.bit pgRef Off.refSEL 8 = true)
        ∧ (bitsN v 6 4 ∉ s.candidates → t.refSel = s.refSel ∧ t.rg pgRef Off.refCTL = s.rg pgRef Off.refCTL))
    ∧ (∀ (s : State) (n : Fin 7), s.bit pgRef Off.refCTL 0 = true → s.forced = false → s.refSel < 7 → n.val ∈ s.candidates →
      s.refRank n < s.refRank s.refSel →
      ∃ t, exec (.refRevert n) s = .next t ∧ t.refSel = n ∧ t.mem = s.mem ∧ t.eng = s.eng))

/-- The DPLL's transitions (R252, R253): within LOCK_PHASE and LOCK_FREQ, LOCK is taken and keeps the drift average,
which is formed by log entry 90 and truncated by log entry 13; beyond UNLOCK_PHASE unlocking leads to ACQ, and within
it neither happens (that the limit holds at the end of its time: log entry 19); a valid history shows, and its end
leads from HOLD to LOST, which strikes a unit in a pair (R252, R347); HOLD_LIMIT is kept up to 86,400 s and ends a
longer holdover; the ends of a slew and of the PNT3 pulse clear them. A write to STEP that is in range is applied
over the next tick, and another is refused without effect on the phase (R256, R499); a crown announces it on both
ports (R321), and after its tick PHASE_OFS holds the sum (R256). -/
def Obligations.DpllAndPhaseSteps : Prop :=
  (
    (∀ s : State, s.dpllState = 1 → s.slewing = false → s.refSel < 7 → s.lockNear = true →
      ∃ t, exec .dpllLock s = .next t ∧ t.dpllState = 2 ∧ t.mem = s.mem ∧ t.eng = s.eng
        ∧ t.rgS pgRef (refOff s.refSel Off.refR_LOCK_OFS) = toSigned 32 (ofSigned 32 ((s.refMon s.refSel).avg.tdiv (2 ^ 20))))
    ∧ (∀ s : State, s.lockNear = false → exec .dpllLock s = .next s)
    ∧ (∀ s : State, (s.phaseDiff s.refSel).natAbs ≤ s.fld pgDpll Off.dpllUNLOCK_PHASE 23 0 * psUnit →
      exec .dpllUnlock s = .next s)
    ∧ (∀ s : State, s.dpllState = 2 → s.fld pgDpll Off.dpllUNLOCK_PHASE 23 0 * psUnit < (s.phaseDiff s.refSel).natAbs →
      ∃ t, exec .dpllUnlock s = .next t ∧ t.dpllState = 1 ∧ t.dpll.histLive = false
        ∧ t.dpll.record = [] ∧ t.mem = s.mem ∧ t.eng = s.eng)
    ∧ (∀ s : State, s.dpllState = 2 → s.dpll.histLive = false → ∃ t, exec .dpllHistoryValid s = .next t
        ∧ t.histValid = true ∧ t.dpllState = 2 ∧ t.dpll = { s.dpll with histLive := true }
        ∧ SameRegs s t [rkey pgDpll Off.dpllSTATE] ∧ t.mem = s.mem ∧ t.eng = s.eng)
    ∧ (∀ s : State, s.histValid = true → s.dpll.histLive = false → ∃ t, exec .dpllHoldExpire s = .next t
        ∧ t.histValid = false ∧ (s.dpllState ≠ 3 → t.dpllState = s.dpllState)
        ∧ (s.dpllState = 3 → s.pairState = 0 → t.dpllState = 4) ∧ (s.dpllState = 3 → s.pairState ≠ 0 → t.pairState = 6))
    ∧ (∀ s : State, s.slewing = true → s.dpll.slew = s.dpll.part ∨ s.pageEn pgEsc = false →
      ∃ t, exec .dpllSlewDone s = .next t ∧ t.slewing = false
        ∧ t.dpllState = s.dpllState ∧ t.dpll.slew = 0 ∧ t.dpll.steps = s.dpll.steps ∧ t.mem = s.mem ∧ t.eng = s.eng)
    ∧ (∀ s : State, s.dpll.pnt3 = true →
      exec .pnt3PulseEnd s = .next { s with dpll := { s.dpll with pnt3 := false } })
    ∧ (∀ (s : State) (v mid : Nat), s.admits pgRef Off.refHOLD_LIMIT →
      let lim := min (v % 2 ^ 17) 86400
      let ends := s.dpllState = 3 ∧ (rawSec lim < s.histElapsed ∨ lim = 0)
      ∃ t, exec (.holdLimitWrite v mid) s = .next t ∧ t.rg pgRef Off.refHOLD_LIMIT = lim
        ∧ (¬ ends → t.dpllState = s.dpllState) ∧ (ends → s.pairState = 0 → t.dpllState = 4)
        ∧ (ends → s.pairState ≠ 0 → t.pairState = 6))
  )
  ∧ (
    (∀ (s : State) (v mid : Nat), s.admits pgDpll Off.dpllSTEP →
      (s.stepRefused (toSigned 32 v) = false → ∃ t, exec (.dpllStepWrite v mid) s = .next t
        ∧ t.dpll.steps = [(toSigned 32 v, s.tick + 1)] ∧ t.bit pgDpll Off.dpllSTATE 10 = true
        ∧ SameRegs s t [rkey pgDpll Off.dpllSTATE] ∧ t.resp = { err := false, data := [] } ∧ t.mem = s.mem
        ∧ t.eng = s.eng)
      ∧ (s.stepRefused (toSigned 32 v) = true → ∃ t, exec (.dpllStepWrite v mid) s = .next t
        ∧ t.dpll = s.dpll ∧ t.rg pgDpll Off.dpllSTATE = s.rg pgDpll Off.dpllSTATE
        ∧ t.rg pgDpll Off.dpllPHASE_OFS = s.rg pgDpll Off.dpllPHASE_OFS ∧ t.resp = { err := false, data := [] }
        ∧ t.mem = s.mem ∧ t.eng = s.eng))
    ∧ (∀ (s : State) (i : Int) (k : Nat), s.dpll.steps = [(i, k)] → k < s.tick →
      ∃ t, exec .dpllStepDone s = .next t ∧ t.dpll.steps = [] ∧ t.bit pgDpll Off.dpllSTATE 10 = false
        ∧ t.rgS pgDpll Off.dpllPHASE_OFS = toSigned 32 (ofSigned 32 (s.rgS pgDpll Off.dpllPHASE_OFS + i))
        ∧ t.mem = s.mem ∧ t.eng = s.eng)
    ∧ (∀ (s : State) (i : Int), s.sendsCrown = true → s.dpll.announced = false → s.dpll.steps = [(i, s.tick)] →
      exec .stepAnnounce s = .next { s with dpll := { s.dpll with
        announced := true, sent := [(0, s.stackId, i, s.tick), (1, s.stackId, i, s.tick)] } }))


/-! ## The time base -/

/-- Reading TIME_NS captures the time (R297); a commit of RATE clamps it, and it takes effect at the next raw count,
where the time is continuous (R298); a GO of an armed step in range ends STEP_ARMED, and at the next raw count the
time moves by S, the quality becomes FREE and the anchor is dropped; a GO not armed, out of range, or while a step
waits (log entry 104) is refused and changes nothing else (R299, R305, R307, R499); SYNC, UNSYNC, KEEPALIVE and the
watchdog move the quality (R300, R301); a write of MEDIA_OFS drops the anchor, whose registers then read 0 (R305; log
entry 92). -/
def Obligations.TimeBase : Prop :=
  (∀ (s : State) (mid : Nat), s.readable pgPtp Off.ptpTIME_NS →
    ∃ t, exec (.ptpTimeRead mid) s = .next t ∧ t.resp = { err := false, data := toLE 4 (timeNs s.tq s.timeQual) }
      ∧ t.rg pgPtp Off.ptpTIME_S_LO = tqSec s.tq % 2 ^ 32 ∧ t.rg pgPtp Off.ptpTIME_S_HI = timeHi s.tq % 2 ^ 32
      ∧ SameRegs s t [rkey pgPtp Off.ptpTIME_NS, rkey pgPtp Off.ptpTIME_S_LO, rkey pgPtp Off.ptpTIME_S_HI]
      ∧ t.ptp = s.ptp ∧ t.mem = s.mem ∧ t.eng = s.eng)
  ∧ (∀ (s : State) (v mid : Nat), s.admits pgPtp Off.ptpRATE_HI →
    let r := clampN rateMin rateMax (s.rg pgPtp Off.ptpRATE_LO + v % 2 ^ 16 * 2 ^ 32)
    ∃ t, exec (.ptpRateCommit v mid) s = .next t ∧ t.ptp = { s.ptp with commit := some r }
      ∧ t.ptp.count.rate = r ∧ (s.ptp.step = none → tqAt t.ptp.count t.ptp.count.raw = tqAt s.ptp t.ptp.count.raw)
      ∧ t.rg64 pgPtp Off.ptpRATE_LO Off.ptpRATE_HI = r ∧ t.mem = s.mem ∧ t.eng = s.eng)
  ∧ (∀ (s : State) (v mid : Nat), s.admits pgPtp Off.ptpSTEP_CTL → bitN v 31 = true →
    let d := toSigned 64 (s.rg64 pgPtp Off.ptpSTEP_LO Off.ptpSTEP_HI) * 2 ^ 16 + (v % 2 ^ 16 : Nat)
    let dst := tqAt s.ptp (s.ptp.raw + 1) + d
    (s.stepArmed = true → s.ptp.step = none → 0 ≤ dst → dst < 2 ^ 48 * 10 ^ 9 * 2 ^ 16 →
      ∃ t, exec (.ptpStepGo v mid) s = .next t ∧ t.ptp = { s.ptp with step := some d } ∧ t.stepArmed = false
        ∧ t.timeQual = s.timeQual ∧ t.rg pgPtp Off.ptpSTEP_CTL = v % 2 ^ 16 ∧ t.mem = s.mem ∧ t.eng = s.eng)
    ∧ (s.stepArmed = false ∨ s.ptp.step ≠ none ∨ dst < 0 ∨ 2 ^ 48 * 10 ^ 9 * 2 ^ 16 ≤ dst →
      ∃ t, exec (.ptpStepGo v mid) s = .next t ∧ t.ptp = s.ptp ∧ t.timeQual = s.timeQual ∧ t.stepArmed = s.stepArmed
        ∧ t.rg pgPtp Off.ptpSTEP_CTL = s.rg pgPtp Off.ptpSTEP_CTL
        ∧ t.resp = { err := false, data := [] } ∧ t.mem = s.mem ∧ t.eng = s.eng
        ∧ t.fld pgPtp Off.ptpSTAT 6 4 = (if s.stepArmed = false ∨ s.ptp.step ≠ none then 1 else 3)))
  ∧ (∀ (s : State) (d : Int), s.ptp.step = some d → s.ptp.commit = none →
    let t := s.timeCount
    t.ptp.raw = (s.ptp.raw + 1) % 2 ^ 64 ∧ (∀ c, tqAt t.ptp c = tqAt s.ptp c + d) ∧ t.ptp.step = none
    ∧ t.timeQual = 1 ∧ t.bit pgPtp Off.ptpSTAT 3 = false
    ∧ t.rg pgPtp Off.ptpSTEP_CNT = min (s.rg pgPtp Off.ptpSTEP_CNT + 1) 0xFFFFFFFF)
  ∧ (∀ (s : State) (v mid : Nat), s.admits pgPtp Off.ptpCTL →
    (bitN v 0 = true → bitN v 1 = false → s.timeQual = 1 ∨ s.timeQual = 3 →
      ∃ t, exec (.ptpSync v mid) s = .next t ∧ t.timeQual = 2 ∧ t.stepArmed = false
        ∧ (s.pageEn pgRef = true → t.refActive 4 = true) ∧ t.ptp = s.ptp ∧ t.mem = s.mem
        ∧ t.eng = s.eng)
    ∧ (bitN v 0 = true → bitN v 1 = false → s.timeQual = 0 →
      ∃ t, exec (.ptpSync v mid) s = .next t ∧ t.timeQual = 0 ∧ t.fld pgPtp Off.ptpSTAT 6 4 = 2 ∧ t.ptp = s.ptp
        ∧ t.resp = { err := false, data := [] } ∧ t.mem = s.mem ∧ t.eng = s.eng)
    ∧ (bitN v 0 = true → bitN v 1 = false → s.timeQual = 2 → exec (.ptpSync v mid) s = .next s.ok)
    ∧ (bitN v 1 = true →
      ∃ t, exec (.ptpUnsync v mid) s = .next t ∧ t.timeQual = 1 ∧ t.stepArmed = true ∧ t.ptp = s.ptp)
    ∧ (bitN v 2 = true → bitN v 1 = false → bitN v 0 = false → exec (.ptpKeepalive v mid) s = .next s.ok))
  ∧ (∀ s : State, s.timeQual = 2 → s.mode ≠ 4 → s.ptp.commit = none → s.ptp.committed ≠ some s.ptp.raw →
    ∃ t, exec .ptpSyncWatchdog s = .next t ∧ t.timeQual = 1 ∧ t.ptp = s.ptp)
  ∧ (∀ (s : State) (v mid : Nat), s.admits pgPtp Off.ptpMEDIA_OFS →
    ∃ t, exec (.mediaOfsWrite v mid) s = .next t ∧ t.rg pgPtp Off.ptpMEDIA_OFS = v % 2 ^ 32
      ∧ t.bit pgPtp Off.ptpSTAT 3 = false ∧ t.rg64 pgPtp Off.ptpANCHOR_LO Off.ptpANCHOR_HI = 0
      ∧ SameRegs s t [rkey pgPtp Off.ptpMEDIA_OFS, rkey pgPtp Off.ptpANCHOR_LO, rkey pgPtp Off.ptpANCHOR_HI,
          rkey pgPtp Off.ptpSTAT] ∧ t.mem = s.mem ∧ t.eng = s.eng)

/-- Received frames: one that fails a check of R266 is counted and nothing else changes; an accepted one of no stream
is written to the buffer at HEAD of the receive ring, with its length and DONE, and to no other byte, or is counted
as dropped where the ring is empty (R288, R289); one of running streams joins the packets of each of them that its
fields suit (R282). PAUSE stops the port where it is enabled and outside the holdoff, until it ends or its watchdog
ends it (R269, R270). -/
def Obligations.NetworkReceive : Prop :=
  (∀ (s : State) (p : Fin 5) (bs : List Byte) (raw16 : Nat), s.macEn p = true → isPause bs = false →
    (∀ i, s.rxCheck p bs = some i → exec (.macRxFrame p bs raw16) s = .next (s.count64 p i 1))
    ∧ (s.rxCheck p bs = none → isEvent bs = false → tagged bs = false →
        (p.val = 4 ∨ ∀ n, n < 256 → (s.strmRuns 0 n && s.sPort 0 n == p && s.rxMatch n bs) = false) →
        let r : Ring := ⟨pgMac + p, Off.macRXR⟩
        (s.ringReady r bs.length → bs.length ≤ s.ringBlen r →
          ∃ t, exec (.macRxFrame p bs raw16) s = .next t
            ∧ (∀ i, i < bs.length → t.byte (s.ringBuf r + i) = bs.getD i 0)
            ∧ t.le (s.ringAddr r + 12) 2 = bs.length ∧ t.le (s.ringAddr r + 14) 2 = 1
            ∧ (∀ a, ¬ (s.ringBuf r ≤ a ∧ a < s.ringBuf r + bs.length)
                → ¬ (s.ringAddr r + 12 ≤ a ∧ a < s.ringAddr r + 16) → t.byte a = s.byte a)
            ∧ t.ringHead r = (if s.ringHead r + 1 < s.ringLen r then s.ringHead r + 1 else 0) ∧ t.eng = s.eng)
        ∧ (s.ringWork r = false →
          ∃ t, exec (.macRxFrame p bs raw16) s = .next t ∧ t.mem = s.mem ∧ t.eng = s.eng
            ∧ t.rg64 (pgMac + p) (Off.macCounters + 48) (Off.macCounters + 52)
              = min (s.rg64 (pgMac + p) (Off.macCounters + 48) (Off.macCounters + 52) + 1) (2 ^ 64 - 1)))
    ∧ (∀ n : Nat, n < 256 → s.rxCheck p bs = none → p.val < 4 → s.mode ≠ 3 → s.strmRuns 0 n = true →
        s.sPort 0 n = p.val → s.rxMatch n bs = true →
        ∃ t, exec (.macRxFrame p bs raw16) s = .next t ∧ t.mem = s.mem ∧ t.eng = s.eng
          ∧ (t.rxs n).pend = (s.rxs n).pend ++ (if s.rxFields n bs then [s.rxPkt n bs] else [])))
  ∧ (∀ (s : State) (p : Fin 5) (bs : List Byte), s.macEn p = true → isPause bs = true → s.rxCheck p bs = none →
    ∃ t, exec (.macPauseFrame p bs) s = .next t ∧ t.mem = s.mem ∧ t.eng = s.eng
      ∧ t.macStat p 2 = (if s.macCfg p 2 = true ∧ s.macStat p 3 = false then decide (pauseQuanta bs ≠ 0) else s.macStat p 2))
  ∧ (∀ (s : State) (p : Fin 5), s.macStat p 2 = true →
    exec (.pauseEnd p) s = .next (s.setMacStat p 2 false)
    ∧ ∃ t, exec (.pauseWatchdog p) s = .next t ∧ t.macStat p 2 = false ∧ t.macStat p 3 = true ∧ t.mem = s.mem
      ∧ t.eng = s.eng)
  ∧ (∀ (s : State) (p : Fin 5), s.macStat p 3 = true → exec (.pauseHoldoffEnd p) s = .next (s.setMacStat p 3 false))
  ∧ (∀ (s : State) (p : Fin 5) (lock clean : Bool), s.pageEn (pgMac + p) = true →
    ∃ t, exec (.macLinkChange p lock clean) s = .next t ∧ t.macStat p 0 = (s.bit (pgMac + p) Off.macCTL 0 && lock && clean)
      ∧ t.macStat p 1 = lock ∧ (∀ q, t.mac q = if q = p then { s.mac p with clean := clean } else s.mac q)
      ∧ t.mem = s.mem ∧ t.eng = s.eng)
  ∧ (∀ (s : State) (p : Fin 5) (v mid : Nat), s.admits (pgMac + p) Off.macCTL → bitN v 1 = true →
    ∃ t, exec (.macCntClr p v mid) s = .next t ∧ t.bit (pgMac + p) Off.macCTL 0 = bitN v 0
      ∧ t.macStat p 0 = (bitN v 0 && s.macStat p 1 && (s.mac p).clean) ∧ t.mem = s.mem ∧ t.eng = s.eng
      ∧ ∀ i, i < 27 → t.rg (pgMac + p) (Off.macCounters + 4 * i) = 0)

/-- Transmission: TAIL takes its value; with no work in the rings a port starts the oldest packet of the highest
queue that may start, before a frame of the same queue's ring (log entry 27), or the frame in its only ring with
work, padded and with its FCS (R267, R272); the FCS is the CRC of the standards, its least significant byte first
(log entries 18 and 88). A ring frame longer than MAX_FRAME admits is refused: its descriptor gets DONE and ERR,
TX_REFUSED counts it, and HEAD advances (R267). A packet sent is counted, and a ring frame sent gets DONE in its
descriptor (R289). Low-power idle is entered with nothing that could start and queue 7's gate shut for the wake time,
and left; the partner's is shown (R271). The gate list: CHANGE makes the change pending; at the change time the admin
list becomes oper and entry 0 acts; entries follow in order and the last lasts to the cycle's end; GCL_DATA writes
the admin list of a port without a pending change (R273, R294). -/
def Obligations.NetworkTransmit : Prop :=
  (∀ (s : State) (u : Fin 7) (k : Fin 8) (v mid : Nat) (r : Ring), ringOf u k = some r → s.admits r.page (r.off + 12) →
    exec (.ringTailWrite u k v mid) s = .next (s.ok.setRg r.page (r.off + 12) (v % 2 ^ 16)))
  ∧ (∀ (s : State) (p : Fin 5) (left : List Nat) (woken : Bool) (q : Nat) (x : StrmPkt), s.macEn p = true →
    s.macStat p 0 = true → (s.mac p).tx = none → s.macStat p 4 = false → woken = true ∨ (s.mac p).waking = false → q < 8 →
    (∀ k, k < 7 → s.ringWork (txRing p k) = false) →
    (s.mac p).q.find? (fun x => x.queue == q) = some x → s.mayStart p q x.frame.length left = true →
    (∀ k, q < k → k < 8 → ∀ y, (s.mac p).q.find? (fun x => x.queue == k) = some y →
      s.mayStart p k y.frame.length left = false) →
    ∃ t, exec (.macTxStart p left woken) s = .next t ∧ t.regs = s.regs ∧ t.mem = s.mem ∧ t.eng = s.eng
      ∧ t.mac p = { s.mac p with waking := false, tx := some (.strm x), q := (s.mac p).q.erase x })
  ∧ (∀ (s : State) (p : Fin 5) (left : List Nat) (woken : Bool) (q : Nat), s.macEn p = true → s.macStat p 0 = true →
    (s.mac p).tx = none → (s.mac p).q = [] → s.macStat p 4 = false → woken = true ∨ (s.mac p).waking = false →
    q < (if p.val = 4 then 1 else 7) → (∀ k, k < 7 → k ≠ q → s.ringWork (txRing p k) = false) →
    let r := txRing p q
    let n := s.ringBlen r
    s.ringReady r n → 1 ≤ n → n + 4 ≤ s.maxFrame p → s.mayStart p q (max n 60 + 4) left = true →
    let f := s.bytes (s.ringBuf r) n ++ List.replicate (60 - n) 0
    ∃ t, exec (.macTxStart p left woken) s = .next t ∧ t.regs = s.regs ∧ t.mem = s.mem ∧ t.eng = s.eng
      ∧ (t.mac p).tx = some (.ring q (f ++ toLE 4 (crc32 f))))
  ∧ (∀ (s : State) (p : Fin 5) (left : List Nat) (woken : Bool) (q : Nat) (x : StrmPkt), s.macEn p = true →
    s.macStat p 0 = true → (s.mac p).tx = none → (s.mac p).q = [x] → x.queue = q → s.macStat p 4 = false →
    woken = true ∨ (s.mac p).waking = false → q < (if p.val = 4 then 1 else 7) → (∀ k, k < 7 → k ≠ q → s.ringWork (txRing p k) = false) →
    let n := s.ringBlen (txRing p q)
    s.ringReady (txRing p q) n → 1 ≤ n → n + 4 ≤ s.maxFrame p → s.mayStart p q x.frame.length left = true →
    ∃ t, exec (.macTxStart p left woken) s = .next t ∧ t.regs = s.regs ∧ t.mem = s.mem ∧ t.eng = s.eng
      ∧ t.mac p = { s.mac p with waking := false, tx := some (.strm x), q := [] })
  ∧ (∀ (s : State) (p : Fin 5) (left : List Nat) (woken : Bool) (q : Nat), s.macEn p = true → s.macStat p 0 = true →
    (s.mac p).tx = none → (s.mac p).q = [] → s.macStat p 4 = false → woken = true ∨ (s.mac p).waking = false →
    q < (if p.val = 4 then 1 else 7) → (∀ k, k < 7 → k ≠ q → s.ringWork (txRing p k) = false) →
    let r := txRing p q
    let n := s.ringBlen r
    let head := if s.ringHead r + 1 < s.ringLen r then s.ringHead r + 1 else 0
    s.ringReady r n → s.maxFrame p < n → s.ringTail r = head →
    ∃ t, exec (.macTxStart p left woken) s = .next t ∧ t.eng = s.eng ∧ (t.mac p).tx = none ∧ t.ringHead r = head
      ∧ t.le (s.ringAddr r + 14) 2 = 9
      ∧ (∀ a, ¬ (s.ringAddr r + 14 ≤ a ∧ a < s.ringAddr r + 16) → t.byte a = s.byte a)
      ∧ t.rg64 (pgMac + p) (Off.macCounters + 72) (Off.macCounters + 76)
        = min (s.rg64 (pgMac + p) (Off.macCounters + 72) (Off.macCounters + 76) + 1) (2 ^ 64 - 1))
  ∧ (∀ (s : State) (p : Fin 5) (raw16 q : Nat) (bs : List Byte), (s.mac p).tx = some (.ring q bs) → isEvent bs = false →
    let r := txRing p q
    s.storeOk (s.ringAddr r) 16 → s.noSlot (s.ringAddr r) 16 → q < (if p.val = 4 then 1 else 7) →
    ∃ t, exec (.macTxDone p raw16) s = .next t ∧ (t.mac p).tx = none ∧ t.le (s.ringAddr r + 14) 2 = 1
      ∧ (∀ a, ¬ (s.ringAddr r + 14 ≤ a ∧ a < s.ringAddr r + 16) → t.byte a = s.byte a)
      ∧ t.ringHead r = (if s.ringHead r + 1 < s.ringLen r then s.ringHead r + 1 else 0) ∧ t.eng = s.eng)
  ∧ (∀ (s : State) (p : Fin 5) (raw16 : Nat) (x : StrmPkt), (s.mac p).tx = some (.strm x) →
    ∃ t, exec (.macTxDone p raw16) s = .next t ∧ (t.mac p).tx = none ∧ (t.mac p).q = (s.mac p).q
      ∧ t.rg64 (pgMac + p) (Off.macCounters + 56) (Off.macCounters + 60)
        = min (s.rg64 (pgMac + p) (Off.macCounters + 56) (Off.macCounters + 60) + 1) (2 ^ 64 - 1)
      ∧ t.mem = s.mem ∧ t.eng = s.eng)
  ∧ (∀ (s : State) (p : Fin 4) (left : List Nat) (opens : Option Nat), s.macEn p = true →
    exec (.lpiEnter p true left opens) s = .next (s.setMacStat p 5 true)
    ∧ (s.macCfg p 3 = true → s.macStat p 4 = false → (s.mac p).tx = none →
        (∀ q x n, q < 8 → s.queueHead p q = some (x, n) → s.mayStart p q n left = false) →
        (∀ d, opens = some d →
          1000 * (s.fld (pgMac + p) Off.macEEE_TW 15 0 + s.fld (pgMac + p) Off.macEEE_GUARD 15 0) < d) →
        ∃ t, exec (.lpiEnter p false left opens) s = .next t ∧ t.macStat p 4 = true ∧ t.net = s.net ∧ t.mem = s.mem
          ∧ t.eng = s.eng))
  ∧ (∀ (s : State) (p : Fin 4), exec (.lpiExit p true) s = .next (s.setMacStat p 5 false)
    ∧ (s.macStat p 4 = true → exec (.lpiExit p false) s
        = .next ((s.setMacStat p 4 false).setMac p { s.mac p with waking := true })))
  ∧ (∀ (s : State) (p : Fin 4) (v mid : Nat), s.admits pgTsn (tsnOff p Off.tsnP_CTL) → bitN v 1 = true →
    ∃ t, exec (.gclChange p v mid) s = .next t ∧ t.gclPending p = true
      ∧ t.bit pgTsn (tsnOff p Off.tsnP_CTL) 0 = bitN v 0 ∧ SameRegs s t [rkey pgTsn (tsnOff p Off.tsnP_CTL)]
      ∧ t.net = s.net ∧ t.mem = s.mem ∧ t.eng = s.eng)
  ∧ (∀ (s : State) (p : Fin 4), s.gclPending p = true →
    ∃ t, exec (.gclConfigChange p) s = .next t ∧ t.gclPending p = false ∧ (t.gcl p).admin = (s.gcl p).admin
      ∧ (∀ i, smapGet zeroW (t.gcl p).oper i
          = (if i < s.rg pgTsn (tsnOff p Off.tsnP_LEN) % 512 then smapGet zeroW (s.gcl p).admin i else 0))
      ∧ t.fld pgTsn (tsnOff p Off.tsnP_OPER) 23 16 = 0 ∧ t.mem = s.mem ∧ t.eng = s.eng)
  ∧ (∀ (s : State) (p : Fin 4) (cycleEnd : Bool), s.fld pgTsn (tsnOff p Off.tsnP_OPER) 8 0 ≠ 0 →
    let i := s.fld pgTsn (tsnOff p Off.tsnP_OPER) 23 16
    let j := if cycleEnd then 0 else i + 1
    (cycleEnd = true ∨ i + 1 < s.fld pgTsn (tsnOff p Off.tsnP_OPER) 8 0 →
      ∃ t, exec (.gateEntryChange p cycleEnd) s = .next t ∧ t.fld pgTsn (tsnOff p Off.tsnP_OPER) 23 16 = j % 256
        ∧ t.fld pgTsn (tsnOff p Off.tsnP_OPER) 31 24 = (smapGet zeroW (s.gcl p).oper j).toNat % 256
        ∧ SameRegs s t [rkey pgTsn (tsnOff p Off.tsnP_OPER)] ∧ t.net = s.net ∧ t.mem = s.mem ∧ t.eng = s.eng)
    ∧ (cycleEnd = false → s.fld pgTsn (tsnOff p Off.tsnP_OPER) 8 0 ≤ i + 1 →
      exec (.gateEntryChange p cycleEnd) s = .next s))
  ∧ (∀ (s : State) (v mid : Nat), s.admits pgTsn Off.tsnGCL_DATA →
    let a := s.rg pgTsn Off.tsnGCL_ADDR
    let p := bitsN a 9 8
    (bitN a 10 = true → exec (.gclDataWrite v mid) s = .next s.ok)
    ∧ (bitN a 10 = false → s.gclPending p = false →
      ∃ t, exec (.gclDataWrite v mid) s = .next t ∧ t.regs = s.regs ∧ t.mem = s.mem ∧ t.eng = s.eng
        ∧ ∀ i, smapGet zeroW (t.gcl p).admin i
          = (if i = bitsN a 7 0 then w32 v else smapGet zeroW (s.gcl p).admin i))
    ∧ (bitN a 10 = false → s.gclPending p = true →
      ∃ t, exec (.gclDataWrite v mid) s = .next t ∧ t.net = s.net ∧ t.resp = { err := false, data := [] }
        ∧ t.mem = s.mem ∧ t.eng = s.eng))

/-- Streams: at its launch instant a packet is formed and counted; the stream's previous one that is still queued
goes and counts TX_LATE, and where the unit drives its outputs and the port has a link the packet enters its queue,
unless it is too long (R267, R280). A received packet with a term below TERM_HI is dropped (R286); a sample in time
is written to its place in the jitter buffer, whose layout is log entry 28, and a late one is counted (R283). Ramp
events are reported (R284); MC_OFS accepts a write while no stream runs, and its upper half then loads the latch of
the pair (R9, R279, R499). -/
def Obligations.AudioStreams : Prop :=
  (∀ (s : State) (n : Fin 256) (h : Nat × SMap Word), s.strmRuns 1 n = true → s.mode = 1 ∨ s.mode = 2 →
    s.agentStopped 7 = false → s.pair.fenced = false → h ∈ s.sig.hist → (s.nextPacket n).2 / s.T ≤ h.1 →
    ∃ t, exec (.streamTxPacket n) s = .next t ∧ (t.txs n).count = (s.txs n).count + 1
      ∧ (t.txs n).next = (s.nextPacket n).2 + 1 ∧ t.mem = s.mem ∧ t.eng = s.eng
      ∧ (t.mac (s.sPort 1 n)).q = (s.mac (s.sPort 1 n)).q.filter (fun y => y.strm != n.val)
          ++ (let x := s.packet n (s.nextPacket n).1
              if s.macStat (s.sPort 1 n) 0 && !s.inShadow && !s.tooLong (s.sPort 1 n) (x.frame.length - 4) (tagged x.frame)
              then [x] else [])
      ∧ smapGet zeroW t.net.cnt (sKey 1 n 1) = w32 (satAdd32 (smapGet zeroW s.net.cnt (sKey 1 n 1)).toNat
          (b2n ((s.mac (s.sPort 1 n)).q.any (fun y => y.strm == n.val))))
      ∧ (s.macStat (s.sPort 1 n) 0 = false → smapGet zeroW t.net.cnt (sKey 1 n 2)
          = w32 (satAdd32 (smapGet zeroW s.net.cnt (sKey 1 n 2)).toNat 1)))
  ∧ (∀ (s : State) (n : Fin 256) (x : RxPkt) (rest : List RxPkt) (tm : Nat), s.strmRuns 0 n = true → s.mode ≠ 3 →
    (s.rxs n).pend = x :: rest → s.sd 0 n 0 12 12 = 1 → x.term = some tm → tm < s.sd 0 n 8 31 0 →
    ∃ t, exec (.streamRxPacket n) s = .next t ∧ t.rxs n = { s.rxs n with pend := rest }
      ∧ smapGet zeroW t.net.cnt (sKey 0 n 5) = w32 (satAdd32 (smapGet zeroW s.net.cnt (sKey 0 n 5)).toNat 1)
      ∧ t.mem = s.mem ∧ t.eng = s.eng)
  ∧ (∀ (s : State) (n : Fin 256) (x : RxPkt) (rest : List RxPkt) (ws : List Nat), s.strmRuns 0 n = true → s.mode ≠ 3 →
    (s.rxs n).pend = x :: rest → s.sd 0 n 0 12 12 = 0 → x.samples = [ws] →
    let a := s.rxPos n (s.rxIndex n x)
    let tm := x.term.elim 0 (· + 1)
    (a / s.T ≤ s.tick → ∃ t, exec (.streamRxPacket n) s = .next t ∧ (t.rxs n).pend = rest
      ∧ (t.rxs n).fill = (s.rxs n).fill ∧ t.mem = s.mem ∧ t.eng = s.eng
      ∧ smapGet zeroW t.net.cnt (sKey 0 n 1) = w32 (satAdd32 (smapGet zeroW s.net.cnt (sKey 0 n 1)).toNat 1))
    ∧ (s.tick < a / s.T → a < (s.esc.running + 1) * s.T + s.jbLen n → (a, tm) ∉ (s.rxs n).fill →
      s.storeOk (s.jbCell n a) (4 * ws.length) →
      ∃ t, exec (.streamRxPacket n) s = .next t ∧ (t.rxs n).pend = rest
        ∧ (t.rxs n).fill = (s.rxs n).fill.filter (fun f => f.1 != a) ++ [(a, tm)] ∧ t.eng = s.eng
        ∧ (∀ c, c < ws.length → t.le (s.jbCell n a + 4 * c) 4 = ws.getD c 0 * 2 ^ (32 - 8 * s.sBytes 0 n) % 2 ^ 32)
        ∧ ∀ b, ¬ (s.jbCell n a ≤ b ∧ b < s.jbCell n a + 4 * ws.length) → t.byte b = s.byte b))
  ∧ (∀ (s : State) (n : Fin 256), 0 < (s.rxs n).outs →
    ∃ t, exec (.streamRampOutStart n) s = .next t ∧ t.rxs n = { s.rxs n with outs := (s.rxs n).outs - 1 }
      ∧ t.mem = s.mem ∧ t.eng = s.eng)
  ∧ (∀ (s : State) (n : Fin 256), 0 < (s.rxs n).ins →
    exec (.streamRampInStart n) s = .next (s.setRxs n { s.rxs n with ins := (s.rxs n).ins - 1 }))
  ∧ (∀ (s : State) (hi : Bool) (v mid : Nat), s.admits pgStrm (if hi then Off.strmMC_OFS_HI else Off.strmMC_OFS_LO) →
    let o := if hi then Off.strmMC_OFS_HI else Off.strmMC_OFS_LO
    (s.anyStream = false → exec (.mcOfsWrite hi v mid) s
        = .next (if hi then (s.ok.setRg pgStrm o v).setLatch pgStrm o v else s.ok.setRg pgStrm o v))
    ∧ (s.anyStream = true → ∃ t, exec (.mcOfsWrite hi v mid) s = .next t ∧ t.rg pgStrm o = s.rg pgStrm o
      ∧ t.resp = { err := false, data := [] } ∧ t.net = s.net ∧ t.mem = s.mem ∧ t.eng = s.eng))


/-! ## Carix ports -/

/-- Received frames: one that is invalid, or whose header is wrong, delivers nothing and is counted (R312, R314); an
aligned one in time delivers its audio to the buffer and its tunnel packets, in order (R315, R327), and a late one
its packets alone. 64 valid sync headers in a row lock a lane, and 16 invalid ones within 64 blocks unlock it, which
takes the link down; up to 64 block times of skew are tolerated (R310, R311). The delay, and the STEP blocks that
agree, on a device that follows (R318, R322); the role and the conflict (R323, R324); the ramps' report and the
clearing of the counters (R316, R330). What FRAMES_RX counts is the model's reading (log entry 61), and the
truncation of DLY rests on log entries 13 and 61; a block pair received twice acts once (log entry 23). -/
def Obligations.CarixReceive : Prop :=
  (∀ (s : State) (n : Fin 2) (valid : Bool) (h : List Byte) (audio : List Word) (tun : List Nat) (crc t4 : Nat)
      (late : Bool), s.crxEn n = true →
    (valid = false ∨ crxHdrOk h = false →
      ∃ t, exec (.carixFrameRx n valid h audio tun crc t4 late) s = .next t
        ∧ (t.crxPort n).frames = (s.crxPort n).frames ∧ (t.crxPort n).inbox = (s.crxPort n).inbox
        ∧ (t.crxPort n).mark = false
        ∧ t.rg (pgCrx + n) Off.crxCounters = s.rg (pgCrx + n) Off.crxCounters
        ∧ t.rg (pgCrx + n) (Off.crxCounters + 8) = min (s.rg (pgCrx + n) (Off.crxCounters + 8) + 1) 0xFFFFFFFF)
    ∧ (valid = true → crxHdrOk h = true → crc32 (crxBody h audio tun) = crc → tun.length = leAt h 52 4 →
      audio.length = leAt h 14 2 * s.T → s.crxAligned n h late = true →
      ∃ t, exec (.carixFrameRx n valid h audio tun crc t4 late) s = .next t
        ∧ (t.crxPort n).inbox = (s.crxPort n).inbox ++ (cutPackets tun.length tun).1
        ∧ t.rg (pgCrx + n) Off.crxCounters = min (s.rg (pgCrx + n) Off.crxCounters + 1) 0xFFFFFFFF
        ∧ (late = true → (t.crxPort n).frames = (s.crxPort n).frames)
        ∧ (late = false → s.mode ≠ 3 → (t.crxPort n).frames
            = (((s.crxPort n).frames ++ [(leAt h 0 8, leAt h 14 2, audio)]).reverse.take 4).reverse)))
  ∧ (∀ (s : State) (n : Fin 2) (lane : Fin 4) (hs : List Nat), s.pageEn (pgCrx + n) = true →
    (64 ≤ hs.length → (∀ h ∈ hs.take 64, h = 1 ∨ h = 2) →
      exec (.laneBlockLock n lane hs) s = .next (s.setCrxStat n (1 + lane) true))
    ∧ (16 ≤ ((hs.take 64).filter (fun h => h == 0 || decide (3 ≤ h))).length →
      ∃ t, exec (.laneLockLost n lane hs) s = .next t ∧ t.crxStat n (1 + lane) = false ∧ t.crxStat n 0 = false
      ∧ (s.crxStat n 0 = true → t.refActive (5 + n) = false ∧ t.rg (pgCrx + n) (Off.crxCounters + 32)
          = min (s.rg (pgCrx + n) (Off.crxCounters + 32) + 1) 0xFFFFFFFF)))
  ∧ (∀ (s : State) (n : Fin 2) (skew : Option Nat) (frame : Bool), s.pageEn (pgCrx + n) = true →
    let deskew : Bool := match skew with
      | some k => decide (k ≤ 64)
      | none => false
    let up := s.fld (pgCrx + n) Off.crxSTAT 4 1 == 15 && deskew && frame
    ∃ t, exec (.carixLinkChange n skew frame) s = .next t ∧ t.crxStat n 5 = deskew ∧ t.crxStat n 0 = up
      ∧ (s.crxStat n 0 = false → up = true → (s.crxPort n).mark = true → s.pageEn pgRef = true →
          t.refActive (5 + n) = true)
      ∧ (s.crxStat n 0 = true → up = false → t.refActive (5 + n) = false ∧ t.rg (pgCrx + n) (Off.crxCounters + 32)
          = min (s.rg (pgCrx + n) (Off.crxCounters + 32) + 1) 0xFFFFFFFF))
  ∧ (∀ (s : State) (n : Fin 2), s.crxEn n = true → s.crxStat n 6 = false → (s.crxPort n).rts.length = 64 →
    ∃ t, exec (.dlyValid n) s = .next t ∧ t.crxStat n 6 = true ∧ t.mem = s.mem ∧ t.eng = s.eng
      ∧ t.rgS (pgCrx + n) Off.crxDLY
        = toSigned 32 (ofSigned 32 (((s.crxPort n).rts.foldl (fun x r => x + r) 0).tdiv 128)))
  ∧ (∀ (s : State) (n : Fin 2) (v : Nat), s.bit (pgCrx + n) Off.crxCTL 0 = true → v % 256 = 0x96 →
    v / 256 % 256 = s.crownId → s.sendsCrown = false →
    (s.follows.isSome = true → s.tick ≤ nearestTick s.tick (v / 2 ^ 40) → s.dpll.sent = [] →
      ∃ t, exec (.stepBlockRx n (some v) (some v) true) s = .next t ∧ t.mem = s.mem ∧ t.eng = s.eng
        ∧ t.dpll.steps = s.dpll.steps ++ [(toSigned 24 (v / 2 ^ 16), nearestTick s.tick (v / 2 ^ 40))]
        ∧ t.dpll.sent = [(1 - n.val, s.crownId, toSigned 24 (v / 2 ^ 16), nearestTick s.tick (v / 2 ^ 40))])
    ∧ (∀ w, w ≠ v ∨ s.follows = none → ∃ t, exec (.stepBlockRx n (some v) (some w) true) s = .next t ∧ t.dpll = s.dpll
      ∧ t.mem = s.mem ∧ t.eng = s.eng
      ∧ t.rg (pgCrx + n) (Off.crxCounters + 8) = min (s.rg (pgCrx + n) (Off.crxCounters + 8) + 1) 0xFFFFFFFF))
  ∧ (∀ (s : State) (v mid : Nat), s.admits pgStack Off.stackROLE →
    ∃ t, exec (.stackRoleWrite v mid) s = .next t ∧ t.crown = bitN v 0 ∧ (t.refSel < 7 → t.eligible t.refSel = true))
  ∧ (∀ (s : State) (v mid : Nat), s.admits pgStack Off.stackCLR → bitN v 0 = true →
    ∃ t, exec (.stackClr v mid) s = .next t ∧ t.bit pgStack Off.stackSTAT 0 = false
      ∧ t.rg pgStack Off.stackCONFLICT_ID = 0 ∧ t.dpll.shut = 0)
  ∧ (∀ (s : State) (n : Fin 2), 0 < (s.crxPort n).outs →
    ∃ t, exec (.carixRampOutStart n) s = .next t ∧ t.crxPort n = { s.crxPort n with outs := (s.crxPort n).outs - 1 }
      ∧ t.mem = s.mem ∧ t.eng = s.eng)
  ∧ (∀ (s : State) (n : Fin 2) (v mid : Nat), s.admits (pgCrx + n) Off.crxCTL → bitN v 1 = true →
    ∃ t, exec (.crxCntClr n v mid) s = .next t ∧ t.crx = s.crx ∧ t.mem = s.mem ∧ t.eng = s.eng
      ∧ ∀ i, i < 10 → t.rg (pgCrx + n) (Off.crxCounters + 4 * i) = 0)

/-- The control tunnel (R326, R327): GO sends a request unless one is outstanding, where the model ignores it (log
entry 31); the response that answers it ends it with its words, and the time-out ends it with code 1; an unasked
response is discarded. A peer's one-word request inside a window that the port allows reads or writes the shared
store and is answered with code 0, and one outside with code 2. A message goes from the ring MTX into a packet, and
from a packet into the ring MRX, byte for byte. -/
def Obligations.CarixTunnel : Prop :=
  (∀ (s : State) (n : Fin 2) (v mid : Nat) (wr : Bool), s.admits (pgCrx + n) Off.crxRA_CTL → bitN v 9 = true →
    bitN v 8 = wr →
    let c : Instr := if wr then .remoteWriteRequest n v mid else .remoteReadRequest n v mid
    let addr := s.rg (pgCrx + n) Off.crxRA_ADDR_LO / 4 * 4 + 2 ^ 32 * s.fld (pgCrx + n) Off.crxRA_ADDR_HI 7 0
    let data := (List.range (v % 64 + 1)).map (fun i => s.rg (pgCrx + n) (Off.crxRA_DATA + 4 * i))
    (s.raBusy n = false → ∃ t, exec c s = .next t ∧ t.raBusy n = true ∧ t.mem = s.mem ∧ t.eng = s.eng
      ∧ t.crxPort n = { s.crxPort n with req := v &&& 0x13F, txq := (s.crxPort n).txq
          ++ [if wr then reqPacket 2 (v % 64 + 1) addr data else reqPacket 1 (v % 64 + 1) addr []] })
    ∧ (s.raBusy n = true → exec c s = .next s.ok))
  ∧ (∀ (s : State) (n : Fin 2) (p : List Nat) (rest : List (List Nat)), (s.crxPort n).inbox = p :: rest → pktKind p = 3 →
    let mine := s.raBusy n = true ∧ p.headD 0 / 256 % 256 / 64 = (if bitN (s.crxPort n).req 8 then 2 else 1)
    ∃ t, exec (.tunnelResponse n) s = .next t ∧ t.crxPort n = { s.crxPort n with inbox := rest } ∧ t.mem = s.mem
      ∧ t.eng = s.eng ∧ (¬ mine → t.regs = s.regs)
      ∧ (mine → t.raBusy n = false ∧ t.rg (pgCrx + n) Off.crxRA_STAT
          = (if p.headD 0 / 256 % 4 = 0 then 2 else 3 + 16 * (p.headD 0 / 256 % 4)))
      ∧ (mine → p.headD 0 / 256 % 4 = 0 → bitN (s.crxPort n).req 8 = false →
          ∀ i, i ≤ bitsN (s.crxPort n).req 5 0 →
            t.rg (pgCrx + n) (Off.crxRA_DATA + 4 * i) = (pktData p).getD i 0 % 2 ^ 32))
  ∧ (∀ (s : State) (n : Fin 2), s.raBusy n = true →
    ∃ t, exec (.raTimeout n) s = .next t ∧ t.rg (pgCrx + n) Off.crxRA_STAT = 19 ∧ t.crx = s.crx ∧ t.mem = s.mem
      ∧ t.eng = s.eng)
  ∧ (∀ (s : State) (n : Fin 2) (p : List Nat) (rest : List (List Nat)) (x : Ext) (wr : Bool),
    (s.crxPort n).inbox = p :: rest → pktKind p = (if wr then 2 else 1) → pktWords p = 1 →
    let c : Instr := if wr then .tunnelWriteRequestRx n x else .tunnelReadRequestRx n
    (s.tunAllowed n (pktAddr p) 4 = true → s.storeOk (pktAddr p) 4 → pktAddr p % 4 = 0 → s.mtx.lock = none →
      s.pwr.released = true → s.clear = true → s.slotRefused (7 + n.val) (pktAddr p) 4 = false → 1 ≤ (pktData p).length ∨ wr = false →
      ∃ t, exec c s = .next t ∧ (t.crxPort n).inbox = rest ∧ t.eng = s.eng
        ∧ (wr = false → t.mem = s.mem ∧ (t.crxPort n).txq = (s.crxPort n).txq ++ [respPacket 1 0 [s.le (pktAddr p) 4]])
        ∧ (wr = true → (t.crxPort n).txq = (s.crxPort n).txq ++ [respPacket 2 0 []]
            ∧ t.le (pktAddr p) 4 = (pktData p).getD 0 0 % 2 ^ 32
            ∧ ∀ b, ¬ (pktAddr p ≤ b ∧ b < pktAddr p + 4) → t.byte b = s.byte b))
    ∧ (s.tunAllowed n (pktAddr p) 4 = false → s.clear = true → ∃ t, exec c s = .next t ∧ (t.crxPort n).inbox = rest
      ∧ (t.crxPort n).txq = (s.crxPort n).txq ++ [respPacket (if wr then 2 else 1) 2 []] ∧ t.mem = s.mem ∧ t.eng = s.eng))
  ∧ (∀ (s : State) (n : Fin 2) (p : List Nat) (rest : List (List Nat)), (s.crxPort n).inbox = p :: rest → pktKind p = 4 →
    let r : Ring := ⟨pgCrx + n, Off.crxMRX⟩
    let bs := msgBytes p
    (s.ringReady r bs.length → bs.length ≤ s.ringBlen r → 8 ≤ bs.length → bs.length < 65536 →
      ∃ t, exec (.tunnelMessageRx n) s = .next t ∧ (t.crxPort n).inbox = rest ∧ t.eng = s.eng
        ∧ (∀ i, i < bs.length → t.byte (s.ringBuf r + i) = bs.getD i 0)
        ∧ t.le (s.ringAddr r + 12) 2 = bs.length ∧ t.le (s.ringAddr r + 14) 2 = 1)
    ∧ (s.ringWork r = false → ∃ t, exec (.tunnelMessageRx n) s = .next t ∧ (t.crxPort n).inbox = rest ∧ t.mem = s.mem
        ∧ t.eng = s.eng
        ∧ t.rg (pgCrx + n) (Off.crxCounters + 28) = min (s.rg (pgCrx + n) (Off.crxCounters + 28) + 1) 0xFFFFFFFF))
  ∧ (∀ (s : State) (n : Fin 2), s.crxEn n = true →
    let r : Ring := ⟨pgCrx + n, Off.crxMTX⟩
    let len := s.ringBlen r
    s.ringReady r len → 8 ≤ len → len ≤ 1024 → 1 + ceilDiv len 8 ≤ s.fld (pgCrx + n) Off.crxTUN_MAX 15 0 →
    ∃ t, exec (.tunnelMessageTx n) s = .next t ∧ t.eng = s.eng
      ∧ (t.crxPort n).txq = (s.crxPort n).txq ++ [msgPacket (s.bytes (s.ringBuf r) len)]
      ∧ t.ringHead r = (if s.ringHead r + 1 < s.ringLen r then s.ringHead r + 1 else 0)
      ∧ ∀ b, ¬ (s.ringAddr r + 12 ≤ b ∧ b < s.ringAddr r + 16) → t.byte b = s.byte b)

/-- The events and commands of a pair: the reports; a takeover becomes ACTIVE with a term above both and is counted,
but from ELECT (R349, R351); the ways from CONVERGING, STANDBY and SUSPECT (R342 to R344); the published health word
(R345); STRIKE acts in ACTIVE and CLR_STRUCK in STRUCK alone, and CNT_CLR clears the counters (R347, R355, R356). A
change of the pair state may leave no reference, and the loss of the media clock then strikes (R252, R336). That
CNT_CLR leaves MATCH_RUN is the model's reading of R356 (log entry 32). -/
def Obligations.ShadowPair : Prop :=
  (∀ s : State, s.pairEn = true → s.pairState = 1 → s.pairLive = false → s.peerAct = false →
    exec .pairElectTimeout s = .next { s with pair := { s.pair with takeoverDue := true } })
  ∧ (∀ s : State, s.pairEn = true → s.pair.heard = true → s.pairLive = false → s.pair.linkLost = false →
    ∃ t, exec .pairLinkSilent s = .next t ∧ t.pair = { s.pair with linkLost := true } ∧ t.mem = s.mem ∧ t.eng = s.eng)
  ∧ (∀ s : State, s.pairEn = true → s.pairLive = true → s.silenceTime < s.pair.pinBadTicks → s.pair.pinTold = false →
    ∃ t, exec .pinFault s = .next t ∧ t.pair = { s.pair with pinTold := true } ∧ t.mem = s.mem ∧ t.eng = s.eng)
  ∧ (∀ s : State, s.pair.takeoverDue = true → s.boundaryDue = true → s.esc.tickOpen = false →
    ∃ t, exec .pairTakeover s = .next t ∧ (t.pairState = 2 ∨ t.pairState = 6) ∧ t.pair.takeoverDue = false
      ∧ t.ownTerm = min (max s.ownTerm s.peerTerm + 1) 0xFFFFFFFF
      ∧ (s.refSel = 7 ∨ s.dpllState = 4 ∨ (s.histValid = true ∧ s.rg pgRef Off.refHOLD_LIMIT ≠ 0) → t.pairState = 2)
      ∧ (s.pairState ≠ 1 → t.rg pgPair Off.pairTAKEOVER_CNT = min (s.rg pgPair Off.pairTAKEOVER_CNT + 1) 0xFFFFFFFF)
      ∧ (s.pairState = 1 → t.rg pgPair Off.pairTAKEOVER_CNT = s.rg pgPair Off.pairTAKEOVER_CNT))
  ∧ (∀ s : State, s.pairState = 3 ∨ s.pairState = 5 →
    s.fld pgPair Off.pairCONV_TICKS 23 0 ≤ s.rg pgPair Off.pairMATCH_RUN →
    ∃ t, exec .pairConverged s = .next t ∧ (t.pairState = 4 ∨ t.pairState = 6)
      ∧ (s.refSel = 7 ∨ (s.pairEn = true ∧ s.refSel = s.pairRef) → t.pairState = 4))
  ∧ (∀ s : State, s.pairState = 3 → s.fld pgPair Off.pairCONV_LIMIT 27 0 ≤ s.pair.convTicks →
    ∃ t, exec .pairConvLimit s = .next t ∧ (t.pairState = 5 ∨ t.pairState = 6)
      ∧ (s.refSel = 7 ∨ (s.pairEn = true ∧ s.refSel = s.pairRef) → t.pairState = 5))
  ∧ (∀ s : State, s.pairState = 4 → s.tallyK ≤ s.pair.missRun →
    ∃ t, exec .pairSuspect s = .next t ∧ (t.pairState = 5 ∨ t.pairState = 6)
      ∧ (s.refSel = 7 ∨ (s.pairEn = true ∧ s.refSel = s.pairRef) → t.pairState = 5))
  ∧ (∀ s : State, s.pageEn pgPair = true → s.mode ≠ 4 →
    let seq := (s.pair.healthSeq + 1) % 2 ^ 16
    ∃ t, exec .healthPublish s = .next t ∧ t.pair.healthSeq = seq ∧ t.pair.healthSent = true
      ∧ t.rg64 pgPair Off.pairHEALTH_LO Off.pairHEALTH_HI
        = s.pairState + 16 * s.dpllState + 128 * b2n s.pair.failBist + 256 * b2n s.pair.failMem + 2 ^ 16 * seq
          + 2 ^ 32 * (s.rg pgPair Off.pairMISS_CNT % 2 ^ 16 + 2 ^ 16 * (s.rg pgPair Off.pairBIST_SLICES % 2 ^ 16)))
  ∧ (∀ (s : State) (mid : Nat), s.admits pgPair Off.pairCTL true →
    (s.pairState = 2 → ∃ t, exec (.pairStrikeCmd 2 mid) s = .next t ∧ t.pairState = 6 ∧ t.pair.strikeSent = true
      ∧ t.pair.fenced = true
      ∧ t.rg pgPair Off.pairSTRIKE_CNT = min (s.rg pgPair Off.pairSTRIKE_CNT + 1) 0xFFFFFFFF)
    ∧ (s.pairState ≠ 2 → exec (.pairStrikeCmd 2 mid) s = .next s.ok))
  ∧ (∀ (s : State) (mid : Nat), s.admits pgPair Off.pairCTL →
    (s.pairState = 6 → ∃ t, exec (.clrStruck 4 mid) s = .next t ∧ t.pair.strikeSent = false
      ∧ (t.pairState = 1 ∨ t.pairState = 6) ∧ (s.refSel = 7 → t.pairState = 1))
    ∧ (s.pairState ≠ 6 → exec (.clrStruck 4 mid) s = .next s.ok)
    ∧ (∃ t, exec (.pairCntClr 8 mid) s = .next t ∧ t.pair = s.pair ∧ t.mem = s.mem ∧ t.eng = s.eng
      ∧ SameRegs s t (pairCounterOffs.map (rkey pgPair)) ∧ ∀ o ∈ pairCounterOffs, t.rg pgPair o = 0))


/-! ## External memory -/

/-- The controller's states (R361): INIT in OFF with a legal configuration and a valid set, else refused and nothing
changed (R358, R376, R499); a memory that was not kept in self-refresh reads as never written, which is the model's
choice (log entry 2) where R372 leaves it undefined; the end of INIT leads to TRAIN with the clock in lock, and,
unless CTL.KEEP had the memory leave self-refresh (R374), with the eight mode registers of the set written on every
rank and channel, in the set's frequency set point (R367; log entry 94); ONLINE moves between TRAIN and ONLINE; idle
ports lead to SR (R366); a frequency change toggles the set and has its mode registers in place, or is refused with
its reason (R368). -/
def Obligations.DramStates : Prop :=
  (∀ (s : State) (v mid : Nat), s.admits pgDrc Off.drcCTL → bitN v 0 = true → s.drcState = 0 →
    let i := bitsN v 4 4
    let keep := bitN v 1 = true ∧ s.dram.retained = true
    (s.drcCfgOk i = true ∧ s.tsetValid i = true → ∃ t, exec (.drcInit v mid) s = .next t ∧ t.drcState = 1 ∧ t.drcSet = i
      ∧ t.rg pgDrc Off.drcCAP = (if bitN v 3 then s.drcInstalled * 7 / 8 else s.drcInstalled) ∧ t.eng = s.eng
      ∧ (keep → t.mem = s.mem)
      ∧ (¬ keep → ∀ a, t.byte a = (if targetOf a = .drc then 0 else s.byte a)))
    ∧ (¬ (s.drcCfgOk i = true ∧ s.tsetValid i = true) → ∃ t, exec (.drcInit v mid) s = .next t ∧ t.drcState = 0
      ∧ t.resp = { err := true, data := [] } ∧ t.rg pgDrc Off.drcCTL = s.rg pgDrc Off.drcCTL ∧ t.dram = s.dram
      ∧ t.mem = s.mem ∧ t.eng = s.eng))
  ∧ (∀ s : State, s.drcState = 1 → s.domain 4 = true → ∃ t, exec .drcInitDone s = .next t ∧ t.drcState = 2 ∧ t.bit pgDphy Off.dphySTAT 0 = true
      ∧ t.dram.retained = false ∧ t.mem = s.mem ∧ t.eng = s.eng ∧ (s.dram.keep = true → t.dram.mr = s.dram.mr)
      ∧ (s.dram.keep = false → ∀ (rank ch : Fin 2) (i : Fin 8),
          smapGet zeroN t.dram.mr (mrKey s.drcSet rank ch (mrNums.getD i 0))
          = bitsN (s.rg pgDrc (tsetOff s.drcSet + 0x38 + 4 * (i / 4))) (8 * (i % 4) + 7) (8 * (i % 4))))
  ∧ (∀ (s : State) (v mid : Nat), s.admits pgDrc Off.drcCTL →
    (s.drcState = 2 → bitN v 2 = true → ∃ t, exec (.drcOnline v mid) s = .next t ∧ t.drcState = 3 ∧ t.dram = s.dram
      ∧ SameRegs s t [rkey pgDrc Off.drcCTL, rkey pgDrc Off.drcSTAT] ∧ t.mem = s.mem ∧ t.eng = s.eng)
    ∧ (s.drcState = 3 → bitN v 2 = false → ∃ t, exec (.drcOffline v mid) s = .next t ∧ t.drcState = 2 ∧ t.dram = s.dram
      ∧ SameRegs s t [rkey pgDrc Off.drcCTL, rkey pgDrc Off.drcSTAT] ∧ t.mem = s.mem ∧ t.eng = s.eng))
  ∧ (∀ s : State, s.drcState = 3 → s.fld pgDrc Off.drcSR_IDLE 23 0 ≠ 0 → s.srBlocked = false → s.dram.reqs = [] →
    s.dram.fill = none →
    ∃ t, exec .srEnter s = .next t ∧ t.drcState = 4 ∧ t.dram = { s.dram with rows := [] }
      ∧ SameRegs s t [rkey pgDrc Off.drcSTAT] ∧ t.mem = s.mem ∧ t.eng = s.eng)
  ∧ (∀ (s : State) (v mid : Nat), s.admits pgDrc Off.drcFC_CTL → bitN v 1 = true →
    (s.fcReason (v % 2) = 0 → ∃ t, exec (.fcGo v mid) s = .next t ∧ t.drcState = 5 ∧ t.dram.prev = s.drcState
      ∧ t.dram.rows = [] ∧ t.mem = s.mem ∧ t.eng = s.eng)
    ∧ (s.fcReason (v % 2) ≠ 0 → ∃ t, exec (.fcGo v mid) s = .next t ∧ t.drcState = s.drcState ∧ t.dram = s.dram
      ∧ t.rg pgDrc Off.drcFC_STAT = s.fcReason (v % 2) ∧ t.rg pgDrc Off.drcFC_CTL = s.rg pgDrc Off.drcFC_CTL ∧ t.resp = { err := false, data := [] } ∧ t.mem = s.mem
      ∧ t.eng = s.eng))
  ∧ (∀ s : State, s.drcState = 5 → ∃ t, exec .fcDone s = .next t ∧ t.drcSet = 1 - s.drcSet
      ∧ t.drcState = (if s.dram.prev = 2 then 2 else 3) ∧ t.mem = s.mem ∧ t.eng = s.eng
      ∧ t.rg pgDrc Off.drcFC_CNT = min (s.rg pgDrc Off.drcFC_CNT + 1) 0xFFFFFFFF ∧ t.bit pgDphy Off.dphySTAT 0 = true
      ∧ ∀ (rank ch : Fin 2) (i : Fin 8), smapGet zeroN t.dram.mr (mrKey (1 - s.drcSet) rank ch (mrNums.getD i 0))
          = bitsN (s.rg pgDrc (tsetOff (1 - s.drcSet) + 0x38 + 4 * (i / 4))) (8 * (i % 4) + 7) (8 * (i % 4)))
  ∧ (∀ (s : State) (rate : Fin 4), s.domain 4 = true → s.drcState = 2 ∨ s.drcState = 3 → ∃ t, exec (.tempPoll rate) s = .next t
      ∧ t.fld pgDrc Off.drcSTAT 6 5 = min rate.val 2 ∧ t.drcState = s.drcState ∧ t.mem = s.mem ∧ t.eng = s.eng)
  ∧ (∀ s : State, s.domain 4 = true → s.drcState = 3 ∨ s.drcState = 4 → s.bit pgDphy Off.dphySTAT 0 = true →
    ∃ t, exec .dphyUnlock s = .next t
      ∧ t.bit pgDphy Off.dphySTAT 0 = false)
  ∧ (∀ s : State, s.domain 4 = true → s.bit pgDphy Off.dphyCTL 0 = true ∧ (s.drcState = 2 ∨ s.drcState = 3)
      ∨ s.bit pgDphy Off.dphySTAT 2 = true ∧ s.drcState = 1 →
    exec (.zqCalibration true) s = .next (s.setBit pgDphy Off.dphySTAT 2 false)
    ∧ ∃ t, exec (.zqCalibration false) s = .next t ∧ t.dram = s.dram ∧ t.mem = s.mem ∧ t.eng = s.eng
      ∧ t.bit pgDphy Off.dphySTAT 2 = false ∧ (s.raises pgDphy = true → t.bit pgDphy Off.headINT_RAW 1 = true))

/-- Probes, mode registers, delays, timing sets, fills (R362, R363, R367, R372, R376): a probe runs in TRAIN alone,
and its end records the bits that failed; a WRITE_READ that failed no bit leaves the channel's pattern in its burst.
A mode register of the set point in use (log entry 94) holds what is written to it; a delay of the set in use is
written in TRAIN alone, and a timing set not while it is in use. A fill clears its range, up to the usable capacity
(log entry 36), and nothing else; its zeros are in place for every request from GO on, since requests to the range
wait for its end (R372). It is refused where its range meets a slot of a running engine (R12, R81). A command outside
the states that its register names does nothing (log entry 62). -/
def Obligations.DramMaintenance : Prop :=
  (∀ (s : State) (m : Fin 5) (v mid : Nat), s.admits pgDrc Off.drcPROBE_CTL → bitN v 5 = true → v % 8 = m.val →
    let c : Instr := match m with
      | 0 => .probeReadCal v mid | 1 => .probeWriteRead v mid | 2 => .probeCaTrain v mid | 3 => .probeGate v mid
      | 4 => .probeWckLvl v mid
    ∃ t, exec c s = .next t ∧ t.mem = s.mem ∧ t.eng = s.eng
      ∧ t.dram.probe = (if s.drcState = 2 ∧ s.dram.probe = none then
          some (m.val, s.burstOff (bitsN v 4 4) (bitsN v 3 3) (s.rg pgDrc Off.drcPROBE_ADDR)) else s.dram.probe))
  ∧ (∀ (s : State) (m o res errs : Nat), s.dram.probe = some (m, o) →
    let r := res &&& s.probeMask m
    let pat := (List.range 8).flatMap (fun i => toLE 4 (s.rg pgDrc (Off.drcPROBE_PAT + 4 * (8 * (o / 256 % 2) + i))))
    ∃ t, exec (.probeDone res errs) s = .next t ∧ t.dram.probe = none ∧ t.rg pgDrc Off.drcPROBE_RES = r ∧ t.eng = s.eng
      ∧ t.rg pgDrc Off.drcPROBE_ERRS = min errs 0xFFFFFFFF ∧ t.bit pgDrc Off.drcSTAT 10 = false
      ∧ (m ≠ 1 → t.mem = s.mem)
      ∧ (m = 1 → ∀ a, ¬ (0x100000000 + o ≤ a ∧ a < 0x100000000 + o + 32) → t.byte a = s.byte a)
      ∧ (m = 1 → r = 0 → ∀ i, i < 32 → t.byte (0x100000000 + o + i) = pat.getD i 0))
  ∧ (∀ (s : State) (v mid : Nat) (dev : Option Nat), s.admits pgDrc Off.drcMR_CMD → bitN v 19 = true →
    let k := mrKey s.drcSet (bitsN v 18 18) (bitsN v 17 17) (v % 256)
    let run : Prop := s.drcState = 2 ∨ s.drcState = 3
    (run → bitN v 16 = false → ∃ t, exec (.mrWrite v mid) s = .next t ∧ t.mem = s.mem ∧ t.eng = s.eng
      ∧ ∀ j, smapGet zeroN t.dram.mr j = (if j = k then bitsN v 15 8 else smapGet zeroN s.dram.mr j))
    ∧ (¬ run → exec (if bitN v 16 then .mrRead v dev mid else .mrWrite v mid) s
        = .next (s.ok.setRg pgDrc Off.drcMR_CMD (v &&& 0x7FFFF)))
    ∧ (run → bitN v 16 = true → ∃ t, exec (.mrRead v dev mid) s = .next t ∧ t.dram = s.dram ∧ t.mem = s.mem ∧ t.eng = s.eng
      ∧ t.rg pgDrc Off.drcMR_DATA = dev.getD (smapGet zeroN s.dram.mr k) % 256))
  ∧ (∀ (s : State) (o v mid : Nat), s.admits pgDphy o → isDelay o = true →
    let refused := if (o - 0x400) / 0x400 = s.drcSet then s.drcState ≠ 2 else s.drcState = 5
    (¬ refused → exec (.dphyDelayWrite o v mid) s = .next (s.ok.putReg pgDphy o v))
    ∧ (refused → ∃ t, exec (.dphyDelayWrite o v mid) s = .next t ∧ t.rg pgDphy o = s.rg pgDphy o
      ∧ t.resp = { err := false, data := [] } ∧ t.mem = s.mem ∧ t.eng = s.eng))
  ∧ (∀ (s : State) (o v mid : Nat), s.admits pgDrc o → isTset o = true →
    let refused := (o - Off.drcTSET) / 0x40 = s.drcSet ∧ s.drcState ≠ 0
    (¬ refused → exec (.tsetWrite o v mid) s = .next (s.ok.putReg pgDrc o v))
    ∧ (refused → ∃ t, exec (.tsetWrite o v mid) s = .next t ∧ t.rg pgDrc o = s.rg pgDrc o
      ∧ t.resp = { err := false, data := [] } ∧ t.mem = s.mem ∧ t.eng = s.eng))
  ∧ (∀ (s : State) (v mid : Nat), s.admits pgDrc Off.drcFILL_CTL → bitN v 0 = true →
    let free := s.drcState = 3 ∧ s.dram.fill = none
    let a := s.rg pgDrc Off.drcFILL_LO / 2 ^ 20 * 2 ^ 20 + 2 ^ 32 * s.fld pgDrc Off.drcFILL_HI 0 0
    let e := min (a + s.fld pgDrc Off.drcFILL_LEN 13 0 * 2 ^ 20) (s.rg pgDrc Off.drcCAP * 2 ^ 20)
    (¬ free → exec (.fillGo v mid) s = .next s.ok)
    ∧ (free → s.noSlot (0x100000000 + a) (e - a) → ∃ t, exec (.fillGo v mid) s = .next t ∧ t.bit pgDrc Off.drcSTAT 9 = true
      ∧ t.eng = s.eng ∧ t.dram = { s.dram with fill := some (a, e) }
      ∧ ∀ k, t.byte k = (if 0x100000000 + a ≤ k ∧ k < 0x100000000 + e then 0 else s.byte k))
    ∧ (free → ¬ s.noSlot (0x100000000 + a) (e - a) → ∃ t, exec (.fillGo v mid) s = .next t ∧ t.resp.err = true
      ∧ t.dram = s.dram ∧ t.mem = s.mem ∧ t.eng = s.eng))
  ∧ (∀ (s : State) (a e : Nat), s.drcState = 3 ∨ s.drcState = 4 → s.dram.fill = some (a, e) →
    ∃ t, exec .fillDone s = .next t ∧ t.dram = { s.dram with fill := none } ∧ t.bit pgDrc Off.drcSTAT 9 = false
      ∧ t.eng = s.eng ∧ t.mem = s.mem)
  ∧ (∀ (s : State) (port : Fin 8) (v mid : Nat), s.admits pgDrc (Off.drcMAX_WAIT + 4 * port.val) →
    (v % 2 ^ 32 = 0 → exec (.maxWaitClear port v mid) s = .next (s.ok.setRg pgDrc (Off.drcMAX_WAIT + 4 * port.val) 0))
    ∧ (v % 2 ^ 32 ≠ 0 → exec (.maxWaitClear port v mid) s = .next s.ok))

/-- Requests at the ports: the one that issues is ready and comes first in the order of R370; a lone read of memory
in range returns its bytes, and a lone write stores its own and no other (R359 to R361); one that a frequency change
or a fill holds waits (R368, R372). Control-plane masters issue at 11 or less, the loader at 8, ring transfers at 8,
other accesses of the buffers and the router at 12 to 15, an engine at the QoS of the slot that the access was posted
for (R11, R79, R133, R288). Urgency rises to 3 and is counted there (R370); a refresh closes its bank and may be
postponed at most four times while a pressing request waits (R365): that the command tells whether it is, and that
one performed makes up for those postponed, is the model's reading (log entry 62). -/
def Obligations.DramRequests : Prop :=
  (∀ (s : State) (recent : Bool) (i : Nat) (x : DramReq × Nat), s.reqNext recent = some i → s.dram.reqs[i]? = some x →
    i ∈ s.reqReady recent ∧ ∀ j ∈ s.reqReady recent, ∀ y, s.dram.reqs[j]? = some y →
      s.reqOrder x < s.reqOrder y ∨ (s.reqOrder x = s.reqOrder y ∧ i ≤ j))
  ∧ (∀ (s : State) (r : DramReq) (recent : Bool) (age : Nat), s.dram.reqs = [] → s.reqHeld r = false →
    targetOf r.addr = .drc → s.mode ≠ 4 → s.domain 4 = true → s.agentStopped 6 = false → s.drcState = 3 →
    s.bit pgDphy Off.dphySTAT 0 = true → dramOff r.addr + r.len ≤ s.rg pgDrc Off.drcCAP * 2 ^ 20 → s.ecc = [] →
    (r.wr = false → ∃ t, exec (.dramRequest [r] recent age []) s = .next t ∧ t.dram.reqs = []
      ∧ t.resp = { err := false, data := s.bytes (memKey r.addr) r.len } ∧ t.regs = s.regs ∧ t.mem = s.mem ∧ t.eng = s.eng)
    ∧ (r.wr = true → r.bs.length = r.len → s.slotRefused r.mid r.addr r.len = false →
      ∃ t, exec (.dramRequest [r] recent age []) s = .next t ∧ t.dram.reqs = [] ∧ t.resp = { err := false, data := [] }
        ∧ t.regs = s.regs ∧ t.eng = s.eng ∧ (∀ i, i < r.len → t.byte (memKey r.addr + i) = r.bs.getD i 0)
        ∧ ∀ a, ¬ (memKey r.addr ≤ a ∧ a < memKey r.addr + r.len) → t.byte a = s.byte a))
  ∧ (∀ (s : State) (r : DramReq) (recent : Bool) (age : Nat), s.dram.reqs = [] → s.reqHeld r = true →
    targetOf r.addr = .drc → r.wr = false ∨ r.bs.length = r.len → exec (.dramRequest [r] recent age []) s
      = .next { s with dram := { s.dram with reqs := [({ r with qos := s.issueQos r, lost := false }, 0)] } })
  ∧ (∀ (s : State) (r : DramReq), (r.mid < 16 → s.issueQos r ≤ 11) ∧ (r.mid = 6 → s.issueQos r = 8)
    ∧ (r.mid ≤ 5 → r.mid ≠ 2 → s.issueQos r = min 11 (s.fld pgMtx Off.mtxQOS (4 * r.mid + 3) (4 * r.mid)))
    ∧ (r.mid = 0x30 ∨ (r.mid = 0x31 ∧ 12 ≤ r.qos) → 12 ≤ s.issueQos r ∧ s.issueQos r ≤ 15)
    ∧ (r.mid = 0x31 → r.qos < 12 → s.issueQos r = 8)
    ∧ (∀ nn : Fin 32, r.mid = 0x10 + nn.val →
        let mine := fun m : MpEntry => !m.done && m.ext.any (fun a =>
          rangesMeet (memKey a, memKey a + 4) (memKey r.addr, memKey r.addr + r.len))
        (∀ m, (s.engine nn).mp.find? mine = some m → s.issueQos r = m.qos)
        ∧ ((s.engine nn).mp.find? mine = none → 12 ≤ s.issueQos r ∧ s.issueQos r ≤ 15)))
  ∧ (∀ (s : State) (i u : Nat) (r : DramReq), s.dram.reqs[i]? = some (r, u) →
    (u < 3 → ∃ t, exec (.urgencyRaise i) s = .next t ∧ t.dram.reqs = s.dram.reqs.set i (r, u + 1) ∧ t.mem = s.mem
      ∧ t.eng = s.eng ∧ t.rg pgDrc Off.drcURG3_CNT
        = (if u = 2 then min (s.rg pgDrc Off.drcURG3_CNT + 1) 0xFFFFFFFF else s.rg pgDrc Off.drcURG3_CNT))
    ∧ (3 ≤ u → exec (.urgencyRaise i) s = .next s))
  ∧ (∀ (s : State) (bank : Nat), ∃ t, exec (.rowClose bank) s = .next t ∧ t.regs = s.regs ∧ t.mem = s.mem ∧ t.eng = s.eng
      ∧ ∀ b, smapGet zeroN t.dram.rows b = (if b = bank then 0 else smapGet zeroN s.dram.rows b))
  ∧ (∀ (s : State) (bank : Nat) (postpone : Bool), s.domain 4 = true → s.drcState = 2 ∨ s.drcState = 3 → s.drcCfg 6 6 = 0 →
    let n := smapGet zeroN s.dram.postponed bank
    ∃ t, exec (.refresh bank postpone) s = .next t ∧ t.regs = s.regs ∧ t.mem = s.mem ∧ t.eng = s.eng
      ∧ (postpone = true → s.pressing = true → n < 4 → smapGet zeroN t.dram.postponed bank = n + 1
          ∧ t.dram.rows = s.dram.rows)
      ∧ (postpone = false ∨ s.pressing = false ∨ 4 ≤ n → smapGet zeroN t.dram.postponed bank = 0
          ∧ smapGet zeroN t.dram.rows bank = 0))
  ∧ (∀ (s : State) (bank i : Nat) (postpone : Bool), s.domain 4 = true → s.drcState = 2 ∨ s.drcState = 3 → s.drcCfg 6 6 = 1 → i < 16 →
    ∃ t, exec (.refresh bank postpone) s = .next t ∧ t.regs = s.regs ∧ t.mem = s.mem ∧ t.eng = s.eng
      ∧ (postpone = false ∨ s.pressing = false → smapGet zeroN t.dram.postponed (bank / 16 * 16 + i) = 0
          ∧ smapGet zeroN t.dram.rows (bank / 16 * 16 + i) = 0))


/-! ## Interconnect, cores, watchdog, fuses, debug, GPIO -/

/-- Accesses of the matrix. One that no target takes is answered by the default target with an error response,
counted and captured (R381). On an aligned word of a memory that the lock reaches, an AMO stores the result of its
operation and delivers what it read, and one whose write stalls holds the lock of its target port, at which every
other access of a core waits, until the same AMO goes on with its write (R382, R389); LR sets the reservation, and SC
writes where the reservation holds the word, and delivers 0, else 1 (R384; the codes, the order of the operations and
the clearing by SC are the model's, log entry 39, and so is that a stalled AMO is given again). A locked access
elsewhere is refused and counted (R382); the time-out ends a held lock (R383). HOLD_MAX is cleared by a write of 0
alone (R390). A register write of an in-order master with a request outstanding at another port is held back and
counted once, and the wait goes to HOLD_MAX when it is made (R385; that it is given again, and has no answer until
then, is the model's, log entry 93). -/
def Obligations.MatrixAccesses : Prop :=
  (∀ (s : State) (a mid size : Nat) (write fetch : Bool), s.pwr.released = true → s.pageEn pgMtx = true → a < 2 ^ 40 →
    s.defaultAnswers a size write = true → s.clear = true →
    ∃ t, exec (.defaultTargetAccess a mid write fetch size) s = .next t ∧ t.resp = { err := true, data := [] }
      ∧ t.rg pgMtx Off.mtxDEF_CNT = min (s.rg pgMtx Off.mtxDEF_CNT + 1) 0xFFFFFFFF ∧ t.bit pgMtx Off.headINT_RAW 0 = true
      ∧ (s.fld pgMtx Off.headERR_CLASS 1 0 = 0 → t.rg pgMtx Off.headERR_CLASS = 2
          ∧ t.rg pgMtx Off.headERR_ADDR_LO = a % 2 ^ 32 ∧ t.rg pgMtx Off.headERR_MASTER = mid % 2 ^ 32)
      ∧ t.mem = s.mem ∧ t.eng = s.eng)
  ∧ (∀ (s : State) (c : Fin 2) (a : Nat), s.cpuRuns c = true → a < 2 ^ 32 → a % 4 = 0 → s.mtx.lock = none →
    lockTarget a = true → s.ecc = [] → s.memGate a 4 false = .ok → s.clear = true →
    (∀ (op : Fin 9) (v : Nat), s.slotRefused c a 4 = false →
      ∃ t, exec (.amo c op a v false) s = .next t ∧ t.resp = { err := false, data := s.bytes a 4 }
        ∧ t.le a 4 = (amoOp op (w32 (s.le a 4)) (w32 v)).toNat ∧ t.regs = s.regs ∧ t.eng = s.eng
        ∧ ∀ b, ¬ (a ≤ b ∧ b < a + 4) → t.byte b = s.byte b)
    ∧ (∀ (op : Fin 9) (v : Nat), ∃ t, exec (.amo c op a v true) s = .next t
        ∧ t.mtx = { s.mtx with lock := some (portOf a, c, a) } ∧ t.mem = s.mem ∧ t.eng = s.eng
        ∧ t.resp = { waits := true } ∧ SameRegs s t [rkey pgMtx Off.mtxSTAT])
    ∧ (∃ t, exec (.lr c a) s = .next t ∧ t.resp = { err := false, data := s.bytes a 4 } ∧ t.resv c = some a
        ∧ (∀ d : Fin 2, d ≠ c → t.resv d = s.resv d) ∧ t.regs = s.regs ∧ t.mem = s.mem ∧ t.eng = s.eng)
    ∧ (∀ v : Nat, s.resv c = some a → s.slotRefused c a 4 = false →
      ∃ t, exec (.sc c a v) s = .next t ∧ t.resp = { err := false, data := toLE 4 0 } ∧ t.resv c = none
        ∧ t.le a 4 = v % 2 ^ 32 ∧ t.regs = s.regs ∧ t.eng = s.eng ∧ ∀ b, ¬ (a ≤ b ∧ b < a + 4) → t.byte b = s.byte b)
    ∧ (∀ v : Nat, s.resv c ≠ some a → ∃ t, exec (.sc c a v) s = .next t ∧ t.resp = { err := false, data := toLE 4 1 }
        ∧ t.resv c = none ∧ t.regs = s.regs ∧ t.mem = s.mem ∧ t.eng = s.eng))
  ∧ (∀ (s : State) (c : Fin 2) (a b : Nat), s.mtx.lock = some (portOf a, c.val, a) → a < 2 ^ 32 → a % 4 = 0 →
    lockTarget a = true → s.clear = true →
    (∀ (op : Fin 9) (v : Nat), s.cpuRuns c = true → s.ecc = [] → s.memGate a 4 true = .ok → s.slotRefused c a 4 = false →
      ∃ t, exec (.amo c op a v false) s = .next t ∧ t.resp = { err := false, data := s.bytes a 4 } ∧ t.mtx.lock = none
        ∧ t.le a 4 = (amoOp op (w32 (s.le a 4)) (w32 v)).toNat ∧ SameRegs s t [rkey pgMtx Off.mtxSTAT] ∧ t.eng = s.eng
        ∧ ∀ b, ¬ (a ≤ b ∧ b < a + 4) → t.byte b = s.byte b)
    ∧ (∀ (d : Fin 2) (op : Fin 9) (v : Nat) (stall : Bool), s.cpuRuns d = true → b < 2 ^ 32 → b % 4 = 0 →
      portOf b = portOf a → lockTarget b = true →
      exec (.lr d b) s = .next s.wait ∧ exec (.sc d b v) s = .next s.wait
      ∧ ((d, b) ≠ (c, a) → exec (.amo d op b v stall) s = .next s.wait)))
  ∧ (∀ (s : State) (c : Fin 2) (op : Fin 9) (a v : Nat) (stall : Bool), s.cpuRuns c = true → a < 2 ^ 32 → a % 4 = 0 →
    lockTarget a = false → s.pageEn pgMtx = true → s.clear = true →
    ∃ t, exec (.amo c op a v stall) s = .next t ∧ t.resp = { err := true, data := [] }
      ∧ t.rg pgMtx Off.mtxLOCK_REF_CNT = min (s.rg pgMtx Off.mtxLOCK_REF_CNT + 1) 0xFFFFFFFF ∧ t.resv c = none
      ∧ t.mem = s.mem ∧ t.eng = s.eng)
  ∧ (∀ (s : State) (i : Nat) (c : Fin 2) (a : Nat), s.mtx.lock = some (i, c.val, a) → s.pageEn pgMtx = true →
    ∃ t, exec .lockTimeout s = .next t ∧ t.mtx.lock = none ∧ t.rg pgMtx Off.mtxSTAT = 0 ∧ t.resv c = none
      ∧ t.rg pgMtx Off.mtxLOCK_TO_CNT = min (s.rg pgMtx Off.mtxLOCK_TO_CNT + 1) 0xFFFFFFFF
      ∧ t.resp = { err := true, data := [] } ∧ t.mem = s.mem ∧ t.eng = s.eng)
  ∧ (∀ (s : State) (v mid : Nat), s.admits pgMtx Off.mtxHOLD_MAX →
    exec (.holdMaxClear v mid) s = .next (if v % 2 ^ 32 = 0 then s.ok.setRg pgMtx Off.mtxHOLD_MAX 0 else s.ok))
  ∧ (∀ (s : State) (page : Fin 256) (off : Fin 4096) (v mid : Nat) (x : Ext), s.pwr.released = true →
    s.pageEn pgMtx = true → off.val % 4 = 0 → inOrder mid = true →
    ((∃ p ∈ s.outPorts mid, p ≠ pagePort page off) → (∀ h ∈ s.mtx.held, h.1 ≠ mid) →
      ∃ t, exec (.registerWrite page off 4 v mid x) s = .next t ∧ t.mtx = { s.mtx with held := (mid, s.ptp.raw) :: s.mtx.held }
        ∧ t.rg pgMtx Off.mtxHOLD_CNT = min (s.rg pgMtx Off.mtxHOLD_CNT + 1) 0xFFFFFFFF
        ∧ SameRegs s t [rkey pgMtx Off.mtxHOLD_CNT] ∧ t.resp = { waits := true } ∧ t.mem = s.mem ∧ t.eng = s.eng)
    ∧ (∀ raw, s.outPorts mid = [] → s.mtx.held.find? (fun h => h.1 == mid) = some (mid, raw) →
      ∃ t, exec (.registerWrite page off 4 v mid x) s = exec (.registerWrite page off 4 v mid x) t
        ∧ t.mtx = { s.mtx with held := s.mtx.held.filter (fun h => h.1 != mid) }
        ∧ t.rg pgMtx Off.mtxHOLD_MAX
          = max (s.rg pgMtx Off.mtxHOLD_MAX) (min (2 * ((s.ptp.raw + 2 ^ 64 - raw) % 2 ^ 64)) 0xFFFFFFFF)
        ∧ SameRegs s t [rkey pgMtx Off.mtxHOLD_MAX] ∧ t.resp = s.resp ∧ t.mem = s.mem ∧ t.eng = s.eng))

/-- Cores, watchdog and pins. A write of CPUn.CTL stores RUN and HALT_REQ, and a core held in reset loses its lock
and reservation (R384, R393). EN of the watchdog stays once set, the load is that of TIME and WARN, the kick needs
its key, the warning raises its flag, and the expiry makes a unit in ACTIVE strike with cause 3 (R394, R395): that
both come when their commands say so, and that a WARN of 0 falls with the expiry, is the model's (log entries 19,
66). A doorbell interrupts the AOC or sets A2H (R421). An input pin that moves sets its INT_RAW bit where its edge is
selected (R424). -/
def Obligations.CoresWatchdogPins : Prop :=
  (∀ (s : State) (n : Fin 2) (v mid : Nat), s.admits (pgCpu + n) Off.cpuCTL →
    (bitN v 0 = true → ∃ t, exec (.cpuRun n v mid) s = .next t ∧ t.bit (pgCpu + n) Off.cpuCTL 0 = true
      ∧ t.bit (pgCpu + n) Off.cpuCTL 1 = bitN v 1 ∧ t.mtx = s.mtx ∧ SameRegs s t [rkey (pgCpu + n) Off.cpuCTL]
      ∧ t.mem = s.mem ∧ t.eng = s.eng)
    ∧ (bitN v 0 = false → ∃ t, exec (.cpuHold n v mid) s = .next t ∧ t.bit (pgCpu + n) Off.cpuCTL 0 = false
      ∧ t.resv n = none ∧ (∀ l, t.mtx.lock = some l → l.2.1 ≠ n.val)
      ∧ SameRegs s t [rkey (pgCpu + n) Off.cpuCTL, rkey pgMtx Off.mtxSTAT] ∧ t.mem = s.mem ∧ t.eng = s.eng)
    ∧ (bitN v 1 = true → bitN v 0 = true → ∃ t, exec (.haltReq n v mid) s = .next t ∧ t.mtx = s.mtx
      ∧ t.bit (pgCpu + n) Off.cpuCTL 1 = true ∧ t.cpuHalted n = s.debugOpen
      ∧ SameRegs s t [rkey (pgCpu + n) Off.cpuCTL] ∧ t.mem = s.mem ∧ t.eng = s.eng))
  ∧ (∀ (s : State) (v mid : Nat), s.admits pgSys Off.sysWDOG_CTL → bitN v 0 = true →
    ∃ t, exec (.wdogEnable v mid) s = .next t ∧ t.wdEn = true ∧ SameRegs s t [rkey pgSys Off.sysWDOG_CTL]
      ∧ t.mem = s.mem ∧ t.eng = s.eng
      ∧ t.ctl = (if s.wdEn then s.ctl else { s.ctl with
          wdTime := t.fld pgSys Off.sysWDOG_CTL 23 8, wdLeft := t.fld pgSys Off.sysWDOG_CTL 23 8 * 500000
          wdWarn := bitsN v 27 24, wdWarned := false }))
  ∧ (∀ (s : State) (v mid : Nat), s.admits pgSys Off.sysWDOG_KICK →
    exec (.wdogKick v mid) s = .next (if v % 2 ^ 32 = 0xC1A0 ∧ s.wdEn = true then { s.ok with ctl := { s.ctl with
      wdTime := s.fld pgSys Off.sysWDOG_CTL 23 8, wdLeft := s.fld pgSys Off.sysWDOG_CTL 23 8 * 500000
      wdWarn := s.fld pgSys Off.sysWDOG_CTL 27 24, wdWarned := false } }
      else s.ok))
  ∧ (∀ s : State, s.wdCounts = true → s.ctl.wdWarned = false →
    ∃ t, exec .wdogWarn s = .next t ∧ t.ctl.wdWarned = true
      ∧ t.ctl.wdLeft ≤ s.ctl.wdTime * s.ctl.wdWarn * 500000 / 16 ∧ t.mem = s.mem ∧ t.eng = s.eng
      ∧ (s.pageEn pgSys = true → t.bit pgSys Off.headINT_RAW 0 = true))
  ∧ (∀ s : State, s.wdCounts = true → s.ctl.wdWarned = true ∨ s.ctl.wdWarn = 0 →
    ∃ t, exec .wdogExpire s = .next t ∧ t.ctl.wdExpired = true ∧ t.mem = s.mem ∧ t.eng = s.eng
      ∧ (s.pairState = 2 → t.pairState = 6 ∧ t.rg pgPair Off.pairSTRIKE_CAUSE = 3 + 2 ^ 16)
      ∧ (s.pairState ≠ 2 → t.pairState = s.pairState))
  ∧ (∀ (s : State) (v mid : Nat), s.admits pgAoc Off.aocDOORBELL →
    let n := s.ctl.aocDoorbells + (if bitN v 0 then 1 else 0)
    (bitN v 0 = true → ∃ t, exec (.doorbellH2a v mid) s = .next t ∧ t.ctl.aocDoorbells = n ∧ t.mem = s.mem ∧ t.eng = s.eng
      ∧ (bitN v 1 = false → t.regs = s.regs))
    ∧ (bitN v 1 = true → ∃ t, exec (.doorbellA2h v mid) s = .next t ∧ t.ctl.aocDoorbells = n
      ∧ t.bit pgAoc Off.headINT_RAW 0 = true ∧ t.mem = s.mem ∧ t.eng = s.eng))
  ∧ (∀ (s : State) (p : Fin 16) (level : Bool), s.domain 1 = true → s.mode ≠ 4 →
    let moves := s.bit pgGpio Off.gpioDIR p = false ∧ bitN s.ctl.gpioPins p ≠ level
      ∧ s.bit pgGpio (if level then Off.gpioRISE else Off.gpioFALL) p = true
    ∃ t, exec (.gpioEdge p level) s = .next t ∧ t.mem = s.mem ∧ t.eng = s.eng
      ∧ (∀ q, bitN t.ctl.gpioPins q = (if q = p.val then level else bitN s.ctl.gpioPins q))
      ∧ (moves → s.pageEn pgGpio = true → t.bit pgGpio Off.headINT_RAW p = true)
      ∧ (¬ moves → t.regs = s.regs))

/-- Fuses and the debug lock. The key enables programming; GO in SERVICE adds the bits of the data word that program,
those of bad excepted, to the word and its shadow, and is refused for the words that the key does not reach (R414,
R415). A request makes a challenge of serial number, request count and entropy; GO opens the lock where the response
passes, and counts a failure else, the third of which blocks unlocking (R416, R417); that a lock already open stays
open at the third failure is the model's reading (log entry 63). -/
def Obligations.FusesAndDebugLock : Prop :=
  (∀ (s : State) (v mid : Nat), s.admits pgFuse Off.fusePROG_KEY →
    exec (.fuseProgKey v mid) s
      = .next (if v % 2 ^ 32 = 0xF05E then s.ok.setBit pgFuse Off.fusePROG_STAT 1 true else s.ok))
  ∧ (∀ (s : State) (v bad mid : Nat), s.admits pgFuse Off.fusePROG_CTL → bitN v 0 = true →
    let a := s.fld pgFuse Off.fusePROG_ADDR 5 0
    let want := s.rg pgFuse Off.fusePROG_DATA
    let got := (smapGet fuseZero s.ctl.fuses a).toNat ||| (want &&& (0xFFFFFFFF ^^^ bad % 2 ^ 32))
    ∃ t, exec (.fuseProgGo v bad mid) s = .next t ∧ t.mem = s.mem ∧ t.eng = s.eng
      ∧ (s.mode = 5 → s.bit pgFuse Off.fusePROG_STAT 1 = true → fuseRefused a = false →
          t.rg pgFuse (Off.fuseWORD + 4 * a) = got ∧ t.bit pgFuse Off.fusePROG_STAT 2 = (got &&& want != want)
          ∧ ∀ b, (smapGet fuseZero t.ctl.fuses b).toNat = if b = a then got else (smapGet fuseZero s.ctl.fuses b).toNat)
      ∧ (s.mode ≠ 5 ∨ s.bit pgFuse Off.fusePROG_STAT 1 = false ∨ fuseRefused a = true →
          t.ctl.fuses = s.ctl.fuses ∧ t.bit pgFuse Off.headINT_RAW 1 = true
          ∧ ∀ b, b < 64 → t.rg pgFuse (Off.fuseWORD + 4 * b) = s.rg pgFuse (Off.fuseWORD + 4 * b)))
  ∧ (∀ (s : State) (v mid : Nat), s.admits pgSys Off.sysDBG_CTL →
    (bitN v 0 = true → bitN v 1 = false → ∃ t, exec (.dbgReq v mid) s = .next t ∧ t.mem = s.mem ∧ t.eng = s.eng
      ∧ t.ctl.dbgReqs = (s.ctl.dbgReqs + 1) % 2 ^ 64 ∧ t.bit pgSys Off.sysDBG_STAT 4 = true
      ∧ t.rg pgSys Off.sysDBG_CHAL = s.rg pgFuse (Off.fuseWORD + 96)
      ∧ t.rg pgSys (Off.sysDBG_CHAL + 4) = s.rg pgFuse (Off.fuseWORD + 100)
      ∧ t.rg64 pgSys (Off.sysDBG_CHAL + 8) (Off.sysDBG_CHAL + 12) = (s.ctl.dbgReqs + 1) % 2 ^ 64
      ∧ t.fld pgSys Off.sysDBG_STAT 3 0 = s.fld pgSys Off.sysDBG_STAT 3 0 ∧ t.bit pgSys Off.headINT_RAW 3 = true)
    ∧ (bitN v 1 = true → bitN v 0 = false →
      let f := min 3 (s.fld pgSys Off.sysDBG_STAT 3 2 + 1)
      let st := s.fld pgSys Off.sysDBG_STAT 1 0
      ∃ t, exec (.dbgGo v mid) s = .next t ∧ t.mem = s.mem ∧ t.eng = s.eng
        ∧ t.fld pgSys Off.sysDBG_STAT 1 0 = (if s.dbgPass then 1 else if f = 3 ∧ st ≠ 1 then 2 else st)
        ∧ t.fld pgSys Off.sysDBG_STAT 3 2 = (if s.dbgPass then s.fld pgSys Off.sysDBG_STAT 3 2 else f)
        ∧ t.bit pgSys Off.sysDBG_STAT 4 = (s.dbgPass && s.bit pgSys Off.sysDBG_STAT 4)
        ∧ t.bit pgSys Off.headINT_RAW (if s.dbgPass then 1 else 2) = true))


/-! ## Boot port, host load, PCIe function -/

/-- The boot port. GO of a read sends opcode (in 8D-8D-8D with its inverse, R407) and address bytes and takes the
flash's bytes into the FIFO; GO of a write sends bytes of the FIFO; a GO while BUSY is ignored, and the other fields
are stored (log entry 37). A read of FIFO takes four bytes out of it, and one that finds it empty gets an error
response, as does a write that finds no room for its four bytes (R408, R419; log entries 3, 63). In host load,
HOST_GO applies codes 3 to 7 to the image in the shared store and records the code; where all pass, both cores run at
the image's entries (R405, R406); which bytes the checks read, and that they read HOST_LEN of them, is the model's
reading (log entry 63). -/
def Obligations.BootPort : Prop :=
  (∀ (s : State) (v mid : Nat) (data : List Byte), s.admits pgBoot Off.bootCMD → bitN v 31 = true →
    let n := bitsN v 19 12 + 1
    let inv := if s.fld pgBoot Off.bootCFG 1 0 = 2 then toLE 1 (255 - v % 256) else []
    let head := toLE 1 v ++ inv ++ toBE (addrBytes (bitsN v 9 8)) (s.rg pgBoot Off.bootADDR)
    (s.bootBusy = false → bitN v 10 = false → data.length = n → s.ctl.bootFifo = [] →
      ∃ t, exec (.flashCmd v data mid) s = .next t ∧ t.ctl.bootFifo = data ∧ t.ctl.flashSent = head
        ∧ t.bootBusy = false ∧ t.bit pgBoot Off.bootSTAT 0 = false ∧ t.fld pgBoot Off.bootSTAT 9 1 = n
        ∧ (s.bit pgBoot Off.bootCFG 12 = true → t.ctl.hashBytes = s.ctl.hashBytes ++ data)
        ∧ (s.bit pgBoot Off.bootCFG 12 = false → SameRegs s t [rkey pgBoot Off.bootCMD, rkey pgBoot Off.bootSTAT])
        ∧ t.mem = s.mem ∧ t.eng = s.eng)
    ∧ (s.bootBusy = false → bitN v 10 = true → n ≤ s.ctl.bootFifo.length →
      ∃ t, exec (.flashCmd v data mid) s = .next t ∧ t.ctl.bootFifo = s.ctl.bootFifo.drop n
        ∧ t.ctl.flashSent = head ++ s.ctl.bootFifo.take n ∧ t.bootBusy = false
        ∧ SameRegs s t [rkey pgBoot Off.bootCMD, rkey pgBoot Off.bootSTAT] ∧ t.mem = s.mem ∧ t.eng = s.eng)
    ∧ (s.bootBusy = true → exec (.flashCmd v data mid) s = .next (s.ok.putReg pgBoot Off.bootCMD v)))
  ∧ (∀ (s : State) (mid : Nat), s.readable pgBoot Off.bootFIFO →
    (4 ≤ s.ctl.bootFifo.length → s.ctl.flashIn = [] → ∃ t, exec (.bootFifoRead mid) s = .next t
      ∧ t.resp = { err := false, data := s.ctl.bootFifo.take 4 } ∧ t.ctl = { s.ctl with bootFifo := s.ctl.bootFifo.drop 4 }
      ∧ SameRegs s t [rkey pgBoot Off.bootSTAT] ∧ t.mem = s.mem ∧ t.eng = s.eng)
    ∧ (s.ctl.bootFifo = [] → ∃ t, exec (.bootFifoRead mid) s = .next t ∧ t.resp = { err := true, data := [] }
      ∧ t.ctl = s.ctl ∧ t.mem = s.mem ∧ t.eng = s.eng))
  ∧ (∀ (s : State) (v mid : Nat), s.admits pgBoot Off.bootFIFO →
    (s.ctl.bootFifo.length ≤ 252 → s.ctl.flashOut = 0 → ∃ t, exec (.bootFifoWrite v mid) s = .next t
      ∧ t.resp = { err := false, data := [] } ∧ t.ctl = { s.ctl with bootFifo := s.ctl.bootFifo ++ toLE 4 v }
      ∧ SameRegs s t [rkey pgBoot Off.bootSTAT] ∧ t.mem = s.mem ∧ t.eng = s.eng)
    ∧ (252 < s.ctl.bootFifo.length → ∃ t, exec (.bootFifoWrite v mid) s = .next t ∧ t.resp = { err := true, data := [] }
      ∧ t.ctl = s.ctl ∧ t.mem = s.mem ∧ t.eng = s.eng))
  ∧ (∀ (s : State) (v mid : Nat), s.admits pgBoot Off.bootHOST_GO → bitN v 0 = true →
    (s.ctl.hostWait = true → s.ecc = [] → s.mode ≠ 4 →
      let im := s.bytes 0x10000000 (min (s.rg pgBoot Off.bootHOST_LEN) 0x800000)
      ∃ t, exec (.hostGo v mid) s = .next t ∧ t.fld pgBoot Off.bootRESULT 11 8 = s.bootCheck im
        ∧ t.ctl.hostWait = (s.bootCheck im != 0) ∧ t.eng = s.eng ∧ (s.bootCheck im = 3 → t.mem = s.mem)
        ∧ ∀ n : Fin 2, t.bit (pgCpu + n) Off.cpuCTL 0 = (s.bootCheck im == 0 || s.bit (pgCpu + n) Off.cpuCTL 0)
          ∧ t.rg (pgCpu + n) Off.cpuRESET_VEC
            = if s.bootCheck im = 0 then leAt im (0x18 + 4 * n) 4 else s.rg (pgCpu + n) Off.cpuRESET_VEC)
    ∧ (s.ctl.hostWait = false → exec (.hostGo v mid) s = .next s.ok))

/-- The PCIe function. A request through BAR2 reads or writes the shared store as master 3, and one through BAR0
reaches the register pages as an access of that master (R410); an error response of a read is counted (R411). A
function level reset restores the page's registers but IDS, SUBSYS and its own count (R413), PERST_N acts as one and
is held (R477); the link's status shows (R422). Unmasking an MSI-X vector whose pending bit is set clears that bit,
and sends one message of the vector if the line of its page is still asserted, and none otherwise (R412); the places
of the mask and the pending bits are presumed (log entry 5). -/
def Obligations.PcieFunction : Prop :=
  (∀ (s : State) (o n : Nat) (data : List Byte) (x : Ext), s.pwr.released = true → s.linkUp = true → s.mtx.lock = none →
    s.clear = true → s.ecc = [] → s.mode ≠ 4 → 0 < n → o + n ≤ 0x1000000 → data.length = n →
    (∃ t, exec (.pcieRequest 1 o n false data x) s = .next t ∧ t.resp = { err := false, data := s.bytes (0x10000000 + o) n }
      ∧ t.regs = s.regs ∧ t.mem = s.mem ∧ t.eng = s.eng)
    ∧ (s.slotRefused 3 (0x10000000 + o) n = false → ∃ t, exec (.pcieRequest 1 o n true data x) s = .next t
      ∧ t.resp = { err := false, data := [] } ∧ t.regs = s.regs ∧ t.eng = s.eng
      ∧ (∀ i, i < n → t.byte (0x10000000 + o + i) = data.getD i 0)
      ∧ ∀ a, ¬ (0x10000000 + o ≤ a ∧ a < 0x10000000 + o + n) → t.byte a = s.byte a))
  ∧ (∀ (s t : State) (page : Fin 256) (off : Fin 4096) (data : List Byte) (x : Ext), s.pwr.released = true →
    s.linkUp = true → s.mtx.lock = none → pageKind page ≠ .none → data.length = 4 → off.val % 4 = 0 →
    exec (.registerWrite page off 4 (ofLE data) 3 x) s = .next t → t.resp.err = false →
    exec (.pcieRequest 0 (page * 0x1000 + off) 4 true data x) s = .next t)
  ∧ (∀ (s : State) (page : Fin 256) (off : Fin 4096) (data : List Byte) (x : Ext), s.pwr.released = true →
    s.linkUp = true → s.mtx.lock = none → s.clear = true → pageKind page = .none → off.val % 4 = 0 → s.pageEn pgPcie = true →
    ∃ t, exec (.pcieRequest 0 (page * 0x1000 + off) 4 false data x) s = .next t ∧ t.resp = { err := true, data := [] }
      ∧ t.rg pgPcie Off.pcieRD_ERR_CNT = min (s.rg pgPcie Off.pcieRD_ERR_CNT + 1) 0xFFFFFFFF
      ∧ t.bit pgPcie Off.headINT_RAW 3 = true ∧ t.mem = s.mem ∧ t.eng = s.eng)
  ∧ (∀ s : State, s.linkUp = true → ∃ t, exec .flr s = .next t ∧ t.mem = s.mem ∧ t.eng = s.eng
      ∧ t.rg pgPcie Off.pcieFLR_CNT = min (s.rg pgPcie Off.pcieFLR_CNT + 1) 0xFFFFFFFF
      ∧ t.rg pgPcie Off.pcieIDS = s.rg pgPcie Off.pcieIDS ∧ t.rg pgPcie Off.pcieSUBSYS = s.rg pgPcie Off.pcieSUBSYS
      ∧ t.bit pgPcie Off.headINT_RAW 1 = true
      ∧ ∀ i, i < 512 → t.rg pgPcie (Off.pcieMSIX + 4 * i) = (resetWord (rkey pgPcie (Off.pcieMSIX + 4 * i))).toNat)
  ∧ (∀ (s : State) (low : Bool), s.ctl.perst ≠ low → s.domain 1 = true →
    ∃ t, exec (.pciePerst low) s = .next t ∧ t.ctl.perst = low ∧ t.mem = s.mem ∧ t.eng = s.eng
      ∧ t.rg pgPcie Off.pcieFLR_CNT
        = (if low then min (s.rg pgPcie Off.pcieFLR_CNT + 1) 0xFFFFFFFF else s.rg pgPcie Off.pcieFLR_CNT))
  ∧ (∀ (s : State) (up : Bool) (gen width ltssm : Nat), s.pageEn pgPcie = true → s.linkUp ≠ up → s.domain 1 = true →
    (up = true → s.bit pgPcie Off.pcieCTL 0 = true ∧ s.ctl.perst = false) →
    ∃ t, exec (.pcieLinkChange up gen width ltssm) s = .next t ∧ t.linkUp = up ∧ t.bit pgPcie Off.headINT_RAW 0 = true
      ∧ t.fld pgPcie Off.pcieSTAT 13 8 = ltssm % 64 ∧ t.mem = s.mem ∧ t.eng = s.eng
      ∧ (up = true → 1 ≤ gen → gen ≤ 4 → t.fld pgPcie Off.pcieSTAT 3 1 = gen))
  ∧ (∀ (s : State) (n : Fin 128) (v mid : Nat),
    let e := Off.pcieMSIX + 16 * n.val + 12
    let b := Off.pciePBA + 4 * (n.val / 32)
    let page := if 0x60 ≤ n.val then n.val - 0x60 + 0x80 else n.val
    s.admits pgPcie e → bitN v 0 = false → s.bit pgPcie e 0 = true → s.bit pgPcie b (n.val % 32) = true →
    pageKind page ≠ .none →
    ∃ t, exec (.msixUnmask n v mid) s = .next t ∧ t.bit pgPcie e 0 = false ∧ t.bit pgPcie b (n.val % 32) = false
      ∧ t.ctl.msixSent = (if s.line page then s.ctl.msixSent ++ [n.val] else s.ctl.msixSent)
      ∧ SameRegs s t [rkey pgPcie e, rkey pgPcie b] ∧ SameMem s t ∧ t.eng = s.eng)


/-! ## Two-wire bus -/

/-- The controller of the two-wire bus. A command on a free bus ends with its result, its count of bytes and DONE: 0
where every byte is acknowledged, 1 where the address is not, 2 at a data byte (R432, R438); one that finds the bus
held waits, and starts once it is free (R433); a lost arbitration is repeated while repeats are left, else result 3
(R433). A recovery succeeds within nine pulses, else result 6 (R436); an abort ends with 7, a foreign condition with
4 and SCL_TO with 5 (R434, R435). FIFO takes and gives one byte an access, else an error response (R439). That a GO
while BUSY begins nothing and has its fields stored, that the bytes sent leave the FIFO when the command ends, and
what OWNS_BUS shows, is the model's (log entries 75, 97). -/
def Obligations.TwoWireController : Prop :=
  (∀ (s : State) (v mid : Nat) (run : TwbRun), s.admits pgTwb Off.twbCMD → s.bit pgTwb Off.twbCTL 1 = true →
    s.twb.cmd = 0 → s.twb.active = false → run.sdaLow = false → bitN v 31 = true → bitN v 17 = false → bitN v 18 = false →
    v % 128 ≠ s.fld pgTwb Off.twbADDR 6 0 →
    let n := bitsN v 15 8 + 1
    let c : Instr := if bitN v 7 then .twbControllerRead v run mid else .twbControllerWrite v run mid
    let ended (t : State) (r k : Nat) : Prop := t.twb.cmd = 0 ∧ t.fld pgTwb Off.twbSTAT 26 24 = r
      ∧ t.fld pgTwb Off.twbSTAT 23 16 = k % 256 ∧ t.bit pgTwb Off.headINT_RAW 0 = true ∧ t.mem = s.mem ∧ t.eng = s.eng
    (run.held = true → s.twbOwns = false → ∃ t, exec c s = .next t ∧ t.twb.cmd = 1 ∧ t.twb.fifo = s.twb.fifo
      ∧ t.mem = s.mem ∧ t.eng = s.eng)
    ∧ (run.held = false → run.lost = none → run.ack = false → ∃ t, exec c s = .next t ∧ ended t 1 0
      ∧ t.twbOwns = !bitN v 16 ∧ t.twb.fifo = s.twb.fifo)
    ∧ (run.held = false → run.lost = none → run.ack = true → run.ends = true → bitN v 7 = false →
      n ≤ s.twb.fifo.length → firstNak n run.acks = none → ∃ t, exec c s = .next t ∧ ended t 0 n
        ∧ t.twbOwns = !bitN v 16 ∧ t.twb.fifo = s.twb.fifo.drop n
        ∧ t.twb.bus = BitVec.ofNat 8 (2 * (v % 128)) :: s.twb.fifo.take n)
    ∧ (∀ i, run.held = false → run.lost = none → run.ack = true → run.ends = true → bitN v 7 = false →
      n ≤ s.twb.fifo.length → firstNak n run.acks = some i → ∃ t, exec c s = .next t ∧ ended t 2 i
        ∧ t.twb.fifo = s.twb.fifo.drop (i + 1))
    ∧ (run.held = false → run.lost = none → run.ack = true → run.ends = true → bitN v 7 = true → run.bytes.length = n →
      s.twb.fifo.length + n ≤ 256 → ∃ t, exec c s = .next t ∧ ended t 0 n ∧ t.twbOwns = !bitN v 16
        ∧ t.twb.fifo = s.twb.fifo ++ run.bytes)
    ∧ (∀ l, run.held = false → run.lost = some l → ∃ t, exec c s = .next t
      ∧ t.rg pgTwb Off.twbARB_LOST_CNT = min (s.rg pgTwb Off.twbARB_LOST_CNT + 1) 0xFFFFFFFF ∧ t.twbOwns = false
      ∧ t.mem = s.mem ∧ t.eng = s.eng
      ∧ (s.fld pgTwb Off.twbCTL 6 4 = 0 → t.twb.cmd = 0 ∧ t.fld pgTwb Off.twbSTAT 26 24 = 3)
      ∧ (s.fld pgTwb Off.twbCTL 6 4 ≠ 0 → t.twb.cmd = 3 ∧ t.twb.retries = s.fld pgTwb Off.twbCTL 6 4 - 1)))
  ∧ (∀ (s : State) (run : TwbRun), s.twb.active = false → run.lost = none → run.ack = false → run.sdaLow = false →
    s.cmdAddr ≠ s.fld pgTwb Off.twbADDR 6 0 →
    (s.twb.cmd = 3 → ∃ t, exec (.twbArbRetry run) s = .next t ∧ t.twb.cmd = 0 ∧ t.fld pgTwb Off.twbSTAT 26 24 = 1
      ∧ t.twbOwns = !s.cmdStop ∧ t.mem = s.mem ∧ t.eng = s.eng)
    ∧ (s.twb.cmd = 1 → ∃ t, exec (.twbBusFreeStart run) s = .next t ∧ t.twb.cmd = 0 ∧ t.fld pgTwb Off.twbSTAT 26 24 = 1
      ∧ t.twbOwns = !s.cmdStop ∧ t.mem = s.mem ∧ t.eng = s.eng))
  ∧ (∀ (s : State) (v mid : Nat) (run : TwbRun), s.admits pgTwb Off.twbCMD → s.bit pgTwb Off.twbCTL 1 = true →
    (s.twb.cmd = 0 → bitN v 17 = true → bitN v 18 = false → run.foreign = false →
      ∃ t, exec (.twbRecover v run mid) s = .next t
        ∧ t.rg pgTwb Off.twbREC_CNT = min (s.rg pgTwb Off.twbREC_CNT + 1) 0xFFFFFFFF ∧ t.mem = s.mem ∧ t.eng = s.eng
        ∧ t.fld pgTwb Off.twbSTAT 26 24
          = (if run.sclLow = false ∧ 1 ≤ run.pulses ∧ run.pulses ≤ 9 then 0 else 6))
    ∧ (s.twb.cmd ≠ 0 → bitN v 18 = true → bitN v 17 = false → bitN v 31 = false →
      ∃ t, exec (.twbAbort v run mid) s = .next t ∧ t.twb.cmd = 0 ∧ t.fld pgTwb Off.twbSTAT 26 24 = 7
        ∧ t.twbOwns = false ∧ t.mem = s.mem ∧ t.eng = s.eng)
    ∧ (s.twb.cmd ≠ 0 → bitN v 18 = false → bitN v 31 = true →
      exec (if bitN v 7 then .twbControllerRead v run mid else .twbControllerWrite v run mid) s
        = .next (s.ok.putReg pgTwb Off.twbCMD v)))
  ∧ (∀ s : State, s.twbOwns = true →
    (∃ t, exec .twbControllerBusError s = .next t ∧ t.twbOwns = false ∧ t.mem = s.mem ∧ t.eng = s.eng
      ∧ t.rg pgTwb Off.twbBUS_ERR_CNT = min (s.rg pgTwb Off.twbBUS_ERR_CNT + 1) 0xFFFFFFFF
      ∧ (s.twb.cmd = 2 → t.twb.cmd = 0 ∧ t.fld pgTwb Off.twbSTAT 26 24 = 4)
      ∧ (s.twb.cmd ≠ 2 → t.twb.cmd = s.twb.cmd))
    ∧ (s.twb.cmd = 2 → s.fld pgTwb Off.twbSCL_TO 15 0 ≠ 0 → ∃ t, exec .twbSclTimeout s = .next t ∧ t.twb.cmd = 0
      ∧ t.fld pgTwb Off.twbSTAT 26 24 = 5 ∧ t.twbOwns = false ∧ t.mem = s.mem ∧ t.eng = s.eng))
  ∧ (∀ (s : State) (v mid : Nat), s.admits pgTwb Off.twbFIFO →
    (s.twb.fifo.length < 256 → ∃ t, exec (.twbFifoWrite v mid) s = .next t ∧ t.resp = { err := false, data := [] }
      ∧ t.twb = { s.twb with fifo := s.twb.fifo ++ [BitVec.ofNat 8 v] } ∧ SameRegs s t [rkey pgTwb Off.twbSTAT]
      ∧ t.mem = s.mem ∧ t.eng = s.eng)
    ∧ (256 ≤ s.twb.fifo.length → ∃ t, exec (.twbFifoWrite v mid) s = .next t ∧ t.resp = { err := true, data := [] }
      ∧ t.twb = s.twb ∧ t.mem = s.mem ∧ t.eng = s.eng))
  ∧ (∀ (s : State) (mid : Nat), s.readable pgTwb Off.twbFIFO →
    (∀ b bs, s.twb.fifo = b :: bs → ∃ t, exec (.twbFifoRead mid) s = .next t
      ∧ t.resp = { err := false, data := toLE 4 b.toNat } ∧ t.twb = { s.twb with fifo := bs }
      ∧ SameRegs s t [rkey pgTwb Off.twbSTAT] ∧ t.mem = s.mem ∧ t.eng = s.eng)
    ∧ (s.twb.fifo = [] → ∃ t, exec (.twbFifoRead mid) s = .next t ∧ t.resp = { err := true, data := [] } ∧ t.twb = s.twb
      ∧ t.mem = s.mem ∧ t.eng = s.eng))

/-- The target of the two-wire bus. A pointer in the pages, a multiple of four, is taken, and another raises PTR_ERR
(R426); a busy target answers NAK and counts (R430). A word written goes to an access at the pointer, which steps on
by four, or is refused and counted while one is pending (R428). A completed access is one of master 2 at its address
(R427): a word written is put into the register, a word read waits to be sent; one that fails raises ACC_ERR and
reads 0. A read delivers the register at the pointer, with the next access issued, or all ones and RD_LATE where it
is late (R429). A bus error, inside the pointer bytes too, ends the transaction (R431); in DORMANT its own address
asks for a wake (R437, R451). When a pending access gives NAK, and that a match counts where WAKE_EN lets it ask for
a wake, is the model's reading (log entry 76). -/
def Obligations.TwoWireTarget : Prop :=
  (∀ (s : State) (p : Nat) (stop : Bool), s.twbRuns = true → p < 2 ^ 32 →
    (s.tgtBusy = false → ptrOk p = true → ∃ t, exec (.twbSetPointer p stop) s = .next t ∧ t.rg pgTwb Off.twbTGT_PTR = p
      ∧ t.twb.active = !stop ∧ t.twb.ptrSet = !stop ∧ SameRegs s t [rkey pgTwb Off.twbTGT_PTR, rkey pgTwb Off.twbSTAT]
      ∧ t.mem = s.mem ∧ t.eng = s.eng)
    ∧ (s.tgtBusy = false → ptrOk p = false → ∃ t, exec (.twbSetPointer p stop) s = .next t ∧ t.twb.ptrSet = false
      ∧ t.rg pgTwb Off.twbTGT_PTR = s.rg pgTwb Off.twbTGT_PTR ∧ t.bit pgTwb Off.headINT_RAW 6 = true ∧ t.mem = s.mem
      ∧ t.eng = s.eng)
    ∧ (s.tgtBusy = true → ∃ t, exec (.twbSetPointer p stop) s = .next t ∧ t.twb.active = false
      ∧ t.rg pgTwb Off.twbTGT_PTR = s.rg pgTwb Off.twbTGT_PTR ∧ t.bit pgTwb Off.headINT_RAW 4 = true
      ∧ t.rg pgTwb Off.twbNAK_BUSY_CNT = min (s.rg pgTwb Off.twbNAK_BUSY_CNT + 1) 0xFFFFFFFF ∧ t.mem = s.mem
      ∧ t.eng = s.eng))
  ∧ (∀ (s : State) (w : Nat), s.twbRuns = true → s.twb.active = true → s.twb.ptrSet = true → s.twb.rd = false →
    (s.twb.acc = [] → ∃ t, exec (.twbTargetWriteWord w false) s = .next t
      ∧ t.twb = { s.twb with acc := [⟨true, s.rg pgTwb Off.twbTGT_PTR, w % 2 ^ 32, false⟩] }
      ∧ t.rg pgTwb Off.twbTGT_PTR = (s.rg pgTwb Off.twbTGT_PTR + 4) % 2 ^ 32
      ∧ SameRegs s t [rkey pgTwb Off.twbTGT_PTR] ∧ t.mem = s.mem ∧ t.eng = s.eng)
    ∧ (s.twb.acc ≠ [] → ∃ t, exec (.twbTargetWriteWord w false) s = .next t ∧ t.twb = s.twb ∧ t.mem = s.mem
      ∧ t.rg pgTwb Off.twbTGT_PTR = s.rg pgTwb Off.twbTGT_PTR ∧ t.eng = s.eng
      ∧ t.rg pgTwb Off.twbNAK_BUSY_CNT = min (s.rg pgTwb Off.twbNAK_BUSY_CNT + 1) 0xFFFFFFFF))
  ∧ (∀ (s t : State) (page : Fin 256) (off : Fin 4096) (w : Nat) (cs : List TwbAcc) (x : Ext), s.pwr.released = true →
    s.clear = true → s.mtx.lock = none → pageKind page ≠ .none → off.val % 4 = 0 → w < 2 ^ 32 →
    s.twb.acc = ⟨true, regAddr page off, w, false⟩ :: cs →
    exec (.registerWrite page off 4 w 2 x) { s with twb := { s.twb with acc := cs } } = .next t → t.resp.err = false →
    t.resp.waits = false → exec (.twbAccessDone x) s = .next t)
  ∧ (∀ (s : State) (page : Fin 256) (off : Fin 4096) (w : Nat) (d : Bool) (cs : List TwbAcc) (x : Ext),
    page.val = pgRst ∨ page.val = pgStore ∨ page.val = pgGain → 0x100 ≤ off.val → off.val % 4 = 0 → w < 2 ^ 32 →
    s.admits page off → s.twb.acc = ⟨true, regAddr page off, w, d⟩ :: cs →
    let u := { s with twb := { s.twb with acc := cs } }.ok
    exec (.twbAccessDone x) s = .next (match rowAt page off with
      | none => u
      | some r => match r.acc with
        | .rw | .rwh | .nx => u.setRg page off (applyLimits r.limits (w &&& r.mask))
        | .w1c => u.setRg page off (s.rg page off - (s.rg page off &&& w))
        | .ro | .wo | .w1s => u))
  ∧ (∀ (s : State) (off : Nat) (w : Nat) (d : Bool) (cs : List TwbAcc) (x : Ext), s.readable pgRst off → 0x100 ≤ off →
    off < 0x120 → off % 4 = 0 → s.twb.acc = ⟨false, regAddr pgRst off, w, d⟩ :: cs →
    exec (.twbAccessDone x) s = .next { s with
      resp := { err := false, data := toLE 4 (s.rg pgRst off) }
      twb := { s.twb with acc := cs, ready := s.twb.ready ++ (if d then [] else [s.rg pgRst off]) } })
  ∧ (∀ (s : State) (a w : Nat) (cs : List TwbAcc) (x : Ext), s.pwr.released = true → s.clear = true →
    s.mtx.lock = none →
    targetOf a = .none → targetOf (a + 3) = .none → s.pageEn pgTwb = true → s.twb.acc = ⟨false, a, w, false⟩ :: cs →
    ∃ t, exec (.twbAccessDone x) s = .next t ∧ t.twb = { s.twb with acc := cs, ready := s.twb.ready ++ [0] }
      ∧ t.bit pgTwb Off.headINT_RAW 7 = true ∧ t.mem = s.mem ∧ t.eng = s.eng)
  ∧ (∀ (s : State) (off : Nat), s.twbRuns = true → s.tgtBusy = false → s.mtx.lock = none → s.readable pgRst off →
    0x100 ≤ off → off < 0x120 → off % 4 = 0 → s.rg pgTwb Off.twbTGT_PTR = regAddr pgRst off →
    (∃ t, exec (.twbTargetReadWord true false 4 false) s = .next t ∧ t.twb.sent = some (s.rg pgRst off)
      ∧ t.rg pgTwb Off.twbTGT_PTR = regAddr pgRst off + 4 ∧ t.twb.acc = [⟨false, regAddr pgRst off + 4, 0, false⟩]
      ∧ t.twb.active = true ∧ SameRegs s t [rkey pgTwb Off.twbTGT_PTR, rkey pgTwb Off.twbSTAT] ∧ t.mem = s.mem
      ∧ t.eng = s.eng)
    ∧ (∃ t, exec (.twbTargetReadWord true true 4 false) s = .next t ∧ t.twb.sent = some 0xFFFFFFFF
      ∧ t.rg pgTwb Off.twbRD_LATE_CNT = min (s.rg pgTwb Off.twbRD_LATE_CNT + 1) 0xFFFFFFFF
      ∧ t.bit pgTwb Off.headINT_RAW 5 = true ∧ t.mem = s.mem ∧ t.eng = s.eng))
  ∧ (∀ s : State, s.twbRuns = true → s.twb.active = true ∨ s.tgtBusy = false → ∃ t, exec .twbTargetBusError s = .next t
      ∧ t.twb.active = false ∧ t.bit pgTwb Off.headINT_RAW 3 = true ∧ t.mem = s.mem ∧ t.eng = s.eng
      ∧ t.rg pgTwb Off.twbTGT_BUS_ERR_CNT = min (s.rg pgTwb Off.twbTGT_BUS_ERR_CNT + 1) 0xFFFFFFFF)
  ∧ (∀ (s : State) (a : Nat), s.mode = 4 → s.twb.wakeMatch = false → s.bit pgTwb Off.twbWAKE_CFG 0 = true →
    a % 128 = s.fld pgTwb Off.twbADDR 6 0 → s.bit pgPwr Off.pwrWAKE_EN 1 = true → s.pwr.railWait = false →
    ∃ t, exec (.twbWakeMatch a) s = .next t ∧ t.twb = { s.twb with wakeMatch := true }
      ∧ t.bit pgPwr Off.pwrWAKE_CAUSE 1 = true ∧ SameRegs s t [rkey pgPwr Off.pwrWAKE_CAUSE] ∧ t.mem = s.mem
      ∧ t.eng = s.eng ∧ t.pwr.railWait = s.pwr.lowTimeDone)


/-! ## Modes, sleep, wake, resets -/

/-- Mode requests (R444). RUN powers up from BOOT, resumes from QUIET as a wake event, and leaves SERVICE at once;
SERVICE powers up from BOOT or stops every output at once (R446), a unit in a pair leaving it first (R355); QUIET and
DORMANT begin the negotiation with agent 0 (R447). A request while BUSY is refused with reason 2, and another that
the table of R444 does not list with reason 1; the one exception is RUN during the entry to QUIET, which is a wake
event. -/
def Obligations.ModeRequests : Prop :=
  (∀ (s : State) (v mid : Nat), s.admits pgPwr Off.pwrMODE_REQ → s.pwrBusy = false →
    (bitsN v 2 0 = 1 → s.mode = 0 → ∃ t, exec (.modeReqRun v mid) s = .next t ∧ t.pwr = { s.pwr with powerUp := some 1 }
      ∧ t.pwrBusy = true ∧ t.mode = 0 ∧ t.mem = s.mem ∧ t.eng = s.eng
      ∧ SameRegs s t [rkey pgPwr Off.pwrMODE_REQ, rkey pgPwr Off.pwrMODE])
    ∧ (bitsN v 2 0 = 1 → s.mode = 3 → s.pwr.negTarget = none → s.pwr.resuming = false →
      ∃ t, exec (.modeReqRun v mid) s = .next t ∧ t.pwr = { s.pwr with wakePending := s.pwr.wakePending ||| 16 }
        ∧ t.pwrBusy = true ∧ t.bit pgPwr Off.pwrWAKE_CAUSE 4 = true ∧ t.mode = 3 ∧ t.mem = s.mem ∧ t.eng = s.eng)
    ∧ (bitsN v 2 0 = 1 → s.mode = 5 → ∃ t, exec (.modeReqRun v mid) s = .next t ∧ t.mode = s.runMode
      ∧ t.pwrBusy = false ∧ t.fld pgPwr Off.pwrSTAT 1 0 = 1 ∧ t.bit pgPwr Off.headINT_RAW 0 = true ∧ t.mem = s.mem
      ∧ t.eng = s.eng)
    ∧ (bitsN v 2 0 = 5 → s.mode = 0 → ∃ t, exec (.modeReqService v mid) s = .next t
      ∧ t.pwr = { s.pwr with powerUp := some 5 } ∧ t.pwrBusy = true ∧ t.mode = 0 ∧ t.mem = s.mem ∧ t.eng = s.eng)
    ∧ (bitsN v 2 0 = 5 → s.mode = 1 ∨ s.mode = 2 → ∃ t, exec (.modeReqService v mid) s = .next t ∧ t.mode = 5
      ∧ t.fld pgPwr Off.pwrSTAT 1 0 = 1 ∧ t.bit pgPwr Off.headINT_RAW 0 = true ∧ t.mem = s.mem ∧ t.eng = s.eng
      ∧ (∀ m, m < 32 → t.switching m = false)
      ∧ (∀ p, p < 16 → (s.port p).runs = true → t.bit (pgTdm + p) Off.tdmCTL 1 = true)
      ∧ t.pairState = (if s.pairState = 2 then 6 else 0))
    ∧ (∀ n, n = 3 ∨ n = 4 → bitsN v 2 0 = n → modeOk s.mode n = true →
      ∃ t, exec (if n = 3 then .modeReqQuiet v mid else .modeReqDormant v mid) s = .next t
        ∧ t.pwr = { s.pwr with negTarget := some n, stopped := [], wakePending := 0 } ∧ t.pwrBusy = true
        ∧ t.fld pgPwr Off.pwrMODE 7 4 = 0 ∧ t.mem = s.mem ∧ t.eng = s.eng))
  ∧ (∀ (s : State) (v mid : Nat), s.admits pgPwr Off.pwrMODE_REQ →
    let m := bitsN v 2 0
    let c : Instr := if m = 1 then .modeReqRun v mid else if m = 5 then .modeReqService v mid
      else if m = 3 then .modeReqQuiet v mid else .modeReqDormant v mid
    let refused (t : State) (reason : Nat) : Prop := t.fld pgPwr Off.pwrSTAT 5 4 = reason ∧ t.mode = s.mode
      ∧ t.pwr = s.pwr ∧ t.bit pgPwr Off.headINT_RAW 2 = true ∧ t.rg pgPwr Off.pwrMODE_REQ = s.rg pgPwr Off.pwrMODE_REQ
      ∧ t.mem = s.mem ∧ t.eng = s.eng
    m = 1 ∨ m = 3 ∨ m = 4 ∨ m = 5 →
    (s.pwrBusy = true → ¬ (m = 1 ∧ s.pwr.negTarget = some 3) → ∃ t, exec c s = .next t ∧ refused t 2)
    ∧ (s.pwrBusy = false → modeOk s.mode m = false → ∃ t, exec c s = .next t ∧ refused t 1)
    ∧ (s.pwrBusy = true → m = 1 → s.pwr.negTarget = some 3 → s.mode ≠ 4 → ∃ t, exec c s = .next t
      ∧ t.pwr = { s.pwr with wakePending := s.pwr.wakePending ||| 16 } ∧ t.mode = s.mode
      ∧ t.bit pgPwr Off.pwrWAKE_CAUSE 4 = true ∧ t.mem = s.mem ∧ t.eng = s.eng))

/-- The sleep negotiation (R447, R448): the agent being asked refuses with its code, and the negotiation ends with
the mode as it was; it stops, and the next agent is asked; or a pending wake event aborts, an alarm at or below the
ledger at the last stop among them. The last agent's stop powers the domains of the target down: QUIET keeps the
memories (R449, R455), and DORMANT keeps those of the AOC alone, with MAIN_EN low (R450). An agent that does not
answer refuses with code 15. In QUIET a wake event that the end of the negotiation finds pending begins the
transition to RUN. When the stops and results show is the model's reading (log entry 68); the edges since the ledger
was known last and the agents' measures are told by the command (log entry 19), and what DORMANT loses reads as never
written (log entry 2). -/
def Obligations.SleepNegotiation : Prop :=
  (∀ (s : State) (n : Nat) (xfer : Bool) (edges shut : Nat), s.pwr.negTarget = some n → n = 3 ∨ n = 4 → s.pageEn pgPwr = true → s.mode ≠ 4 →
    let a := s.pwr.stopped.length
    let l := (s.ledger + edges) % 2 ^ 48
    let due := s.alarm ≤ l ∧ s.bit pgPwr Off.pwrALARM_HI 31 = true ∧ s.bit pgPwr Off.pwrWAKE_EN 2 = true
    let waits := 1 ≤ a ∧ a ≤ 4 ∧ s.esc.tickOpen = true
    let ended (t : State) (result : Nat) : Prop := t.pwr.negTarget = none ∧ t.pwr.stopped = []
      ∧ t.pwrBusy = (s.mode == 3 && t.pwr.wakePending != 0) ∧ t.mode = s.mode ∧ t.fld pgPwr Off.pwrSTAT 1 0 = result ∧ t.mem = s.mem ∧ t.eng = s.eng
    (s.agentCode n a xfer shut ≠ 0 → ∃ t, exec (.agentAnswer xfer edges shut) s = .next t ∧ ended t 2
      ∧ t.pwr.wakePending = (if s.mode = 3 then s.pwr.wakePending else 0)
      ∧ t.rg pgPwr Off.pwrREFUSE = (a + s.agentCode n a xfer shut * 2 ^ 8 + 2 ^ 16) % 2 ^ 32
      ∧ t.rg pgPwr Off.pwrREFUSE_CNT = min (s.rg pgPwr Off.pwrREFUSE_CNT + 1) 0xFFFFFFFF
      ∧ t.bit pgPwr Off.headINT_RAW 1 = true)
    ∧ (s.agentCode n a xfer shut = 0 → waits → exec (.agentAnswer xfer edges shut) s = .next s)
    ∧ (s.agentCode n a xfer shut = 0 → ¬ waits → s.pwr.wakePending ≠ 0 ∨ (a = 9 ∧ due) →
      ∃ t, exec (.agentAnswer xfer edges shut) s = .next t
      ∧ ended t 3 ∧ t.rg pgPwr Off.pwrABORT_CNT = min (s.rg pgPwr Off.pwrABORT_CNT + 1) 0xFFFFFFFF
      ∧ t.rg pgPwr Off.headINT_RAW = s.rg pgPwr Off.headINT_RAW)
    ∧ (s.agentCode n a xfer shut = 0 → ¬ waits → s.pwr.wakePending = 0 → a < 9 →
      ∃ t, exec (.agentAnswer xfer edges shut) s = .next t ∧ t.pwr = { s.pwr with stopped := s.pwr.stopped ++ [a] }
        ∧ t.fld pgPwr Off.pwrMODE 7 4 = a + 1 ∧ t.mode = s.mode ∧ t.ledger = l ∧ t.mem = s.mem
        ∧ SameRegs s t [rkey pgPwr Off.pwrMODE, rkey pgPwr Off.pwrLEDGER_LO, rkey pgPwr Off.pwrLEDGER_HI]
        ∧ t.eng = s.eng)
    ∧ (s.agentCode n a xfer shut = 0 → s.pwr.wakePending = 0 → a = 9 → ¬ due → n = 3 →
      ∃ t, exec (.agentAnswer xfer edges shut) s = .next t ∧ t.mode = 3 ∧ t.pwr.negTarget = none ∧ t.pwrBusy = false
        ∧ (∀ i, 4 ≤ i → i ≤ 10 → t.domain i = false) ∧ t.bit pgPwr Off.headINT_RAW 0 = true ∧ t.mem = s.mem
        ∧ t.eng = s.eng)
    ∧ (s.agentCode n a xfer shut = 0 → s.pwr.wakePending = 0 → a = 9 → ¬ due → n = 4 →
      ∃ t, exec (.agentAnswer xfer edges shut) s = .next t ∧ t.mode = 4 ∧ t.pwr.negTarget = none ∧ t.pwr.mainEn = false
        ∧ t.pwr.ledgerStop = some l ∧ (∀ i, 1 ≤ i → i ≤ 10 → t.domain i = false) ∧ ∀ k, t.byte k = (if k < 0x20000 then s.byte k else 0)))
  ∧ (∀ (s : State) (n : Nat), s.pwr.negTarget = some n → ∃ t, exec .agentTimeout s = .next t ∧ t.pwr.negTarget = none
      ∧ t.rg pgPwr Off.pwrREFUSE = (s.pwr.stopped.length + 15 * 2 ^ 8 + 2 ^ 16) % 2 ^ 32 ∧ t.mode = s.mode
      ∧ t.fld pgPwr Off.pwrSTAT 1 0 = 2 ∧ t.mem = s.mem ∧ t.eng = s.eng)

/-- Wake, resume and power-up. An enabled wake event shows in WAKE_CAUSE, and an alarm leaves the ledger at its
count; in DORMANT it raises MAIN_EN once that has been low for 1 ms (R451, R456), and in QUIET it starts the resume
(R448), which ends in the mode that the pair state asks for and records its duration (R449). Rails that are not valid
in time leave the device in DORMANT; valid ones boot it (R451). RTC_CLK that stops leaves what the ledger has
counted, which is a free value (log entry 4). When transitions show is the model's reading (log entry 68). The
power-up from BOOT, and FAB_EN afterwards, power the quadrants, whose engines are then STOPPED, with bit 14 of their
INT_RAW (R96, R443, R444), and the first release is that of the next boundary (log entry 41). -/
def Obligations.WakeResumePower : Prop :=
  (∀ (s : State) (c : Instr) (i v mid : Nat), s.pwr.released = true → s.pwr.aoReleased = true → s.clear = true →
    (i = 0 ∧ c = .wakeN) ∨ (i = 2 ∧ c = .ledgerAlarm ∧ s.bit pgPwr Off.pwrALARM_HI 31 = true
        ∧ s.bit pgPwr Off.pwrRTC_STAT 0 = true)
      ∨ (i = 3 ∧ c = .wakeSw v mid ∧ bitN v 0 = true ∧ s.guard pgPwr Off.pwrWAKE_SW false = .pass) →
    s.bit pgPwr Off.pwrWAKE_EN i = true →
    let wakeRegs := [rkey pgPwr Off.pwrWAKE_CAUSE, rkey pgPwr Off.pwrLEDGER_LO, rkey pgPwr Off.pwrLEDGER_HI]
    (s.mode = 4 → s.pwr.railWait = false → ∃ t, exec c s = .next t ∧ t.bit pgPwr Off.pwrWAKE_CAUSE i = true
      ∧ SameRegs s t wakeRegs ∧ t.ledger = (if i = 2 then s.alarm else s.ledger) ∧ t.mem = s.mem ∧ t.eng = s.eng
      ∧ t.pwr = (if s.pwr.lowTimeDone then
          { s.pwr with mainEn := true, railWait := true, lowTimeDone := false, wakePending := 0 }
        else { s.pwr with wakePending := s.pwr.wakePending ||| 2 ^ i }))
    ∧ (s.mode = 3 → s.pwr.negTarget = none → s.pwr.resuming = false → ∃ t, exec c s = .next t
      ∧ t.bit pgPwr Off.pwrWAKE_CAUSE i = true ∧ t.pwr = { s.pwr with wakePending := s.pwr.wakePending ||| 2 ^ i }
      ∧ t.pwrBusy = true ∧ t.mode = 3 ∧ SameRegs s t (rkey pgPwr Off.pwrMODE :: wakeRegs) ∧ t.ledger = (if i = 2 then s.alarm else s.ledger) ∧ t.mem = s.mem ∧ t.eng = s.eng))
  ∧ (∀ s : State, s.mode = 3 → s.pwr.wakePending ≠ 0 → s.pwr.negTarget = none → s.pwr.resuming = false →
    ∃ t, exec .quietResume s = .next t ∧ t.pwr = { s.pwr with resuming := true } ∧ t.pwrBusy = true
      ∧ t.domain 4 = true ∧ t.domain 5 = true ∧ t.drcState = (if s.drcState = 4 then 3 else s.drcState)
      ∧ (∀ q, q < 4 → s.bit pgPwr Off.pwrFAB_EN q = true → t.domain (6 + q) = true) ∧ t.mem = s.mem ∧ t.eng = s.eng)
  ∧ (∀ (s : State) (us : Nat), s.mode = 3 → s.pwr.resuming = true → s.boundaryDue = true → s.pageEn pgPwr = true →
    ∃ t, exec (.resumeDone us) s = .next t ∧ t.mode = s.runMode ∧ t.rg pgPwr Off.pwrRESUME_LAST = us % 2 ^ 32
      ∧ t.pwr = { s.pwr with resuming := false, wakePending := 0 } ∧ t.domain 10 = true ∧ t.pwrBusy = false
      ∧ t.bit pgPwr Off.headINT_RAW 0 = true ∧ t.bit pgPwr Off.headINT_RAW 3 = true ∧ t.mem = s.mem)
  ∧ (∀ s : State, s.mode = 4 → s.pwr.mainEn = false → s.pwr.lowTimeDone = false →
    exec .mainEnLowTimeEnd s = .next (if s.pwr.wakePending ≠ 0 then
        { s with pwr := { s.pwr with mainEn := true, railWait := true, wakePending := 0 } }
      else { s with pwr := { s.pwr with lowTimeDone := true } }))
  ∧ (∀ s : State, s.pwr.railWait = true →
    (∃ t, exec .wakeTimeout s = .next t ∧ t.bit pgPwr Off.pwrWAKE_CAUSE 5 = true ∧ t.pwr.mainEn = false
      ∧ t.pwr.railWait = false ∧ t.mode = s.mode ∧ SameRegs s t [rkey pgPwr Off.pwrWAKE_CAUSE] ∧ t.mem = s.mem
      ∧ t.eng = s.eng)
    ∧ (s.mode = 4 → ∀ (rom : RomInput) (l : Nat) (valid : Bool), ∃ t, exec (.wakeRailsValid rom l valid) s = .next t
      ∧ t.mode = 0 ∧ t.pwr.railWait = false ∧ t.rg pgRst Off.rstLAST = 6 ∧ t.bit pgRst Off.rstCAUSE 5 = true
      ∧ t.rg pgRst Off.rstWAKE_CNT = min (s.rg pgRst Off.rstWAKE_CNT + 1) 0xFFFFFFFF
      ∧ t.rg pgSys Off.sysSTRAPS = rom.straps % 4))
  ∧ (∀ s : State, (∃ t, exec .rtcInactive s = .next t ∧ t.bit pgPwr Off.pwrRTC_STAT 0 = false ∧ t.pwr = s.pwr
      ∧ SameRegs s t [rkey pgPwr Off.pwrRTC_STAT, rkey pgPwr Off.pwrLEDGER_LO, rkey pgPwr Off.pwrLEDGER_HI]
      ∧ (s.bit pgPwr Off.pwrRTC_STAT 0 = false → t.ledger = s.ledger) ∧ t.mem = s.mem ∧ t.eng = s.eng)
    ∧ exec .rtcActive s = .next (s.setBit pgPwr Off.pwrRTC_STAT 0 true))
  ∧ (∀ (s : State) (m : Nat), s.pwr.powerUp = some m → ∃ t, exec .powerUpFromBootDone s = .next t
      ∧ t.mode = (if m = 5 then 5 else s.runMode) ∧ t.pwrBusy = false ∧ t.pwr = { s.pwr with powerUp := none }
      ∧ t.domain 5 = true ∧ t.domain 10 = true ∧ t.mem = s.mem
      ∧ ∀ q, q < 4 → s.bit pgPwr Off.pwrFAB_EN q = true → t.domain (6 + q) = true
        ∧ ∀ k, k < 8 → t.engine (8 * q + k) = { st := .stopped })
  ∧ (∀ (s : State) (v mid : Nat), s.admits pgPwr Off.pwrFAB_EN →
    let busy (q : Nat) : Prop := ∃ k, k < 8 ∧ (s.engine (8 * q + k)).st ≠ .stopped ∧ (s.engine (8 * q + k)).st ≠ .fault
    let clears (q : Nat) : Prop := q < 4 ∧ s.bit pgPwr Off.pwrFAB_EN q = true ∧ bitN v q = false
    (s.pwrBusy = true → ∃ t, exec (.fabEnWrite v mid) s = .next t ∧ t.fld pgPwr Off.pwrSTAT 5 4 = 2
      ∧ t.rg pgPwr Off.pwrFAB_EN = s.rg pgPwr Off.pwrFAB_EN ∧ t.mem = s.mem ∧ t.eng = s.eng)
    ∧ (s.pwrBusy = false → (∃ q, clears q ∧ busy q) → ∃ t, exec (.fabEnWrite v mid) s = .next t
      ∧ t.fld pgPwr Off.pwrSTAT 5 4 = 3 ∧ t.rg pgPwr Off.pwrFAB_EN = s.rg pgPwr Off.pwrFAB_EN ∧ t.mem = s.mem
      ∧ t.eng = s.eng)
    ∧ (s.pwrBusy = false → (∀ q, clears q → ¬ busy q) → ∃ t, exec (.fabEnWrite v mid) s = .next t
      ∧ t.rg pgPwr Off.pwrFAB_EN = v % 16 ∧ t.mem = s.mem
      ∧ (∀ q, clears q → t.domain (6 + q) = false ∧ ∀ k, k < 8 → t.engine (8 * q + k) = {})
      ∧ (∀ q, q < 4 → ¬ clears q → t.domain (6 + q) = s.domain (6 + q)
          ∧ ∀ k, k < 8 → t.engine (8 * q + k) = s.engine (8 * q + k))
      ∧ ∀ q, q < 4 → s.bit pgPwr Off.pwrFAB_EN q = false → bitN v q = true → s.running = true →
          bitN t.pwr.quadDue q = true))
  ∧ (∀ (s : State) (q : Fin 4), bitN s.pwr.quadDue q = true → s.running = true →
    ∃ t, exec (.quadrantPowered q) s = .next t ∧ t.domain (6 + q) = true ∧ bitN t.pwr.quadDue q = false
      ∧ t.mem = s.mem ∧ (∀ k, k < 8 → s.pageEn (pgEng + 8 * q + k) = true →
          t.bit (pgEng + 8 * q + k) Off.headINT_RAW 14 = true)
      ∧ (∀ page off, off < 4096 → pageKind page ≠ .eng → pageKind page ≠ .pcie → page ≠ pgPwr → t.rg page off = s.rg page off)
      ∧ (∀ k, k < 8 → t.engine (8 * q + k) = { st := .stopped })
      ∧ ∀ nn, nn / 8 ≠ q.val → t.engine nn = s.engine nn)

/-- Resets. A power-on reset returns every register to its reset value and releases nothing until the AO domain and
then the device are released (R454, R483). BOR, PIN, WDOG and SOFT record themselves in RST, leave the other counts,
put the mode to BOOT and sample the straps (R454, R459). A BOR keeps the AOC's memory (R476); a reset by the watchdog
or by firmware keeps the shared store, here with the strap that asks for host load, which loads no segment; what is
lost reads as never written (log entry 2). Another value in SOFT_RST is ignored (R418). Which registers a reset
clears is the reading of log entry 72, and whether VDDIO_TW is up at the AO release is open (R481; log entry 102). -/
def Obligations.DeviceResets : Prop :=
  (∀ s : State, ∃ t, exec .por s = .next t ∧ t.regs = [] ∧ t.mem = [] ∧ t.eng = [] ∧ t.pwr.released = false
      ∧ t.pwr.aoReleased = false ∧ t.pwr.mainEn = false ∧ t.mainEnPin = false ∧ t.pending = s.pending)
  ∧ (∀ s : State, s.pwr.aoReleased = false →
    ∃ (up : Bool) (f : Nat), exec .aoRelease s
      = .next { s with freeCtr := f, pwr := { s.pwr with aoReleased := true, mainEn := true, twUp := up } })
  ∧ (∀ (s : State) (rom : RomInput), s.pwr.aoReleased = true → s.pwr.released = false →
    ∃ t, exec (.deviceRelease rom) s = .next t ∧ t.pwr.released = true ∧ t.pwr.twUp = true
      ∧ t.rg pgSys Off.sysSTRAPS = rom.straps % 4 ∧ t.bit pgStack Off.stackROLE 0 = !bitN rom.straps 1
      ∧ ∀ i, i < 64 → t.rg pgFuse (Off.fuseWORD + 4 * i) = (smapGet fuseZero s.ctl.fuses i).toNat)
  ∧ (∀ (s : State) (rom : RomInput) (l : Nat) (valid : Bool) (v mid : Nat), s.pwr.released = true → s.clear = true →
    s.mode ≠ 4 →
    let counts := [Off.rstBOR_CNT, Off.rstPIN_CNT, Off.rstWDOG_CNT, Off.rstSOFT_CNT, Off.rstWAKE_CNT]
    let recorded (t : State) (last cnt : Nat) : Prop := t.mode = 0 ∧ t.rg pgRst Off.rstLAST = last
      ∧ t.rg pgRst Off.rstCAUSE = s.rg pgRst Off.rstCAUSE ||| 2 ^ (last - 1)
      ∧ t.rg pgRst cnt = min (s.rg pgRst cnt + 1) 0xFFFFFFFF ∧ t.rg pgSys Off.sysSTRAPS = rom.straps % 4
      ∧ (∀ o ∈ counts, o ≠ cnt → t.rg pgRst o = s.rg pgRst o) ∧ t.eng = [] ∧ t.pairState = 0
      ∧ t.rg pgPair Off.pairTERM = s.rg pgPair Off.pairTERM
    (∃ t, exec (.bor rom l valid) s = .next t ∧ recorded t 2 Off.rstBOR_CNT
      ∧ (bitN rom.straps 0 = true → ∀ a, t.byte a = if a < 0x20000 then s.byte a else 0))
    ∧ (∃ t, exec (.pinReset rom) s = .next t ∧ recorded t 3 Off.rstPIN_CNT)
    ∧ (s.ctl.wdExpired = true → ∃ t, exec (.wdogReset rom) s = .next t ∧ recorded t 4 Off.rstWDOG_CNT
      ∧ (bitN rom.straps 0 = true → ∀ a, 0x10000000 ≤ a → a < 0x11000000 → t.byte a = s.byte a))
    ∧ (s.admits pgSys Off.sysSOFT_RST → v % 2 ^ 32 = 0x5AA5 → ∃ t, exec (.softReset v rom mid) s = .next t
      ∧ recorded t 5 Off.rstSOFT_CNT
      ∧ (bitN rom.straps 0 = true → ∀ a, 0x10000000 ≤ a → a < 0x11000000 → t.byte a = s.byte a))
    ∧ (s.admits pgSys Off.sysSOFT_RST → v % 2 ^ 32 ≠ 0x5AA5 → exec (.softReset v rom mid) s = .next s.ok))


/-! ## Sensors and scrubbing -/

/-- Sensors and scrubbers. A temperature reading is stored, with the maximum since TEMP_MAX was cleared (R471; that
TEMP_MAX takes the first reading after its clearing, and when a flag falls, is the model's reading, log entry 73);
one at TEMP_WARN raises its flag, and two in a row at TEMP_SHUT stop every bridge and rail where CTL enables it,
which is Fatal (R471). The second reading of a supply in a row outside its window sets SUPPLY, and one inside clears
it (R472; the clearing is the model's choice, log entry 38). A scrubber visits its next word, and a corrected word
loses its mark (R468, R469; the order of the words is the model's, log entry 15, as are the width of a word and the
modes in which monitors and scrubbers work, log entries 51, 74). A scrubber's word lies in its memory where its index
is below the memory's number of words. No reading and no scrubbed word changes a byte of memory. -/
def Obligations.SensorsAndScrubbers : Prop :=
  (∀ (s : State) (i : Fin 8) (r : Int), s.sensRuns = true → -32768 ≤ r → r ≤ 32767 →
    let shut := s.tempLimit Off.sensTEMP_SHUT ≤ r ∧ bitN s.mon.shutRun i = true ∧ s.bit pgSens Off.sensCTL 0 = true
    ∃ t, exec (.tempReading i r) s = .next t ∧ t.mem = s.mem ∧ t.eng = s.eng
      ∧ toSigned 16 (t.rg pgSens (Off.sensTEMP0 + 4 * i)) = r
      ∧ toSigned 16 (t.rg pgSens Off.sensTEMP_MAX)
        = (if s.mon.tempSeen then max (toSigned 16 (s.rg pgSens Off.sensTEMP_MAX)) r else r)
      ∧ bitN t.mon.shutRun i = decide (s.tempLimit Off.sensTEMP_SHUT ≤ r)
      ∧ (s.tempLimit Off.sensTEMP_WARN ≤ r → t.bit pgSens Off.sensSTAT i = true ∧ t.bit pgSens Off.headINT_RAW 0 = true)
      ∧ (r ≤ s.tempLimit Off.sensTEMP_WARN - 32 → t.bit pgSens Off.sensSTAT i = false)
      ∧ (s.tempLimit Off.sensTEMP_CRIT ≤ r → t.bit pgSens Off.sensSTAT (8 + i) = true
          ∧ t.bit pgSens Off.headINT_RAW 1 = true)
      ∧ (shut → (∀ m, m < 32 → t.switching m = false) ∧ t.bit pgSens Off.headINT_RAW 2 = true
          ∧ (s.pairState = 2 → t.pairState = 6))
      ∧ (¬ shut → t.drive = s.drive))
  ∧ (∀ (s : State) (i : Fin 8) (mv : Nat), s.sensRuns = true → mv < 2 ^ 16 →
    let o := Off.sensSUP0_WIN + 4 * i.val
    let outside := mv < s.fld pgSens o 15 0 ∨ s.fld pgSens o 31 16 < mv
    ∃ t, exec (.supplyReading i mv) s = .next t ∧ t.rg pgSens (Off.sensSUP0 + 4 * i) = mv ∧ t.mem = s.mem ∧ t.eng = s.eng
      ∧ bitN t.mon.supRun i = decide outside
      ∧ (outside → bitN s.mon.supRun i = true → t.bit pgSens Off.sensSTAT (16 + i) = true
          ∧ t.bit pgSens Off.headINT_RAW 3 = true)
      ∧ (outside → bitN s.mon.supRun i = false → t.bit pgSens Off.sensSTAT (16 + i) = s.bit pgSens Off.sensSTAT (16 + i))
      ∧ (¬ outside → t.bit pgSens Off.sensSTAT (16 + i) = false))
  ∧ (∀ (s : State) (v mid : Nat), s.admits pgSens Off.sensTEMP_MAX →
    (v % 2 ^ 32 = 0 → ∃ t, exec (.tempMaxClear v mid) s = .next t ∧ t.rg pgSens Off.sensTEMP_MAX = 0
      ∧ t.mon = { s.mon with tempSeen := false } ∧ SameRegs s t [rkey pgSens Off.sensTEMP_MAX] ∧ t.mem = s.mem
      ∧ t.eng = s.eng)
    ∧ (v % 2 ^ 32 ≠ 0 → exec (.tempMaxClear v mid) s = .next s.ok))
  ∧ (∀ (s : State) (us : List (Nat × Nat)), s.scrubOn 0 = true →
    let i := s.mon.storeScrub
    ∃ t, exec (.storeScrub us) s = .next t ∧ t.mem = s.mem ∧ t.eng = s.eng ∧ t.mon.storeScrub = (i + 1) % 2 ^ 21
      ∧ t.rg pgStore Off.storePASS_CNT
        = (if i + 1 = 2 ^ 21 then min (s.rg pgStore Off.storePASS_CNT + 1) 0xFFFFFFFF else s.rg pgStore Off.storePASS_CNT)
      ∧ (i < 2 ^ 21 → (s.upset us).eccAt 8 (0x10000000 + 8 * i) = 1 → t.eccAt 8 (0x10000000 + 8 * i) = 0
          ∧ (s.pageEn pgStore = true → t.rg pgStore Off.storeECC_CE_CNT = min (s.rg pgStore Off.storeECC_CE_CNT + 1) 0xFFFFFFFF))
      ∧ (i < 2 ^ 21 → 2 ≤ (s.upset us).eccAt 8 (0x10000000 + 8 * i) → t.pair.failMem = true
          ∧ (s.pageEn pgStore = true → t.rg pgStore Off.storeECC_UE_CNT = min (s.rg pgStore Off.storeECC_UE_CNT + 1) 0xFFFFFFFF)))
  ∧ (∀ (s : State) (us : List (Nat × Nat)), s.dramScrubs = true →
    let n := s.rg pgDrc Off.drcCAP * 2 ^ 17
    let i := if s.mon.dramScrub < n then s.mon.dramScrub else 0
    ∃ t, exec (.dramScrub us) s = .next t ∧ t.mem = s.mem ∧ t.eng = s.eng ∧ (i < 2 ^ 30 → t.drcState = 3)
      ∧ t.mon.dramScrub = (if i + 1 < n then i + 1 else 0)
      ∧ (i < 2 ^ 30 → (s.upset us).eccAt 8 (0x100000000 + 8 * i) = 1 → t.eccAt 8 (0x100000000 + 8 * i) = 0
          ∧ (s.pageEn pgDrc = true → t.rg pgDrc Off.drcECC_CE_CNT
            = min (s.rg pgDrc Off.drcECC_CE_CNT + 1) 0xFFFFFFFF)))
  ∧ (∀ (s : State) (m : Fin 3) (us : List (Nat × Nat)), s.scrubOn 4 = true →
    let pos (t : State) : Nat := if m = 0 then t.mon.aocScrub else if m = 1 then t.mon.cpu0Scrub else t.mon.cpu1Scrub
    let a := (sramOf m).1 + 4 * pos s
    ∃ t, exec (.sramScrub m us) s = .next t ∧ t.mem = s.mem ∧ t.eng = s.eng ∧ pos t = (pos s + 1) % (sramOf m).2
      ∧ ((s.upset us).eccAt 4 a = 1 → t.eccAt 4 a = 0)
      ∧ ((s.upset us).eccAt 4 a = 0 → t.regs = s.regs))
end

