-- ==== Sys2Proof/Laws/Bits.lean ====
section
/-! SUPPORT. Reading a bit field after replacing one. -/

namespace Sys2Proof.Machine

set_option Elab.async false

theorem bitsN_lt (n hi lo : Nat) : bitsN n hi lo < 2 ^ (hi + 1 - lo) := Nat.mod_lt _ (Nat.two_pow_pos _)

theorem putBits_eq (n hi lo v : Nat) :
    putBits n hi lo v = (n / 2 ^ lo / 2 ^ (hi + 1 - lo) * 2 ^ (hi + 1 - lo) + v % 2 ^ (hi + 1 - lo)) * 2 ^ lo
      + n % 2 ^ lo := by
  simp only [putBits, bitsN, Nat.shiftRight_eq_div_pow]
  have h1 := Nat.div_add_mod n (2 ^ lo)
  have h2 := Nat.div_add_mod (n / 2 ^ lo) (2 ^ (hi + 1 - lo))
  generalize n / 2 ^ lo / 2 ^ (hi + 1 - lo) = q at *
  generalize n / 2 ^ lo % 2 ^ (hi + 1 - lo) = f at *
  generalize n % 2 ^ lo = r at *
  generalize 2 ^ (hi + 1 - lo) = w at *
  generalize 2 ^ lo = u at *
  rw [← h2] at h1
  have : n - f * u = w * q * u + r := by
    rw [← h1]; rw [show u * (w * q + f) + r = (w * q * u + r) + f * u by ring, Nat.add_sub_cancel]
  rw [this]; ring

/-- The field replaced reads as the value put there. -/
theorem bitsN_putBits (n hi lo v : Nat) : bitsN (putBits n hi lo v) hi lo = v % 2 ^ (hi + 1 - lo) := by
  rw [putBits_eq, bitsN, Nat.shiftRight_eq_div_pow, Nat.add_comm, Nat.add_mul_div_right _ _ (Nat.two_pow_pos _),
    Nat.div_eq_of_lt (Nat.mod_lt _ (Nat.two_pow_pos _)), Nat.zero_add, Nat.mul_comm, Nat.mul_add_mod,
    Nat.mod_mod]

theorem putBits_lt {n hi lo v m : Nat} (hn : n < 2 ^ m) (hlo : lo ≤ hi + 1) (hm : hi < m) : putBits n hi lo v < 2 ^ m := by
  rw [putBits_eq]
  have hw : v % 2 ^ (hi + 1 - lo) < 2 ^ (hi + 1 - lo) := Nat.mod_lt _ (Nat.two_pow_pos _)
  have hr : n % 2 ^ lo < 2 ^ lo := Nat.mod_lt _ (Nat.two_pow_pos _)
  have hq : n / 2 ^ lo / 2 ^ (hi + 1 - lo) < 2 ^ (m - (hi + 1)) := by
    rw [Nat.div_div_eq_div_mul, ← Nat.pow_add, Nat.add_sub_cancel' hlo]
    rw [Nat.div_lt_iff_lt_mul (Nat.two_pow_pos _), ← Nat.pow_add]
    rwa [Nat.sub_add_cancel (by omega)]
  have e1 : 2 ^ m = 2 ^ (m - (hi + 1)) * 2 ^ (hi + 1 - lo) * 2 ^ lo := by
    rw [← Nat.pow_add, ← Nat.pow_add]; congr 1; omega
  rw [e1]
  generalize n / 2 ^ lo / 2 ^ (hi + 1 - lo) = q at *
  generalize v % 2 ^ (hi + 1 - lo) = f at *
  generalize n % 2 ^ lo = r at *
  generalize 2 ^ (hi + 1 - lo) = w at *
  generalize 2 ^ lo = u at *
  generalize 2 ^ (m - (hi + 1)) = z at *
  have h1 : q * w + f + 1 ≤ z * w := by nlinarith
  nlinarith

/-- A field that lies wholly below the one replaced reads as before. -/
theorem bitsN_putBits_below {n hi lo v h l : Nat} (hl : l ≤ h) (hd : h < lo) :
    bitsN (putBits n hi lo v) h l = bitsN n h l := by
  rw [putBits_eq]
  simp only [bitsN, Nat.shiftRight_eq_div_pow]
  have e1 : (2 : Nat) ^ lo = 2 ^ (lo - (h + 1)) * 2 ^ (h + 1 - l) * 2 ^ l := by
    rw [← Nat.pow_add, ← Nat.pow_add]; congr 1; omega
  have key : ∀ a : Nat, a / 2 ^ l % 2 ^ (h + 1 - l) = a % 2 ^ lo / 2 ^ l % 2 ^ (h + 1 - l) := by
    intro a
    rw [e1, Nat.mul_comm (2 ^ (lo - (h + 1)) * 2 ^ (h + 1 - l)) (2 ^ l), Nat.mod_mul_right_div_self,
      Nat.mul_comm (2 ^ (lo - (h + 1))), Nat.mod_mul_right_mod]
  rw [key, key n]
  congr 2
  rw [Nat.add_comm, Nat.add_mul_mod_self_right, Nat.mod_mod]

/-- A field that lies wholly above the one replaced reads as before. -/
theorem bitsN_putBits_above {n hi lo v h l : Nat} (hlo : lo ≤ hi + 1) (hd : hi < l) :
    bitsN (putBits n hi lo v) h l = bitsN n h l := by
  simp only [bitsN, Nat.shiftRight_eq_div_pow]
  congr 1
  have e1 : (2 : Nat) ^ l = 2 ^ lo * (2 ^ (hi + 1 - lo) * 2 ^ (l - (hi + 1))) := by
    rw [← Nat.pow_add, ← Nat.pow_add]; congr 1; omega
  rw [e1, ← Nat.div_div_eq_div_mul, ← Nat.div_div_eq_div_mul, ← Nat.div_div_eq_div_mul, ← Nat.div_div_eq_div_mul, putBits_eq]
  congr 1
  have hw : 0 < 2 ^ (hi + 1 - lo) := Nat.two_pow_pos _
  rw [Nat.add_comm, Nat.add_mul_div_right _ _ (Nat.two_pow_pos _),
    Nat.div_eq_of_lt (Nat.mod_lt _ (Nat.two_pow_pos _)), Nat.zero_add, Nat.add_comm, Nat.add_mul_div_right _ _ hw,
    Nat.div_eq_of_lt (Nat.mod_lt _ hw), Nat.zero_add]

end Sys2Proof.Machine
end

