-- ==== Sys2Proof/Laws/Dispatch.lean ====
section
/-! SUPPORT. The meaning of each command: one equation per arm of exec, so that no proof unfolds the dispatch. -/

namespace Sys2Proof.Machine

variable (s : State)

theorem exec_registerWrite (page : Fin 256) (off : Fin 4096) (size : Nat) (v : Nat) (mid : Nat) (x : Ext) :
    exec (.registerWrite page off size v mid x) s = execRegisterWrite page off size v mid x s := rfl
theorem exec_loReadLatch (page : Fin 256) (off : Fin 4096) (mid : Nat) :
    exec (.loReadLatch page off mid) s = execLoReadLatch page off mid s := rfl
theorem exec_intRawWrite (page : Fin 256) (v : Nat) (hwSet : Nat) (mid : Nat) :
    exec (.intRawWrite page v hwSet mid) s = execIntRawWrite page v hwSet mid s := rfl
theorem exec_intEnWrite (page : Fin 256) (v : Nat) (mid : Nat) :
    exec (.intEnWrite page v mid) s = execIntEnWrite page v mid s := rfl
theorem exec_msixUnmask (n : Fin 128) (v : Nat) (mid : Nat) :
    exec (.msixUnmask n v mid) s = execMsixUnmask n v mid s := rfl
theorem exec_captureRelease (page : Fin 256) (v : Nat) (mid : Nat) :
    exec (.captureRelease page v mid) s = execCaptureRelease page v mid s := rfl
theorem exec_pageEnable (page : Fin 256) (v : Nat) (mid : Nat) (late : List Nat) :
    exec (.pageEnable page v mid late) s = execPageEnable page v mid late s := rfl
theorem exec_pageDisable (page : Fin 256) (v : Nat) (mid : Nat) (late : List Nat) :
    exec (.pageDisable page v mid late) s = execPageDisable page v mid late s := rfl
theorem exec_blockReset (page : Fin 256) (v : Nat) (mid : Nat) (late : List Nat) :
    exec (.blockReset page v mid late) s = execBlockReset page v mid late s := rfl
theorem exec_wlockSet (page : Fin 256) (v : Nat) (mid : Nat) (late : List Nat) :
    exec (.wlockSet page v mid late) s = execWlockSet page v mid late s := rfl
theorem exec_tickBoundary (act : Bool) :
    exec (.tickBoundary act) s = execTickBoundary act s := rfl
theorem exec_tickRelease (late : List Nat) (t1A : Nat) (t1B : Nat) (us : List (Nat × Nat)) :
    exec (.tickRelease late t1A t1B us) s = execTickRelease late t1A t1B us s := rfl
theorem exec_beatBarrier (us : List (Nat × Nat)) :
    exec (.beatBarrier us) s = execBeatBarrier us s := rfl
theorem exec_transferBComplete (units : Nat) (xferNs : Nat) (us : List (Nat × Nat)) :
    exec (.transferBComplete units xferNs us) s = execTransferBComplete units xferNs us s := rfl
theorem exec_beatDeadline (b : Nat) :
    exec (.beatDeadline b) s = execBeatDeadline b s := rfl
theorem exec_escSlackClr (mid : Nat) :
    exec (.escSlackClr mid) s = execEscSlackClr mid s := rfl
theorem exec_escHistClr (mid : Nat) :
    exec (.escHistClr mid) s = execEscHistClr mid s := rfl
theorem exec_avsWindowEnd :
    exec (.avsWindowEnd) s = execAvsWindowEnd s := rfl
theorem exec_avsSettleEnd :
    exec (.avsSettleEnd) s = execAvsSettleEnd s := rfl
theorem exec_avsHoldoffEnd :
    exec (.avsHoldoffEnd) s = execAvsHoldoffEnd s := rfl
theorem exec_avsTransactionDone (frameErr : Bool) (readback : Nat) :
    exec (.avsTransactionDone frameErr readback) s = execAvsTransactionDone frameErr readback s := rfl
theorem exec_avsEnable (mid : Nat) :
    exec (.avsEnable mid) s = execAvsEnable mid s := rfl
theorem exec_avsDisable (mid : Nat) :
    exec (.avsDisable mid) s = execAvsDisable mid s := rfl
theorem exec_avsModeSet (fixed : Bool) (mid : Nat) :
    exec (.avsModeSet fixed mid) s = execAvsModeSet fixed mid s := rfl
theorem exec_avsRestart (mid : Nat) :
    exec (.avsRestart mid) s = execAvsRestart mid s := rfl
theorem exec_avsVCmdWrite (v : Nat) (mid : Nat) :
    exec (.avsVCmdWrite v mid) s = execAvsVCmdWrite v mid s := rfl
theorem exec_engineArm (nn : Fin 32) (mid : Nat) :
    exec (.engineArm nn mid) s = execEngineArm nn mid s := rfl
theorem exec_engineDisarm (nn : Fin 32) (mid : Nat) :
    exec (.engineDisarm nn mid) s = execEngineDisarm nn mid s := rfl
theorem exec_nop (nn : Fin 32) (us : List (Nat × Nat)) :
    exec (.nop nn us) s = execNop nn us s := rfl
theorem exec_macS (nn : Fin 32) (us : List (Nat × Nat)) :
    exec (.macS nn us) s = execMacS nn us s := rfl
theorem exec_macD (nn : Fin 32) (us : List (Nat × Nat)) :
    exec (.macD nn us) s = execMacD nn us s := rfl
theorem exec_macDu (nn : Fin 32) (us : List (Nat × Nat)) :
    exec (.macDu nn us) s = execMacDu nn us s := rfl
theorem exec_macQ (nn : Fin 32) (us : List (Nat × Nat)) :
    exec (.macQ nn us) s = execMacQ nn us s := rfl
theorem exec_macSum (nn : Fin 32) (us : List (Nat × Nat)) :
    exec (.macSum nn us) s = execMacSum nn us s := rfl
theorem exec_mov (nn : Fin 32) (us : List (Nat × Nat)) :
    exec (.mov nn us) s = execMov nn us s := rfl
theorem exec_accLd (nn : Fin 32) (us : List (Nat × Nat)) :
    exec (.accLd nn us) s = execAccLd nn us s := rfl
theorem exec_accAdd (nn : Fin 32) (us : List (Nat × Nat)) :
    exec (.accAdd nn us) s = execAccAdd nn us s := rfl
theorem exec_accMov (nn : Fin 32) (us : List (Nat × Nat)) :
    exec (.accMov nn us) s = execAccMov nn us s := rfl
theorem exec_accSh (nn : Fin 32) (us : List (Nat × Nat)) :
    exec (.accSh nn us) s = execAccSh nn us s := rfl
theorem exec_add (nn : Fin 32) (us : List (Nat × Nat)) :
    exec (.add nn us) s = execAdd nn us s := rfl
theorem exec_sub (nn : Fin 32) (us : List (Nat × Nat)) :
    exec (.sub nn us) s = execSub nn us s := rfl
theorem exec_and (nn : Fin 32) (us : List (Nat × Nat)) :
    exec (.and nn us) s = execAnd nn us s := rfl
theorem exec_or (nn : Fin 32) (us : List (Nat × Nat)) :
    exec (.or nn us) s = execOr nn us s := rfl
theorem exec_xor (nn : Fin 32) (us : List (Nat × Nat)) :
    exec (.xor nn us) s = execXor nn us s := rfl
theorem exec_shl (nn : Fin 32) (us : List (Nat × Nat)) :
    exec (.shl nn us) s = execShl nn us s := rfl
theorem exec_shra (nn : Fin 32) (us : List (Nat × Nat)) :
    exec (.shra nn us) s = execShra nn us s := rfl
theorem exec_shrl (nn : Fin 32) (us : List (Nat × Nat)) :
    exec (.shrl nn us) s = execShrl nn us s := rfl
theorem exec_min (nn : Fin 32) (us : List (Nat × Nat)) :
    exec (.min nn us) s = execMin nn us s := rfl
theorem exec_max (nn : Fin 32) (us : List (Nat × Nat)) :
    exec (.max nn us) s = execMax nn us s := rfl
theorem exec_abs (nn : Fin 32) (us : List (Nat × Nat)) :
    exec (.abs nn us) s = execAbs nn us s := rfl
theorem exec_neg (nn : Fin 32) (us : List (Nat × Nat)) :
    exec (.neg nn us) s = execNeg nn us s := rfl
theorem exec_cmp (nn : Fin 32) (us : List (Nat × Nat)) :
    exec (.cmp nn us) s = execCmp nn us s := rfl
theorem exec_sel (nn : Fin 32) (us : List (Nat × Nat)) :
    exec (.sel nn us) s = execSel nn us s := rfl
theorem exec_movx (nn : Fin 32) (us : List (Nat × Nat)) :
    exec (.movx nn us) s = execMovx nn us s := rfl
theorem exec_endBeat (nn : Fin 32) (us : List (Nat × Nat)) (be : BeatEnd) :
    exec (.endBeat nn us be) s = execEndBeat nn us be s := rfl
theorem exec_rep (nn : Fin 32) (us : List (Nat × Nat)) :
    exec (.rep nn us) s = execRep nn us s := rfl
theorem exec_ldi (nn : Fin 32) (us : List (Nat × Nat)) :
    exec (.ldi nn us) s = execLdi nn us s := rfl
theorem exec_setptr (nn : Fin 32) (us : List (Nat × Nat)) :
    exec (.setptr nn us) s = execSetptr nn us s := rfl
theorem exec_gramp (nn : Fin 32) (us : List (Nat × Nat)) :
    exec (.gramp nn us) s = execGramp nn us s := rfl
theorem exec_mpr (nn : Fin 32) (us : List (Nat × Nat)) :
    exec (.mpr nn us) s = execMpr nn us s := rfl
theorem exec_mpw (nn : Fin 32) (us : List (Nat × Nat)) :
    exec (.mpw nn us) s = execMpw nn us s := rfl
theorem exec_illegalInstruction (nn : Fin 32) (us : List (Nat × Nat)) :
    exec (.illegalInstruction nn us) s = execIllegalInstruction nn us s := rfl
theorem exec_mpTransferDone (nn : Fin 32) (k : Nat) (us : List (Nat × Nat)) (be : BeatEnd) :
    exec (.mpTransferDone nn k us be) s = execMpTransferDone nn k us be s := rfl
theorem exec_engineWindowWrite (nn : Fin 32) (o : Nat) (bs : List Byte) (mid : Nat) :
    exec (.engineWindowWrite nn o bs mid) s = execEngineWindowWrite nn o bs mid s := rfl
theorem exec_mpWaitMaxClear (nn : Fin 32) (v : Nat) (mid : Nat) :
    exec (.mpWaitMaxClear nn v mid) s = execMpWaitMaxClear nn v mid s := rfl
theorem exec_loadGo (mid : Nat) :
    exec (.loadGo mid) s = execLoadGo mid s := rfl
theorem exec_loadPass1Done (us : List (Nat × Nat)) :
    exec (.loadPass1Done us) s = execLoadPass1Done us s := rfl
theorem exec_loadSectionDone (us : List (Nat × Nat)) :
    exec (.loadSectionDone us) s = execLoadSectionDone us s := rfl
theorem exec_loadPass2Done :
    exec (.loadPass2Done) s = execLoadPass2Done s := rfl
theorem exec_sourceReadError (off : Nat) (us : List (Nat × Nat)) :
    exec (.sourceReadError off us) s = execSourceReadError off us s := rfl
theorem exec_loadAbort (mid : Nat) :
    exec (.loadAbort mid) s = execLoadAbort mid s := rfl
theorem exec_invalB (mid : Nat) :
    exec (.invalB mid) s = execInvalB mid s := rfl
theorem exec_schedRateWrite (v : Nat) (mid : Nat) :
    exec (.schedRateWrite v mid) s = execSchedRateWrite v mid s := rfl
theorem exec_hoistSwapRequest (v : Nat) (mid : Nat) :
    exec (.hoistSwapRequest v mid) s = execHoistSwapRequest v mid s := rfl
theorem exec_hoistParamRequest (v : Nat) (mid : Nat) :
    exec (.hoistParamRequest v mid) s = execHoistParamRequest v mid s := rfl
theorem exec_hoistRegsRequest (v : Nat) (mid : Nat) :
    exec (.hoistRegsRequest v mid) s = execHoistRegsRequest v mid s := rfl
theorem exec_hoistRouteRequest (v : Nat) (mid : Nat) :
    exec (.hoistRouteRequest v mid) s = execHoistRouteRequest v mid s := rfl
theorem exec_swapLanding :
    exec (.swapLanding) s = execSwapLanding s := rfl
theorem exec_paramLanding :
    exec (.paramLanding) s = execParamLanding s := rfl
theorem exec_paramCopyForwardDone (nn : Fin 32) (g : Fin 64) :
    exec (.paramCopyForwardDone nn g) s = execParamCopyForwardDone nn g s := rfl
theorem exec_regsLanding :
    exec (.regsLanding) s = execRegsLanding s := rfl
theorem exec_routeLanding :
    exec (.routeLanding) s = execRouteLanding s := rfl
theorem exec_routeCopyForwardDone :
    exec (.routeCopyForwardDone) s = execRouteCopyForwardDone s := rfl
theorem exec_pgpSet (k : Fin 64) (v : Nat) (mid : Nat) :
    exec (.pgpSet k v mid) s = execPgpSet k v mid s := rfl
theorem exec_rtDataWrite (v : Nat) (mid : Nat) :
    exec (.rtDataWrite v mid) s = execRtDataWrite v mid s := rfl
theorem exec_rtDataRead (mid : Nat) (us : List (Nat × Nat)) :
    exec (.rtDataRead mid us) s = execRtDataRead mid us s := rfl
theorem exec_softSwitchTimeout (d : Nat) :
    exec (.softSwitchTimeout d) s = execSoftSwitchTimeout d s := rfl
theorem exec_tdmMuteNow (p : Fin 16) (mid : Nat) :
    exec (.tdmMuteNow p mid) s = execTdmMuteNow p mid s := rfl
theorem exec_groupArm (g : Fin 4) (v : Nat) (mid : Nat) :
    exec (.groupArm g v mid) s = execGroupArm g v mid s := rfl
theorem exec_groupStop (g : Fin 4) (v : Nat) (mid : Nat) :
    exec (.groupStop g v mid) s = execGroupStop g v mid s := rfl
theorem exec_startEdgeCapture :
    exec (.startEdgeCapture) s = execStartEdgeCapture s := rfl
theorem exec_groupFrame0Start (g : Fin 4) (pos : Nat) (e : Nat) :
    exec (.groupFrame0Start g pos e) s = execGroupFrame0Start g pos e s := rfl
theorem exec_tdmInputFrame (p : Fin 16) (slots : List Nat) (bclk : Nat) (units : Nat) :
    exec (.tdmInputFrame p slots bclk units) s = execTdmInputFrame p slots bclk units s := rfl
theorem exec_tdmGroupFrame (g : Nat) (e : Int) (und : List Nat) (ovr : List Nat) :
    exec (.tdmGroupFrame g e und ovr) s = execTdmGroupFrame g e und ovr s := rfl
theorem exec_tdmRateFault (p : Fin 16) :
    exec (.tdmRateFault p) s = execTdmRateFault p s := rfl
theorem exec_tdmRateFaultClear (p : Fin 16) :
    exec (.tdmRateFaultClear p) s = execTdmRateFaultClear p s := rfl
theorem exec_tdmRampOutStart (p : Fin 16) (out : Bool) :
    exec (.tdmRampOutStart p out) s = execTdmRampOutStart p out s := rfl
theorem exec_tdmRampOutEnd (p : Fin 16) (out : Bool) :
    exec (.tdmRampOutEnd p out) s = execTdmRampOutEnd p out s := rfl
theorem exec_tdmRampInStart (p : Fin 16) (out : Bool) :
    exec (.tdmRampInStart p out) s = execTdmRampInStart p out s := rfl
theorem exec_tdmRampInEnd (p : Fin 16) (out : Bool) :
    exec (.tdmRampInEnd p out) s = execTdmRampInEnd p out s := rfl
theorem exec_groupFlywheel (g : Fin 4) :
    exec (.groupFlywheel g) s = execGroupFlywheel g s := rfl
theorem exec_flywheelExit (g : Fin 4) (e : Int) :
    exec (.flywheelExit g e) s = execFlywheelExit g e s := rfl
theorem exec_decOutput (n : Fin 96) (j : Nat) (bits : List Bool) :
    exec (.decOutput n j bits) s = execDecOutput n j bits s := rfl
theorem exec_decSettled (n : Fin 96) :
    exec (.decSettled n) s = execDecSettled n s := rfl
theorem exec_decStuck (n : Fin 96) (run : Nat) :
    exec (.decStuck n run) s = execDecStuck n run s := rfl
theorem exec_decStuckClear (n : Fin 96) :
    exec (.decStuckClear n) s = execDecStuckClear n s := rfl
theorem exec_modForceOff (x : Fin 4) (v : Nat) (mid : Nat) :
    exec (.modForceOff x v mid) s = execModForceOff x v mid s := rfl
theorem exec_modClr (x : Fin 4) (v : Nat) (mid : Nat) :
    exec (.modClr x v mid) s = execModClr x v mid s := rfl
theorem exec_modSwitchingPeriod (m : Fin 32) (e : Nat) (ocStill : Bool) :
    exec (.modSwitchingPeriod m e ocStill) s = execModSwitchingPeriod m e ocStill s := rfl
theorem exec_modCmUpEnd (m : Fin 32) (e : Nat) :
    exec (.modCmUpEnd m e) s = execModCmUpEnd m e s := rfl
theorem exec_modFadeInEnd (m : Fin 32) :
    exec (.modFadeInEnd m) s = execModFadeInEnd m s := rfl
theorem exec_modFadeOutEnd (m : Fin 32) :
    exec (.modFadeOutEnd m) s = execModFadeOutEnd m s := rfl
theorem exec_modCmDownEnd (m : Fin 32) :
    exec (.modCmDownEnd m) s = execModCmDownEnd m s := rfl
theorem exec_ocQualify (m : Fin 32) :
    exec (.ocQualify m) s = execOcQualify m s := rfl
theorem exec_zWindowEnd (m : Fin 32) (j : Nat) :
    exec (.zWindowEnd m j) s = execZWindowEnd m j s := rfl
theorem exec_modRetry (m : Fin 32) :
    exec (.modRetry m) s = execModRetry m s := rfl
theorem exec_retryCntClear (m : Fin 32) :
    exec (.retryCntClear m) s = execRetryCntClear m s := rfl
theorem exec_railCommand (g : Fin 8) (j : Nat) :
    exec (.railCommand g j) s = execRailCommand g j s := rfl
theorem exec_railPwmPeriod (g : Fin 8) :
    exec (.railPwmPeriod g) s = execRailPwmPeriod g s := rfl
theorem exec_railLow (g : Fin 8) :
    exec (.railLow g) s = execRailLow g s := rfl
theorem exec_railOv (g : Fin 8) :
    exec (.railOv g) s = execRailOv g s := rfl
theorem exec_railClr (v : Nat) (mid : Nat) :
    exec (.railClr v mid) s = execRailClr v mid s := rfl
theorem exec_thmWindowEnd (m : Fin 32) :
    exec (.thmWindowEnd m) s = execThmWindowEnd m s := rfl
theorem exec_thmStoreError (m : Fin 32) :
    exec (.thmStoreError m) s = execThmStoreError m s := rfl
theorem exec_refActivityLost (n : Fin 7) :
    exec (.refActivityLost n) s = execRefActivityLost n s := rfl
theorem exec_refWindowEnd (n : Fin 7) (ofs : Int) (phase : Int) :
    exec (.refWindowEnd n ofs phase) s = execRefWindowEnd n ofs phase s := rfl
theorem exec_refQualified (refs : Nat) :
    exec (.refQualified refs) s = execRefQualified refs s := rfl
theorem exec_refCfgWrite (n : Fin 7) (v : Nat) (mid : Nat) :
    exec (.refCfgWrite n v mid) s = execRefCfgWrite n v mid s := rfl
theorem exec_refLimitWrite (n : Fin 7) (reject : Bool) (v : Nat) (mid : Nat) :
    exec (.refLimitWrite n reject v mid) s = execRefLimitWrite n reject v mid s := rfl
theorem exec_refForce (v : Nat) (mid : Nat) :
    exec (.refForce v mid) s = execRefForce v mid s := rfl
theorem exec_refRevert (n : Fin 7) :
    exec (.refRevert n) s = execRefRevert n s := rfl
theorem exec_dpllLock :
    exec (.dpllLock) s = execDpllLock s := rfl
theorem exec_dpllUnlock :
    exec (.dpllUnlock) s = execDpllUnlock s := rfl
theorem exec_dpllHistoryValid :
    exec (.dpllHistoryValid) s = execDpllHistoryValid s := rfl
theorem exec_dpllHoldExpire :
    exec (.dpllHoldExpire) s = execDpllHoldExpire s := rfl
theorem exec_dpllSlewDone :
    exec (.dpllSlewDone) s = execDpllSlewDone s := rfl
theorem exec_dpllStepWrite (v : Nat) (mid : Nat) :
    exec (.dpllStepWrite v mid) s = execDpllStepWrite v mid s := rfl
theorem exec_dpllStepDone :
    exec (.dpllStepDone) s = execDpllStepDone s := rfl
theorem exec_stepAnnounce :
    exec (.stepAnnounce) s = execStepAnnounce s := rfl
theorem exec_pnt3PulseEnd :
    exec (.pnt3PulseEnd) s = execPnt3PulseEnd s := rfl
theorem exec_ptpTimeRead (mid : Nat) :
    exec (.ptpTimeRead mid) s = execPtpTimeRead mid s := rfl
theorem exec_ptpRateCommit (v : Nat) (mid : Nat) :
    exec (.ptpRateCommit v mid) s = execPtpRateCommit v mid s := rfl
theorem exec_ptpStepGo (v : Nat) (mid : Nat) :
    exec (.ptpStepGo v mid) s = execPtpStepGo v mid s := rfl
theorem exec_ptpSync (v : Nat) (mid : Nat) :
    exec (.ptpSync v mid) s = execPtpSync v mid s := rfl
theorem exec_ptpUnsync (v : Nat) (mid : Nat) :
    exec (.ptpUnsync v mid) s = execPtpUnsync v mid s := rfl
theorem exec_ptpKeepalive (v : Nat) (mid : Nat) :
    exec (.ptpKeepalive v mid) s = execPtpKeepalive v mid s := rfl
theorem exec_ptpSyncWatchdog :
    exec (.ptpSyncWatchdog) s = execPtpSyncWatchdog s := rfl
theorem exec_macRxFrame (p : Fin 5) (bs : List Byte) (raw16 : Nat) :
    exec (.macRxFrame p bs raw16) s = execMacRxFrame p bs raw16 s := rfl
theorem exec_macPauseFrame (p : Fin 5) (bs : List Byte) :
    exec (.macPauseFrame p bs) s = execMacPauseFrame p bs s := rfl
theorem exec_pauseEnd (p : Fin 5) :
    exec (.pauseEnd p) s = execPauseEnd p s := rfl
theorem exec_pauseWatchdog (p : Fin 5) :
    exec (.pauseWatchdog p) s = execPauseWatchdog p s := rfl
theorem exec_pauseHoldoffEnd (p : Fin 5) :
    exec (.pauseHoldoffEnd p) s = execPauseHoldoffEnd p s := rfl
theorem exec_macLinkChange (p : Fin 5) (lock : Bool) (clean : Bool) :
    exec (.macLinkChange p lock clean) s = execMacLinkChange p lock clean s := rfl
theorem exec_macCntClr (p : Fin 5) (v : Nat) (mid : Nat) :
    exec (.macCntClr p v mid) s = execMacCntClr p v mid s := rfl
theorem exec_ringTailWrite (u : Fin 7) (k : Fin 8) (v : Nat) (mid : Nat) :
    exec (.ringTailWrite u k v mid) s = execRingTailWrite u k v mid s := rfl
theorem exec_macTxStart (p : Fin 5) (left : List Nat) (woken : Bool) :
    exec (.macTxStart p left woken) s = execMacTxStart p left woken s := rfl
theorem exec_macTxDone (p : Fin 5) (raw16 : Nat) :
    exec (.macTxDone p raw16) s = execMacTxDone p raw16 s := rfl
theorem exec_lpiEnter (p : Fin 4) (rx : Bool) (left : List Nat) (opens : Option Nat) :
    exec (.lpiEnter p rx left opens) s = execLpiEnter p rx left opens s := rfl
theorem exec_lpiExit (p : Fin 4) (rx : Bool) :
    exec (.lpiExit p rx) s = execLpiExit p rx s := rfl
theorem exec_gateEntryChange (p : Fin 4) (cycleEnd : Bool) :
    exec (.gateEntryChange p cycleEnd) s = execGateEntryChange p cycleEnd s := rfl
theorem exec_gclChange (p : Fin 4) (v : Nat) (mid : Nat) :
    exec (.gclChange p v mid) s = execGclChange p v mid s := rfl
theorem exec_gclConfigChange (p : Fin 4) :
    exec (.gclConfigChange p) s = execGclConfigChange p s := rfl
theorem exec_gclDataWrite (v : Nat) (mid : Nat) :
    exec (.gclDataWrite v mid) s = execGclDataWrite v mid s := rfl
theorem exec_streamTxPacket (n : Fin 256) :
    exec (.streamTxPacket n) s = execStreamTxPacket n s := rfl
theorem exec_streamRxPacket (n : Fin 256) :
    exec (.streamRxPacket n) s = execStreamRxPacket n s := rfl
theorem exec_streamRampOutStart (n : Fin 256) :
    exec (.streamRampOutStart n) s = execStreamRampOutStart n s := rfl
theorem exec_streamRampInStart (n : Fin 256) :
    exec (.streamRampInStart n) s = execStreamRampInStart n s := rfl
theorem exec_mcOfsWrite (hi : Bool) (v : Nat) (mid : Nat) :
    exec (.mcOfsWrite hi v mid) s = execMcOfsWrite hi v mid s := rfl
theorem exec_carixFrameRx (n : Fin 2) (valid : Bool) (h : List Byte) (audio : List Word) (tun : List Nat) (crc : Nat) (t4 : Nat) (late : Bool) :
    exec (.carixFrameRx n valid h audio tun crc t4 late) s = execCarixFrameRx n valid h audio tun crc t4 late s := rfl
theorem exec_carixRampOutStart (n : Fin 2) :
    exec (.carixRampOutStart n) s = execCarixRampOutStart n s := rfl
theorem exec_laneBlockLock (n : Fin 2) (lane : Fin 4) (hs : List Nat) :
    exec (.laneBlockLock n lane hs) s = execLaneBlockLock n lane hs s := rfl
theorem exec_laneLockLost (n : Fin 2) (lane : Fin 4) (hs : List Nat) :
    exec (.laneLockLost n lane hs) s = execLaneLockLost n lane hs s := rfl
theorem exec_carixLinkChange (n : Fin 2) (skew : Option Nat) (frame : Bool) :
    exec (.carixLinkChange n skew frame) s = execCarixLinkChange n skew frame s := rfl
theorem exec_dlyValid (n : Fin 2) :
    exec (.dlyValid n) s = execDlyValid n s := rfl
theorem exec_stepBlockRx (n : Fin 2) (c0 : Option Nat) (c1 : Option Nat) (inTime : Bool) :
    exec (.stepBlockRx n c0 c1 inTime) s = execStepBlockRx n c0 c1 inTime s := rfl
theorem exec_stackRoleWrite (v : Nat) (mid : Nat) :
    exec (.stackRoleWrite v mid) s = execStackRoleWrite v mid s := rfl
theorem exec_stackClr (v : Nat) (mid : Nat) :
    exec (.stackClr v mid) s = execStackClr v mid s := rfl
theorem exec_crxCntClr (n : Fin 2) (v : Nat) (mid : Nat) :
    exec (.crxCntClr n v mid) s = execCrxCntClr n v mid s := rfl
theorem exec_remoteReadRequest (n : Fin 2) (v : Nat) (mid : Nat) :
    exec (.remoteReadRequest n v mid) s = execRemoteReadRequest n v mid s := rfl
theorem exec_remoteWriteRequest (n : Fin 2) (v : Nat) (mid : Nat) :
    exec (.remoteWriteRequest n v mid) s = execRemoteWriteRequest n v mid s := rfl
theorem exec_tunnelResponse (n : Fin 2) :
    exec (.tunnelResponse n) s = execTunnelResponse n s := rfl
theorem exec_raTimeout (n : Fin 2) :
    exec (.raTimeout n) s = execRaTimeout n s := rfl
theorem exec_tunnelReadRequestRx (n : Fin 2) :
    exec (.tunnelReadRequestRx n) s = execTunnelReadRequestRx n s := rfl
theorem exec_tunnelWriteRequestRx (n : Fin 2) (x : Ext) :
    exec (.tunnelWriteRequestRx n x) s = execTunnelWriteRequestRx n x s := rfl
theorem exec_tunnelMessageRx (n : Fin 2) :
    exec (.tunnelMessageRx n) s = execTunnelMessageRx n s := rfl
theorem exec_tunnelMessageTx (n : Fin 2) :
    exec (.tunnelMessageTx n) s = execTunnelMessageTx n s := rfl
theorem exec_pairElectTimeout :
    exec (.pairElectTimeout) s = execPairElectTimeout s := rfl
theorem exec_pairLinkSilent :
    exec (.pairLinkSilent) s = execPairLinkSilent s := rfl
theorem exec_pinFault :
    exec (.pinFault) s = execPinFault s := rfl
theorem exec_pairTakeover :
    exec (.pairTakeover) s = execPairTakeover s := rfl
theorem exec_pairConverged :
    exec (.pairConverged) s = execPairConverged s := rfl
theorem exec_pairConvLimit :
    exec (.pairConvLimit) s = execPairConvLimit s := rfl
theorem exec_pairSuspect :
    exec (.pairSuspect) s = execPairSuspect s := rfl
theorem exec_healthPublish :
    exec (.healthPublish) s = execHealthPublish s := rfl
theorem exec_pairStrikeCmd (v : Nat) (mid : Nat) :
    exec (.pairStrikeCmd v mid) s = execPairStrikeCmd v mid s := rfl
theorem exec_clrStruck (v : Nat) (mid : Nat) :
    exec (.clrStruck v mid) s = execClrStruck v mid s := rfl
theorem exec_pairCntClr (v : Nat) (mid : Nat) :
    exec (.pairCntClr v mid) s = execPairCntClr v mid s := rfl
theorem exec_drcInit (v : Nat) (mid : Nat) :
    exec (.drcInit v mid) s = execDrcInit v mid s := rfl
theorem exec_drcInitDone :
    exec (.drcInitDone) s = execDrcInitDone s := rfl
theorem exec_drcOnline (v : Nat) (mid : Nat) :
    exec (.drcOnline v mid) s = execDrcOnline v mid s := rfl
theorem exec_drcOffline (v : Nat) (mid : Nat) :
    exec (.drcOffline v mid) s = execDrcOffline v mid s := rfl
theorem exec_probeReadCal (v : Nat) (mid : Nat) :
    exec (.probeReadCal v mid) s = execProbeReadCal v mid s := rfl
theorem exec_probeWriteRead (v : Nat) (mid : Nat) :
    exec (.probeWriteRead v mid) s = execProbeWriteRead v mid s := rfl
theorem exec_probeCaTrain (v : Nat) (mid : Nat) :
    exec (.probeCaTrain v mid) s = execProbeCaTrain v mid s := rfl
theorem exec_probeGate (v : Nat) (mid : Nat) :
    exec (.probeGate v mid) s = execProbeGate v mid s := rfl
theorem exec_probeWckLvl (v : Nat) (mid : Nat) :
    exec (.probeWckLvl v mid) s = execProbeWckLvl v mid s := rfl
theorem exec_probeDone (res : Nat) (errs : Nat) :
    exec (.probeDone res errs) s = execProbeDone res errs s := rfl
theorem exec_mrWrite (v : Nat) (mid : Nat) :
    exec (.mrWrite v mid) s = execMrWrite v mid s := rfl
theorem exec_mrRead (v : Nat) (dev : Option Nat) (mid : Nat) :
    exec (.mrRead v dev mid) s = execMrRead v dev mid s := rfl
theorem exec_dphyDelayWrite (o : Nat) (v : Nat) (mid : Nat) :
    exec (.dphyDelayWrite o v mid) s = execDphyDelayWrite o v mid s := rfl
theorem exec_tsetWrite (o : Nat) (v : Nat) (mid : Nat) :
    exec (.tsetWrite o v mid) s = execTsetWrite o v mid s := rfl
theorem exec_dramRequest (arrived : List DramReq) (recent : Bool) (age : Nat) (us : List (Nat × Nat)) :
    exec (.dramRequest arrived recent age us) s = execDramRequest arrived recent age us s := rfl
theorem exec_urgencyRaise (k : Nat) :
    exec (.urgencyRaise k) s = execUrgencyRaise k s := rfl
theorem exec_rowClose (bank : Nat) :
    exec (.rowClose bank) s = execRowClose bank s := rfl
theorem exec_refresh (bank : Nat) (postpone : Bool) :
    exec (.refresh bank postpone) s = execRefresh bank postpone s := rfl
theorem exec_tempPoll (rate : Fin 4) :
    exec (.tempPoll rate) s = execTempPoll rate s := rfl
theorem exec_srEnter :
    exec (.srEnter) s = execSrEnter s := rfl
theorem exec_fcGo (v : Nat) (mid : Nat) :
    exec (.fcGo v mid) s = execFcGo v mid s := rfl
theorem exec_fcDone :
    exec (.fcDone) s = execFcDone s := rfl
theorem exec_fillGo (v : Nat) (mid : Nat) :
    exec (.fillGo v mid) s = execFillGo v mid s := rfl
theorem exec_fillDone :
    exec (.fillDone) s = execFillDone s := rfl
theorem exec_maxWaitClear (port : Fin 8) (v : Nat) (mid : Nat) :
    exec (.maxWaitClear port v mid) s = execMaxWaitClear port v mid s := rfl
theorem exec_dphyUnlock :
    exec (.dphyUnlock) s = execDphyUnlock s := rfl
theorem exec_zqCalibration (ok : Bool) :
    exec (.zqCalibration ok) s = execZqCalibration ok s := rfl
theorem exec_defaultTargetAccess (a : Nat) (mid : Nat) (write : Bool) (fetch : Bool) (size : Nat) :
    exec (.defaultTargetAccess a mid write fetch size) s = execDefaultTargetAccess a mid write fetch size s := rfl
theorem exec_amo (core : Fin 2) (op : Fin 9) (a : Nat) (v : Nat) (stall : Bool) :
    exec (.amo core op a v stall) s = execAmo core op a v stall s := rfl
theorem exec_lockTimeout :
    exec (.lockTimeout) s = execLockTimeout s := rfl
theorem exec_lr (core : Fin 2) (a : Nat) :
    exec (.lr core a) s = execLr core a s := rfl
theorem exec_sc (core : Fin 2) (a : Nat) (v : Nat) :
    exec (.sc core a v) s = execSc core a v s := rfl
theorem exec_holdMaxClear (v : Nat) (mid : Nat) :
    exec (.holdMaxClear v mid) s = execHoldMaxClear v mid s := rfl
theorem exec_cpuRun (n : Fin 2) (v : Nat) (mid : Nat) :
    exec (.cpuRun n v mid) s = execCpuRun n v mid s := rfl
theorem exec_cpuHold (n : Fin 2) (v : Nat) (mid : Nat) :
    exec (.cpuHold n v mid) s = execCpuHold n v mid s := rfl
theorem exec_haltReq (n : Fin 2) (v : Nat) (mid : Nat) :
    exec (.haltReq n v mid) s = execHaltReq n v mid s := rfl
theorem exec_wdogEnable (v : Nat) (mid : Nat) :
    exec (.wdogEnable v mid) s = execWdogEnable v mid s := rfl
theorem exec_wdogKick (v : Nat) (mid : Nat) :
    exec (.wdogKick v mid) s = execWdogKick v mid s := rfl
theorem exec_wdogWarn :
    exec (.wdogWarn) s = execWdogWarn s := rfl
theorem exec_wdogExpire :
    exec (.wdogExpire) s = execWdogExpire s := rfl
theorem exec_hostGo (v : Nat) (mid : Nat) :
    exec (.hostGo v mid) s = execHostGo v mid s := rfl
theorem exec_flashCmd (v : Nat) (data : List Byte) (mid : Nat) :
    exec (.flashCmd v data mid) s = execFlashCmd v data mid s := rfl
theorem exec_bootFifoRead (mid : Nat) :
    exec (.bootFifoRead mid) s = execBootFifoRead mid s := rfl
theorem exec_bootFifoWrite (v : Nat) (mid : Nat) :
    exec (.bootFifoWrite v mid) s = execBootFifoWrite v mid s := rfl
theorem exec_pcieRequest (bar : Fin 3) (o : Nat) (n : Nat) (wr : Bool) (data : List Byte) (x : Ext) :
    exec (.pcieRequest bar o n wr data x) s = execPcieRequest bar o n wr data x s := rfl
theorem exec_flr :
    exec (.flr) s = execFlr s := rfl
theorem exec_pciePerst (low : Bool) :
    exec (.pciePerst low) s = execPciePerst low s := rfl
theorem exec_fuseProgKey (v : Nat) (mid : Nat) :
    exec (.fuseProgKey v mid) s = execFuseProgKey v mid s := rfl
theorem exec_fuseProgGo (v : Nat) (bad : Nat) (mid : Nat) :
    exec (.fuseProgGo v bad mid) s = execFuseProgGo v bad mid s := rfl
theorem exec_dbgReq (v : Nat) (mid : Nat) :
    exec (.dbgReq v mid) s = execDbgReq v mid s := rfl
theorem exec_dbgGo (v : Nat) (mid : Nat) :
    exec (.dbgGo v mid) s = execDbgGo v mid s := rfl
theorem exec_doorbellH2a (v : Nat) (mid : Nat) :
    exec (.doorbellH2a v mid) s = execDoorbellH2a v mid s := rfl
theorem exec_doorbellA2h (v : Nat) (mid : Nat) :
    exec (.doorbellA2h v mid) s = execDoorbellA2h v mid s := rfl
theorem exec_gpioEdge (p : Fin 16) (level : Bool) :
    exec (.gpioEdge p level) s = execGpioEdge p level s := rfl
theorem exec_twbSetPointer (p : Nat) (stop : Bool) :
    exec (.twbSetPointer p stop) s = execTwbSetPointer p stop s := rfl
theorem exec_twbTargetWriteWord (w : Nat) (stop : Bool) :
    exec (.twbTargetWriteWord w stop) s = execTwbTargetWriteWord w stop s := rfl
theorem exec_twbTargetReadWord (first : Bool) (late : Bool) (n : Fin 5) (stop : Bool) :
    exec (.twbTargetReadWord first late n stop) s = execTwbTargetReadWord first late n stop s := rfl
theorem exec_twbAccessDone (x : Ext) :
    exec (.twbAccessDone x) s = execTwbAccessDone x s := rfl
theorem exec_twbTargetBusError :
    exec (.twbTargetBusError) s = execTwbTargetBusError s := rfl
theorem exec_twbControllerWrite (v : Nat) (run : TwbRun) (mid : Nat) :
    exec (.twbControllerWrite v run mid) s = execTwbControllerWrite v run mid s := rfl
theorem exec_twbControllerRead (v : Nat) (run : TwbRun) (mid : Nat) :
    exec (.twbControllerRead v run mid) s = execTwbControllerRead v run mid s := rfl
theorem exec_twbArbRetry (run : TwbRun) :
    exec (.twbArbRetry run) s = execTwbArbRetry run s := rfl
theorem exec_twbControllerBusError :
    exec (.twbControllerBusError) s = execTwbControllerBusError s := rfl
theorem exec_twbSclTimeout :
    exec (.twbSclTimeout) s = execTwbSclTimeout s := rfl
theorem exec_twbRecover (v : Nat) (run : TwbRun) (mid : Nat) :
    exec (.twbRecover v run mid) s = execTwbRecover v run mid s := rfl
theorem exec_twbAbort (v : Nat) (run : TwbRun) (mid : Nat) :
    exec (.twbAbort v run mid) s = execTwbAbort v run mid s := rfl
theorem exec_twbFifoRead (mid : Nat) :
    exec (.twbFifoRead mid) s = execTwbFifoRead mid s := rfl
theorem exec_twbFifoWrite (v : Nat) (mid : Nat) :
    exec (.twbFifoWrite v mid) s = execTwbFifoWrite v mid s := rfl
theorem exec_twbWakeMatch (addr : Nat) :
    exec (.twbWakeMatch addr) s = execTwbWakeMatch addr s := rfl
theorem exec_modeReqRun (v : Nat) (mid : Nat) :
    exec (.modeReqRun v mid) s = execModeReqRun v mid s := rfl
theorem exec_modeReqService (v : Nat) (mid : Nat) :
    exec (.modeReqService v mid) s = execModeReqService v mid s := rfl
theorem exec_modeReqQuiet (v : Nat) (mid : Nat) :
    exec (.modeReqQuiet v mid) s = execModeReqQuiet v mid s := rfl
theorem exec_modeReqDormant (v : Nat) (mid : Nat) :
    exec (.modeReqDormant v mid) s = execModeReqDormant v mid s := rfl
theorem exec_agentAnswer (xfer : Bool) (edges : Nat) (shut : Nat) :
    exec (.agentAnswer xfer edges shut) s = execAgentAnswer xfer edges shut s := rfl
theorem exec_agentTimeout :
    exec (.agentTimeout) s = execAgentTimeout s := rfl
theorem exec_quietResume :
    exec (.quietResume) s = execQuietResume s := rfl
theorem exec_resumeDone (us : Nat) :
    exec (.resumeDone us) s = execResumeDone us s := rfl
theorem exec_wakeN :
    exec (.wakeN) s = execWakeN s := rfl
theorem exec_ledgerAlarm :
    exec (.ledgerAlarm) s = execLedgerAlarm s := rfl
theorem exec_wakeSw (v : Nat) (mid : Nat) :
    exec (.wakeSw v mid) s = execWakeSw v mid s := rfl
theorem exec_wakeRailsValid (rom : RomInput) (l : Nat) (valid : Bool) :
    exec (.wakeRailsValid rom l valid) s = execWakeRailsValid rom l valid s := rfl
theorem exec_wakeTimeout :
    exec (.wakeTimeout) s = execWakeTimeout s := rfl
theorem exec_rtcInactive :
    exec (.rtcInactive) s = execRtcInactive s := rfl
theorem exec_fabEnWrite (v : Nat) (mid : Nat) :
    exec (.fabEnWrite v mid) s = execFabEnWrite v mid s := rfl
theorem exec_quadrantPowered (q : Fin 4) :
    exec (.quadrantPowered q) s = execQuadrantPowered q s := rfl
theorem exec_por :
    exec (.por) s = execPor s := rfl
theorem exec_bor (rom : RomInput) (l : Nat) (valid : Bool) :
    exec (.bor rom l valid) s = execBor rom l valid s := rfl
theorem exec_pinReset (rom : RomInput) :
    exec (.pinReset rom) s = execPinReset rom s := rfl
theorem exec_wdogReset (rom : RomInput) :
    exec (.wdogReset rom) s = execWdogReset rom s := rfl
theorem exec_softReset (v : Nat) (rom : RomInput) (mid : Nat) :
    exec (.softReset v rom mid) s = execSoftReset v rom mid s := rfl
theorem exec_aoRelease :
    exec (.aoRelease) s = execAoRelease s := rfl
theorem exec_deviceRelease (rom : RomInput) :
    exec (.deviceRelease rom) s = execDeviceRelease rom s := rfl
theorem exec_tempReading (k : Fin 8) (r : Int) :
    exec (.tempReading k r) s = execTempReading k r s := rfl
theorem exec_supplyReading (k : Fin 8) (mv : Nat) :
    exec (.supplyReading k mv) s = execSupplyReading k mv s := rfl
theorem exec_tempMaxClear (v : Nat) (mid : Nat) :
    exec (.tempMaxClear v mid) s = execTempMaxClear v mid s := rfl
theorem exec_storeScrub (us : List (Nat × Nat)) :
    exec (.storeScrub us) s = execStoreScrub us s := rfl
theorem exec_dramScrub (us : List (Nat × Nat)) :
    exec (.dramScrub us) s = execDramScrub us s := rfl
theorem exec_sramScrub (m : Fin 3) (us : List (Nat × Nat)) :
    exec (.sramScrub m us) s = execSramScrub m us s := rfl
theorem exec_pcieLinkChange (up : Bool) (gen : Nat) (width : Nat) (ltssm : Nat) :
    exec (.pcieLinkChange up gen width ltssm) s = execPcieLinkChange up gen width ltssm s := rfl
theorem exec_rtcActive :
    exec (.rtcActive) s = execRtcActive s := rfl
theorem exec_holdLimitWrite (v : Nat) (mid : Nat) :
    exec (.holdLimitWrite v mid) s = execHoldLimitWrite v mid s := rfl
theorem exec_mediaOfsWrite (v : Nat) (mid : Nat) :
    exec (.mediaOfsWrite v mid) s = execMediaOfsWrite v mid s := rfl
theorem exec_powerUpFromBootDone :
    exec (.powerUpFromBootDone) s = execPowerUpFromBootDone s := rfl
theorem exec_twbBusFreeStart (run : TwbRun) :
    exec (.twbBusFreeStart run) s = execTwbBusFreeStart run s := rfl
theorem exec_mainEnLowTimeEnd :
    exec (.mainEnLowTimeEnd) s = execMainEnLowTimeEnd s := rfl

end Sys2Proof.Machine
end

