-- ==== Sys2Proof/Laws/SMap.lean ====
section
/-! SUPPORT. What reading a sparse collection gives after each of its operations, and that each keeps the canonical
form. -/

namespace Sys2Proof.Machine

set_option Elab.async false

variable {α : Type}

theorem smapGet_put (d : Nat → α) (m : SMap α) (k j : Nat) (v : α) :
    smapGet d (smapPut m k v) j = if j = k then v else smapGet d m j := by
  induction m with
  | nil => simp only [smapPut, smapGet, eq_comm]
  | cons e m ih =>
    obtain ⟨i, w⟩ := e
    simp only [smapPut]
    split
    · simp only [smapGet, eq_comm]
    · split
      · subst_vars; simp only [smapGet, eq_comm (a := j)]; split <;> rfl
      · simp only [smapGet, ih]; split <;> split <;> simp_all

theorem smapGet_del (d : Nat → α) (m : SMap α) (k j : Nat) :
    smapGet d (smapDel m k) j = if j = k then d j else smapGet d m j := by
  induction m with
  | nil => simp [smapDel, smapGet]
  | cons e m ih =>
    obtain ⟨i, w⟩ := e
    simp only [smapDel]
    split
    · subst_vars; rw [ih]; simp only [smapGet, eq_comm (a := j)]; split <;> rfl
    · simp only [smapGet, ih]; split <;> split <;> simp_all

/-- Reading after a write: the value written at its key, every other key as before. -/
theorem smapGet_set [DecidableEq α] (d : Nat → α) (m : SMap α) (k j : Nat) (v : α) :
    smapGet d (smapSet d m k v) j = if j = k then v else smapGet d m j := by
  simp only [smapSet]
  split
  · rw [smapGet_del]; split <;> simp_all
  · rw [smapGet_put]

theorem smapGet_set_self [DecidableEq α] (d : Nat → α) (m : SMap α) (k : Nat) (v : α) :
    smapGet d (smapSet d m k v) k = v := by simp [smapGet_set]

theorem smapGet_set_ne [DecidableEq α] (d : Nat → α) (m : SMap α) (k j : Nat) (v : α) (h : j ≠ k) :
    smapGet d (smapSet d m k v) j = smapGet d m j := by simp [smapGet_set, h]

theorem smapGet_keep (d : Nat → α) (p : Nat → Bool) (m : SMap α) (j : Nat) :
    smapGet d (smapKeep p m) j = if p j then smapGet d m j else d j := by
  induction m with
  | nil => simp [smapKeep, smapGet]
  | cons e m ih =>
    obtain ⟨i, w⟩ := e
    simp only [smapKeep, List.filter_cons] at ih ⊢
    by_cases hp : p i <;> by_cases hj : i = j <;> simp_all [smapGet]

/-! ## The canonical form -/

theorem smapRising_mono {m : SMap α} {a b : Nat} (hab : a ≤ b) (h : smapRising b m = true) :
    smapRising a m = true := by
  cases m with
  | nil => rfl
  | cons e m => simp_all [smapRising]; omega

theorem smapRising_put {m : SMap α} {b k : Nat} {v : α} (hk : b ≤ k) (h : smapRising b m = true) :
    smapRising b (smapPut m k v) = true := by
  induction m generalizing b with
  | nil => simp [smapPut, smapRising, hk]
  | cons e m ih =>
    obtain ⟨i, w⟩ := e
    simp only [smapRising, Bool.and_eq_true, decide_eq_true_eq] at h
    simp only [smapPut]
    split
    · simp only [smapRising, Bool.and_eq_true, decide_eq_true_eq]; exact ⟨hk, by omega, h.2⟩
    · split
      · simp only [smapRising, Bool.and_eq_true, decide_eq_true_eq]; subst_vars; exact ⟨hk, h.2⟩
      · simp only [smapRising, Bool.and_eq_true, decide_eq_true_eq]
        exact ⟨h.1, ih (by omega) h.2⟩

theorem smapRising_filter {m : SMap α} {b : Nat} (q : Nat × α → Bool) (h : smapRising b m = true) :
    smapRising b (m.filter q) = true := by
  induction m generalizing b with
  | nil => rfl
  | cons e m ih =>
    obtain ⟨i, w⟩ := e
    simp only [smapRising, Bool.and_eq_true, decide_eq_true_eq] at h
    simp only [List.filter_cons]
    split
    · simp only [smapRising, Bool.and_eq_true, decide_eq_true_eq]; exact ⟨h.1, ih h.2⟩
    · exact smapRising_mono (by omega) (ih h.2)

theorem smapDel_eq_filter (m : SMap α) (k : Nat) : smapDel m k = m.filter (fun e => e.1 != k) := by
  induction m with
  | nil => rfl
  | cons e m ih => obtain ⟨i, w⟩ := e; simp only [smapDel, List.filter_cons, ih]; split <;> simp_all

theorem smapPut_all {m : SMap α} {q : Nat × α → Bool} {k : Nat} {v : α} (hv : q (k, v) = true)
    (h : m.all q = true) : (smapPut m k v).all q = true := by
  induction m with
  | nil => simp [smapPut, hv]
  | cons e m ih =>
    obtain ⟨i, w⟩ := e
    simp only [List.all_cons, Bool.and_eq_true] at h
    simp only [smapPut]
    split
    · simp only [List.all_cons, hv, h.1, h.2, Bool.and_self]
    · split
      · simp only [List.all_cons, hv, h.2, Bool.and_self]
      · simp only [List.all_cons, h.1, ih h.2, Bool.and_self]

theorem smapWf_nil [DecidableEq α] (d : Nat → α) : smapWf d [] = true := rfl

theorem smapWf_filter [DecidableEq α] {d : Nat → α} {m : SMap α} (q : Nat × α → Bool) (h : smapWf d m = true) :
    smapWf d (m.filter q) = true := by
  simp only [smapWf, Bool.and_eq_true] at h ⊢
  refine ⟨smapRising_filter q h.1, ?_⟩
  simp only [List.all_filter, List.all_eq_true] at h ⊢
  intro x hx
  simp [h.2 x hx]

theorem smapWf_keep [DecidableEq α] {d : Nat → α} {m : SMap α} (p : Nat → Bool) (h : smapWf d m = true) :
    smapWf d (smapKeep p m) = true := smapWf_filter _ h

/-- A write keeps the canonical form. -/
theorem smapWf_set [DecidableEq α] {d : Nat → α} {m : SMap α} {k : Nat} {v : α} (h : smapWf d m = true) :
    smapWf d (smapSet d m k v) = true := by
  simp only [smapSet]
  split
  · rw [smapDel_eq_filter]; exact smapWf_filter _ h
  · simp only [smapWf, Bool.and_eq_true] at h ⊢
    exact ⟨smapRising_put (Nat.zero_le _) h.1, smapPut_all (by simp_all) h.2⟩

/-- Writes in a row keep the canonical form. -/
theorem smapWf_foldl_set [DecidableEq α] {β : Type} {d : Nat → α} (l : List β) (k : β → Nat) (v : β → α)
    {m : SMap α} (h : smapWf d m = true) :
    smapWf d (l.foldl (fun a b => smapSet d a (k b) (v b)) m) = true := by
  induction l generalizing m with
  | nil => exact h
  | cons b l ih => exact ih (smapWf_set h)

end Sys2Proof.Machine
end

