-- ==== Sys2Proof/Laws/State.lean ====
section
/-! SUPPORT. What each named update of the state leaves alone: one lemma per field per update, and the registers, the
memory and the engines under an update of another field. -/

namespace Sys2Proof.Machine

set_option Elab.async false

variable (s : State)

/-! ## setRg -/

@[simp] theorem State.setRg_pending (p o v : Nat) : (s.setRg p o v).pending = s.pending := rfl
@[simp] theorem State.setRg_hiLatch (p o v : Nat) : (s.setRg p o v).hiLatch = s.hiLatch := rfl
@[simp] theorem State.setRg_mem (p o v : Nat) : (s.setRg p o v).mem = s.mem := rfl
@[simp] theorem State.setRg_ecc (p o v : Nat) : (s.setRg p o v).ecc = s.ecc := rfl
@[simp] theorem State.setRg_resp (p o v : Nat) : (s.setRg p o v).resp = s.resp := rfl
@[simp] theorem State.setRg_eng (p o v : Nat) : (s.setRg p o v).eng = s.eng := rfl
@[simp] theorem State.setRg_sched (p o v : Nat) : (s.setRg p o v).sched = s.sched := rfl
@[simp] theorem State.setRg_rtr (p o v : Nat) : (s.setRg p o v).rtr = s.rtr := rfl
@[simp] theorem State.setRg_sig (p o v : Nat) : (s.setRg p o v).sig = s.sig := rfl
@[simp] theorem State.setRg_tdm (p o v : Nat) : (s.setRg p o v).tdm = s.tdm := rfl
@[simp] theorem State.setRg_grp (p o v : Nat) : (s.setRg p o v).grp = s.grp := rfl
@[simp] theorem State.setRg_esc (p o v : Nat) : (s.setRg p o v).esc = s.esc := rfl
@[simp] theorem State.setRg_avs (p o v : Nat) : (s.setRg p o v).avs = s.avs := rfl
@[simp] theorem State.setRg_drive (p o v : Nat) : (s.setRg p o v).drive = s.drive := rfl
@[simp] theorem State.setRg_dpll (p o v : Nat) : (s.setRg p o v).dpll = s.dpll := rfl
@[simp] theorem State.setRg_net (p o v : Nat) : (s.setRg p o v).net = s.net := rfl
@[simp] theorem State.setRg_crx (p o v : Nat) : (s.setRg p o v).crx = s.crx := rfl
@[simp] theorem State.setRg_dram (p o v : Nat) : (s.setRg p o v).dram = s.dram := rfl
@[simp] theorem State.setRg_ptp (p o v : Nat) : (s.setRg p o v).ptp = s.ptp := rfl
@[simp] theorem State.setRg_pair (p o v : Nat) : (s.setRg p o v).pair = s.pair := rfl
@[simp] theorem State.setRg_mtx (p o v : Nat) : (s.setRg p o v).mtx = s.mtx := rfl
@[simp] theorem State.setRg_ctl (p o v : Nat) : (s.setRg p o v).ctl = s.ctl := rfl
@[simp] theorem State.setRg_pwr (p o v : Nat) : (s.setRg p o v).pwr = s.pwr := rfl
@[simp] theorem State.setRg_mon (p o v : Nat) : (s.setRg p o v).mon = s.mon := rfl
@[simp] theorem State.setRg_twb (p o v : Nat) : (s.setRg p o v).twb = s.twb := rfl
@[simp] theorem State.setRg_freeCtr (p o v : Nat) : (s.setRg p o v).freeCtr = s.freeCtr := rfl

/-! ## ok -/

@[simp] theorem State.ok_pending : s.ok.pending = s.pending := rfl
@[simp] theorem State.ok_regs : s.ok.regs = s.regs := rfl
@[simp] theorem State.ok_hiLatch : s.ok.hiLatch = s.hiLatch := rfl
@[simp] theorem State.ok_mem : s.ok.mem = s.mem := rfl
@[simp] theorem State.ok_ecc : s.ok.ecc = s.ecc := rfl
@[simp] theorem State.ok_eng : s.ok.eng = s.eng := rfl
@[simp] theorem State.ok_sched : s.ok.sched = s.sched := rfl
@[simp] theorem State.ok_rtr : s.ok.rtr = s.rtr := rfl
@[simp] theorem State.ok_sig : s.ok.sig = s.sig := rfl
@[simp] theorem State.ok_tdm : s.ok.tdm = s.tdm := rfl
@[simp] theorem State.ok_grp : s.ok.grp = s.grp := rfl
@[simp] theorem State.ok_esc : s.ok.esc = s.esc := rfl
@[simp] theorem State.ok_avs : s.ok.avs = s.avs := rfl
@[simp] theorem State.ok_drive : s.ok.drive = s.drive := rfl
@[simp] theorem State.ok_dpll : s.ok.dpll = s.dpll := rfl
@[simp] theorem State.ok_net : s.ok.net = s.net := rfl
@[simp] theorem State.ok_crx : s.ok.crx = s.crx := rfl
@[simp] theorem State.ok_dram : s.ok.dram = s.dram := rfl
@[simp] theorem State.ok_ptp : s.ok.ptp = s.ptp := rfl
@[simp] theorem State.ok_pair : s.ok.pair = s.pair := rfl
@[simp] theorem State.ok_mtx : s.ok.mtx = s.mtx := rfl
@[simp] theorem State.ok_ctl : s.ok.ctl = s.ctl := rfl
@[simp] theorem State.ok_pwr : s.ok.pwr = s.pwr := rfl
@[simp] theorem State.ok_mon : s.ok.mon = s.mon := rfl
@[simp] theorem State.ok_twb : s.ok.twb = s.twb := rfl
@[simp] theorem State.ok_freeCtr : s.ok.freeCtr = s.freeCtr := rfl

/-! ## errResp -/

@[simp] theorem State.errResp_pending : s.errResp.pending = s.pending := rfl
@[simp] theorem State.errResp_regs : s.errResp.regs = s.regs := rfl
@[simp] theorem State.errResp_hiLatch : s.errResp.hiLatch = s.hiLatch := rfl
@[simp] theorem State.errResp_mem : s.errResp.mem = s.mem := rfl
@[simp] theorem State.errResp_ecc : s.errResp.ecc = s.ecc := rfl
@[simp] theorem State.errResp_eng : s.errResp.eng = s.eng := rfl
@[simp] theorem State.errResp_sched : s.errResp.sched = s.sched := rfl
@[simp] theorem State.errResp_rtr : s.errResp.rtr = s.rtr := rfl
@[simp] theorem State.errResp_sig : s.errResp.sig = s.sig := rfl
@[simp] theorem State.errResp_tdm : s.errResp.tdm = s.tdm := rfl
@[simp] theorem State.errResp_grp : s.errResp.grp = s.grp := rfl
@[simp] theorem State.errResp_esc : s.errResp.esc = s.esc := rfl
@[simp] theorem State.errResp_avs : s.errResp.avs = s.avs := rfl
@[simp] theorem State.errResp_drive : s.errResp.drive = s.drive := rfl
@[simp] theorem State.errResp_dpll : s.errResp.dpll = s.dpll := rfl
@[simp] theorem State.errResp_net : s.errResp.net = s.net := rfl
@[simp] theorem State.errResp_crx : s.errResp.crx = s.crx := rfl
@[simp] theorem State.errResp_dram : s.errResp.dram = s.dram := rfl
@[simp] theorem State.errResp_ptp : s.errResp.ptp = s.ptp := rfl
@[simp] theorem State.errResp_pair : s.errResp.pair = s.pair := rfl
@[simp] theorem State.errResp_mtx : s.errResp.mtx = s.mtx := rfl
@[simp] theorem State.errResp_ctl : s.errResp.ctl = s.ctl := rfl
@[simp] theorem State.errResp_pwr : s.errResp.pwr = s.pwr := rfl
@[simp] theorem State.errResp_mon : s.errResp.mon = s.mon := rfl
@[simp] theorem State.errResp_twb : s.errResp.twb = s.twb := rfl
@[simp] theorem State.errResp_freeCtr : s.errResp.freeCtr = s.freeCtr := rfl

/-! ## deliver -/

@[simp] theorem State.deliver_pending (bs : List Byte) : (s.deliver bs).pending = s.pending := rfl
@[simp] theorem State.deliver_regs (bs : List Byte) : (s.deliver bs).regs = s.regs := rfl
@[simp] theorem State.deliver_hiLatch (bs : List Byte) : (s.deliver bs).hiLatch = s.hiLatch := rfl
@[simp] theorem State.deliver_mem (bs : List Byte) : (s.deliver bs).mem = s.mem := rfl
@[simp] theorem State.deliver_ecc (bs : List Byte) : (s.deliver bs).ecc = s.ecc := rfl
@[simp] theorem State.deliver_eng (bs : List Byte) : (s.deliver bs).eng = s.eng := rfl
@[simp] theorem State.deliver_sched (bs : List Byte) : (s.deliver bs).sched = s.sched := rfl
@[simp] theorem State.deliver_rtr (bs : List Byte) : (s.deliver bs).rtr = s.rtr := rfl
@[simp] theorem State.deliver_sig (bs : List Byte) : (s.deliver bs).sig = s.sig := rfl
@[simp] theorem State.deliver_tdm (bs : List Byte) : (s.deliver bs).tdm = s.tdm := rfl
@[simp] theorem State.deliver_grp (bs : List Byte) : (s.deliver bs).grp = s.grp := rfl
@[simp] theorem State.deliver_esc (bs : List Byte) : (s.deliver bs).esc = s.esc := rfl
@[simp] theorem State.deliver_avs (bs : List Byte) : (s.deliver bs).avs = s.avs := rfl
@[simp] theorem State.deliver_drive (bs : List Byte) : (s.deliver bs).drive = s.drive := rfl
@[simp] theorem State.deliver_dpll (bs : List Byte) : (s.deliver bs).dpll = s.dpll := rfl
@[simp] theorem State.deliver_net (bs : List Byte) : (s.deliver bs).net = s.net := rfl
@[simp] theorem State.deliver_crx (bs : List Byte) : (s.deliver bs).crx = s.crx := rfl
@[simp] theorem State.deliver_dram (bs : List Byte) : (s.deliver bs).dram = s.dram := rfl
@[simp] theorem State.deliver_ptp (bs : List Byte) : (s.deliver bs).ptp = s.ptp := rfl
@[simp] theorem State.deliver_pair (bs : List Byte) : (s.deliver bs).pair = s.pair := rfl
@[simp] theorem State.deliver_mtx (bs : List Byte) : (s.deliver bs).mtx = s.mtx := rfl
@[simp] theorem State.deliver_ctl (bs : List Byte) : (s.deliver bs).ctl = s.ctl := rfl
@[simp] theorem State.deliver_pwr (bs : List Byte) : (s.deliver bs).pwr = s.pwr := rfl
@[simp] theorem State.deliver_mon (bs : List Byte) : (s.deliver bs).mon = s.mon := rfl
@[simp] theorem State.deliver_twb (bs : List Byte) : (s.deliver bs).twb = s.twb := rfl
@[simp] theorem State.deliver_freeCtr (bs : List Byte) : (s.deliver bs).freeCtr = s.freeCtr := rfl

/-! ## setByte -/

@[simp] theorem State.setByte_pending (a : Nat) (b : Byte) : (s.setByte a b).pending = s.pending := rfl
@[simp] theorem State.setByte_regs (a : Nat) (b : Byte) : (s.setByte a b).regs = s.regs := rfl
@[simp] theorem State.setByte_hiLatch (a : Nat) (b : Byte) : (s.setByte a b).hiLatch = s.hiLatch := rfl
@[simp] theorem State.setByte_ecc (a : Nat) (b : Byte) : (s.setByte a b).ecc = s.ecc := rfl
@[simp] theorem State.setByte_resp (a : Nat) (b : Byte) : (s.setByte a b).resp = s.resp := rfl
@[simp] theorem State.setByte_eng (a : Nat) (b : Byte) : (s.setByte a b).eng = s.eng := rfl
@[simp] theorem State.setByte_sched (a : Nat) (b : Byte) : (s.setByte a b).sched = s.sched := rfl
@[simp] theorem State.setByte_rtr (a : Nat) (b : Byte) : (s.setByte a b).rtr = s.rtr := rfl
@[simp] theorem State.setByte_sig (a : Nat) (b : Byte) : (s.setByte a b).sig = s.sig := rfl
@[simp] theorem State.setByte_tdm (a : Nat) (b : Byte) : (s.setByte a b).tdm = s.tdm := rfl
@[simp] theorem State.setByte_grp (a : Nat) (b : Byte) : (s.setByte a b).grp = s.grp := rfl
@[simp] theorem State.setByte_esc (a : Nat) (b : Byte) : (s.setByte a b).esc = s.esc := rfl
@[simp] theorem State.setByte_avs (a : Nat) (b : Byte) : (s.setByte a b).avs = s.avs := rfl
@[simp] theorem State.setByte_drive (a : Nat) (b : Byte) : (s.setByte a b).drive = s.drive := rfl
@[simp] theorem State.setByte_dpll (a : Nat) (b : Byte) : (s.setByte a b).dpll = s.dpll := rfl
@[simp] theorem State.setByte_net (a : Nat) (b : Byte) : (s.setByte a b).net = s.net := rfl
@[simp] theorem State.setByte_crx (a : Nat) (b : Byte) : (s.setByte a b).crx = s.crx := rfl
@[simp] theorem State.setByte_dram (a : Nat) (b : Byte) : (s.setByte a b).dram = s.dram := rfl
@[simp] theorem State.setByte_ptp (a : Nat) (b : Byte) : (s.setByte a b).ptp = s.ptp := rfl
@[simp] theorem State.setByte_pair (a : Nat) (b : Byte) : (s.setByte a b).pair = s.pair := rfl
@[simp] theorem State.setByte_mtx (a : Nat) (b : Byte) : (s.setByte a b).mtx = s.mtx := rfl
@[simp] theorem State.setByte_ctl (a : Nat) (b : Byte) : (s.setByte a b).ctl = s.ctl := rfl
@[simp] theorem State.setByte_pwr (a : Nat) (b : Byte) : (s.setByte a b).pwr = s.pwr := rfl
@[simp] theorem State.setByte_mon (a : Nat) (b : Byte) : (s.setByte a b).mon = s.mon := rfl
@[simp] theorem State.setByte_twb (a : Nat) (b : Byte) : (s.setByte a b).twb = s.twb := rfl
@[simp] theorem State.setByte_freeCtr (a : Nat) (b : Byte) : (s.setByte a b).freeCtr = s.freeCtr := rfl

/-! ## store -/

@[simp] theorem State.store_pending (a : Nat) (bs : List Byte) : (s.store a bs).pending = s.pending := rfl
@[simp] theorem State.store_regs (a : Nat) (bs : List Byte) : (s.store a bs).regs = s.regs := rfl
@[simp] theorem State.store_hiLatch (a : Nat) (bs : List Byte) : (s.store a bs).hiLatch = s.hiLatch := rfl
@[simp] theorem State.store_ecc (a : Nat) (bs : List Byte) : (s.store a bs).ecc = s.ecc := rfl
@[simp] theorem State.store_resp (a : Nat) (bs : List Byte) : (s.store a bs).resp = s.resp := rfl
@[simp] theorem State.store_eng (a : Nat) (bs : List Byte) : (s.store a bs).eng = s.eng := rfl
@[simp] theorem State.store_sched (a : Nat) (bs : List Byte) : (s.store a bs).sched = s.sched := rfl
@[simp] theorem State.store_rtr (a : Nat) (bs : List Byte) : (s.store a bs).rtr = s.rtr := rfl
@[simp] theorem State.store_sig (a : Nat) (bs : List Byte) : (s.store a bs).sig = s.sig := rfl
@[simp] theorem State.store_tdm (a : Nat) (bs : List Byte) : (s.store a bs).tdm = s.tdm := rfl
@[simp] theorem State.store_grp (a : Nat) (bs : List Byte) : (s.store a bs).grp = s.grp := rfl
@[simp] theorem State.store_esc (a : Nat) (bs : List Byte) : (s.store a bs).esc = s.esc := rfl
@[simp] theorem State.store_avs (a : Nat) (bs : List Byte) : (s.store a bs).avs = s.avs := rfl
@[simp] theorem State.store_drive (a : Nat) (bs : List Byte) : (s.store a bs).drive = s.drive := rfl
@[simp] theorem State.store_dpll (a : Nat) (bs : List Byte) : (s.store a bs).dpll = s.dpll := rfl
@[simp] theorem State.store_net (a : Nat) (bs : List Byte) : (s.store a bs).net = s.net := rfl
@[simp] theorem State.store_crx (a : Nat) (bs : List Byte) : (s.store a bs).crx = s.crx := rfl
@[simp] theorem State.store_dram (a : Nat) (bs : List Byte) : (s.store a bs).dram = s.dram := rfl
@[simp] theorem State.store_ptp (a : Nat) (bs : List Byte) : (s.store a bs).ptp = s.ptp := rfl
@[simp] theorem State.store_pair (a : Nat) (bs : List Byte) : (s.store a bs).pair = s.pair := rfl
@[simp] theorem State.store_mtx (a : Nat) (bs : List Byte) : (s.store a bs).mtx = s.mtx := rfl
@[simp] theorem State.store_ctl (a : Nat) (bs : List Byte) : (s.store a bs).ctl = s.ctl := rfl
@[simp] theorem State.store_pwr (a : Nat) (bs : List Byte) : (s.store a bs).pwr = s.pwr := rfl
@[simp] theorem State.store_mon (a : Nat) (bs : List Byte) : (s.store a bs).mon = s.mon := rfl
@[simp] theorem State.store_twb (a : Nat) (bs : List Byte) : (s.store a bs).twb = s.twb := rfl
@[simp] theorem State.store_freeCtr (a : Nat) (bs : List Byte) : (s.store a bs).freeCtr = s.freeCtr := rfl

/-! ## eraseMem -/

@[simp] theorem State.eraseMem_pending (p : Nat → Bool) : (s.eraseMem p).pending = s.pending := rfl
@[simp] theorem State.eraseMem_regs (p : Nat → Bool) : (s.eraseMem p).regs = s.regs := rfl
@[simp] theorem State.eraseMem_hiLatch (p : Nat → Bool) : (s.eraseMem p).hiLatch = s.hiLatch := rfl
@[simp] theorem State.eraseMem_resp (p : Nat → Bool) : (s.eraseMem p).resp = s.resp := rfl
@[simp] theorem State.eraseMem_eng (p : Nat → Bool) : (s.eraseMem p).eng = s.eng := rfl
@[simp] theorem State.eraseMem_sched (p : Nat → Bool) : (s.eraseMem p).sched = s.sched := rfl
@[simp] theorem State.eraseMem_rtr (p : Nat → Bool) : (s.eraseMem p).rtr = s.rtr := rfl
@[simp] theorem State.eraseMem_sig (p : Nat → Bool) : (s.eraseMem p).sig = s.sig := rfl
@[simp] theorem State.eraseMem_tdm (p : Nat → Bool) : (s.eraseMem p).tdm = s.tdm := rfl
@[simp] theorem State.eraseMem_grp (p : Nat → Bool) : (s.eraseMem p).grp = s.grp := rfl
@[simp] theorem State.eraseMem_esc (p : Nat → Bool) : (s.eraseMem p).esc = s.esc := rfl
@[simp] theorem State.eraseMem_avs (p : Nat → Bool) : (s.eraseMem p).avs = s.avs := rfl
@[simp] theorem State.eraseMem_drive (p : Nat → Bool) : (s.eraseMem p).drive = s.drive := rfl
@[simp] theorem State.eraseMem_dpll (p : Nat → Bool) : (s.eraseMem p).dpll = s.dpll := rfl
@[simp] theorem State.eraseMem_net (p : Nat → Bool) : (s.eraseMem p).net = s.net := rfl
@[simp] theorem State.eraseMem_crx (p : Nat → Bool) : (s.eraseMem p).crx = s.crx := rfl
@[simp] theorem State.eraseMem_dram (p : Nat → Bool) : (s.eraseMem p).dram = s.dram := rfl
@[simp] theorem State.eraseMem_ptp (p : Nat → Bool) : (s.eraseMem p).ptp = s.ptp := rfl
@[simp] theorem State.eraseMem_pair (p : Nat → Bool) : (s.eraseMem p).pair = s.pair := rfl
@[simp] theorem State.eraseMem_mtx (p : Nat → Bool) : (s.eraseMem p).mtx = s.mtx := rfl
@[simp] theorem State.eraseMem_ctl (p : Nat → Bool) : (s.eraseMem p).ctl = s.ctl := rfl
@[simp] theorem State.eraseMem_pwr (p : Nat → Bool) : (s.eraseMem p).pwr = s.pwr := rfl
@[simp] theorem State.eraseMem_mon (p : Nat → Bool) : (s.eraseMem p).mon = s.mon := rfl
@[simp] theorem State.eraseMem_twb (p : Nat → Bool) : (s.eraseMem p).twb = s.twb := rfl
@[simp] theorem State.eraseMem_freeCtr (p : Nat → Bool) : (s.eraseMem p).freeCtr = s.freeCtr := rfl

/-! ## setEcc -/

@[simp] theorem State.setEcc_pending (g a k : Nat) : (s.setEcc g a k).pending = s.pending := rfl
@[simp] theorem State.setEcc_regs (g a k : Nat) : (s.setEcc g a k).regs = s.regs := rfl
@[simp] theorem State.setEcc_hiLatch (g a k : Nat) : (s.setEcc g a k).hiLatch = s.hiLatch := rfl
@[simp] theorem State.setEcc_mem (g a k : Nat) : (s.setEcc g a k).mem = s.mem := rfl
@[simp] theorem State.setEcc_resp (g a k : Nat) : (s.setEcc g a k).resp = s.resp := rfl
@[simp] theorem State.setEcc_eng (g a k : Nat) : (s.setEcc g a k).eng = s.eng := rfl
@[simp] theorem State.setEcc_sched (g a k : Nat) : (s.setEcc g a k).sched = s.sched := rfl
@[simp] theorem State.setEcc_rtr (g a k : Nat) : (s.setEcc g a k).rtr = s.rtr := rfl
@[simp] theorem State.setEcc_sig (g a k : Nat) : (s.setEcc g a k).sig = s.sig := rfl
@[simp] theorem State.setEcc_tdm (g a k : Nat) : (s.setEcc g a k).tdm = s.tdm := rfl
@[simp] theorem State.setEcc_grp (g a k : Nat) : (s.setEcc g a k).grp = s.grp := rfl
@[simp] theorem State.setEcc_esc (g a k : Nat) : (s.setEcc g a k).esc = s.esc := rfl
@[simp] theorem State.setEcc_avs (g a k : Nat) : (s.setEcc g a k).avs = s.avs := rfl
@[simp] theorem State.setEcc_drive (g a k : Nat) : (s.setEcc g a k).drive = s.drive := rfl
@[simp] theorem State.setEcc_dpll (g a k : Nat) : (s.setEcc g a k).dpll = s.dpll := rfl
@[simp] theorem State.setEcc_net (g a k : Nat) : (s.setEcc g a k).net = s.net := rfl
@[simp] theorem State.setEcc_crx (g a k : Nat) : (s.setEcc g a k).crx = s.crx := rfl
@[simp] theorem State.setEcc_dram (g a k : Nat) : (s.setEcc g a k).dram = s.dram := rfl
@[simp] theorem State.setEcc_ptp (g a k : Nat) : (s.setEcc g a k).ptp = s.ptp := rfl
@[simp] theorem State.setEcc_pair (g a k : Nat) : (s.setEcc g a k).pair = s.pair := rfl
@[simp] theorem State.setEcc_mtx (g a k : Nat) : (s.setEcc g a k).mtx = s.mtx := rfl
@[simp] theorem State.setEcc_ctl (g a k : Nat) : (s.setEcc g a k).ctl = s.ctl := rfl
@[simp] theorem State.setEcc_pwr (g a k : Nat) : (s.setEcc g a k).pwr = s.pwr := rfl
@[simp] theorem State.setEcc_mon (g a k : Nat) : (s.setEcc g a k).mon = s.mon := rfl
@[simp] theorem State.setEcc_twb (g a k : Nat) : (s.setEcc g a k).twb = s.twb := rfl
@[simp] theorem State.setEcc_freeCtr (g a k : Nat) : (s.setEcc g a k).freeCtr = s.freeCtr := rfl

/-! ## upset -/

@[simp] theorem State.upset_pending (us : List (Nat × Nat)) : (s.upset us).pending = s.pending := rfl
@[simp] theorem State.upset_regs (us : List (Nat × Nat)) : (s.upset us).regs = s.regs := rfl
@[simp] theorem State.upset_hiLatch (us : List (Nat × Nat)) : (s.upset us).hiLatch = s.hiLatch := rfl
@[simp] theorem State.upset_mem (us : List (Nat × Nat)) : (s.upset us).mem = s.mem := rfl
@[simp] theorem State.upset_resp (us : List (Nat × Nat)) : (s.upset us).resp = s.resp := rfl
@[simp] theorem State.upset_eng (us : List (Nat × Nat)) : (s.upset us).eng = s.eng := rfl
@[simp] theorem State.upset_sched (us : List (Nat × Nat)) : (s.upset us).sched = s.sched := rfl
@[simp] theorem State.upset_rtr (us : List (Nat × Nat)) : (s.upset us).rtr = s.rtr := rfl
@[simp] theorem State.upset_sig (us : List (Nat × Nat)) : (s.upset us).sig = s.sig := rfl
@[simp] theorem State.upset_tdm (us : List (Nat × Nat)) : (s.upset us).tdm = s.tdm := rfl
@[simp] theorem State.upset_grp (us : List (Nat × Nat)) : (s.upset us).grp = s.grp := rfl
@[simp] theorem State.upset_esc (us : List (Nat × Nat)) : (s.upset us).esc = s.esc := rfl
@[simp] theorem State.upset_avs (us : List (Nat × Nat)) : (s.upset us).avs = s.avs := rfl
@[simp] theorem State.upset_drive (us : List (Nat × Nat)) : (s.upset us).drive = s.drive := rfl
@[simp] theorem State.upset_dpll (us : List (Nat × Nat)) : (s.upset us).dpll = s.dpll := rfl
@[simp] theorem State.upset_net (us : List (Nat × Nat)) : (s.upset us).net = s.net := rfl
@[simp] theorem State.upset_crx (us : List (Nat × Nat)) : (s.upset us).crx = s.crx := rfl
@[simp] theorem State.upset_dram (us : List (Nat × Nat)) : (s.upset us).dram = s.dram := rfl
@[simp] theorem State.upset_ptp (us : List (Nat × Nat)) : (s.upset us).ptp = s.ptp := rfl
@[simp] theorem State.upset_pair (us : List (Nat × Nat)) : (s.upset us).pair = s.pair := rfl
@[simp] theorem State.upset_mtx (us : List (Nat × Nat)) : (s.upset us).mtx = s.mtx := rfl
@[simp] theorem State.upset_ctl (us : List (Nat × Nat)) : (s.upset us).ctl = s.ctl := rfl
@[simp] theorem State.upset_pwr (us : List (Nat × Nat)) : (s.upset us).pwr = s.pwr := rfl
@[simp] theorem State.upset_mon (us : List (Nat × Nat)) : (s.upset us).mon = s.mon := rfl
@[simp] theorem State.upset_twb (us : List (Nat × Nat)) : (s.upset us).twb = s.twb := rfl
@[simp] theorem State.upset_freeCtr (us : List (Nat × Nat)) : (s.upset us).freeCtr = s.freeCtr := rfl

/-! ## clearRegs -/

@[simp] theorem State.clearRegs_pending (p : Nat → Bool) : (s.clearRegs p).pending = s.pending := rfl
@[simp] theorem State.clearRegs_mem (p : Nat → Bool) : (s.clearRegs p).mem = s.mem := rfl
@[simp] theorem State.clearRegs_ecc (p : Nat → Bool) : (s.clearRegs p).ecc = s.ecc := rfl
@[simp] theorem State.clearRegs_resp (p : Nat → Bool) : (s.clearRegs p).resp = s.resp := rfl
@[simp] theorem State.clearRegs_eng (p : Nat → Bool) : (s.clearRegs p).eng = s.eng := rfl
@[simp] theorem State.clearRegs_sched (p : Nat → Bool) : (s.clearRegs p).sched = s.sched := rfl
@[simp] theorem State.clearRegs_rtr (p : Nat → Bool) : (s.clearRegs p).rtr = s.rtr := rfl
@[simp] theorem State.clearRegs_sig (p : Nat → Bool) : (s.clearRegs p).sig = s.sig := rfl
@[simp] theorem State.clearRegs_tdm (p : Nat → Bool) : (s.clearRegs p).tdm = s.tdm := rfl
@[simp] theorem State.clearRegs_grp (p : Nat → Bool) : (s.clearRegs p).grp = s.grp := rfl
@[simp] theorem State.clearRegs_esc (p : Nat → Bool) : (s.clearRegs p).esc = s.esc := rfl
@[simp] theorem State.clearRegs_avs (p : Nat → Bool) : (s.clearRegs p).avs = s.avs := rfl
@[simp] theorem State.clearRegs_drive (p : Nat → Bool) : (s.clearRegs p).drive = s.drive := rfl
@[simp] theorem State.clearRegs_dpll (p : Nat → Bool) : (s.clearRegs p).dpll = s.dpll := rfl
@[simp] theorem State.clearRegs_net (p : Nat → Bool) : (s.clearRegs p).net = s.net := rfl
@[simp] theorem State.clearRegs_crx (p : Nat → Bool) : (s.clearRegs p).crx = s.crx := rfl
@[simp] theorem State.clearRegs_dram (p : Nat → Bool) : (s.clearRegs p).dram = s.dram := rfl
@[simp] theorem State.clearRegs_ptp (p : Nat → Bool) : (s.clearRegs p).ptp = s.ptp := rfl
@[simp] theorem State.clearRegs_pair (p : Nat → Bool) : (s.clearRegs p).pair = s.pair := rfl
@[simp] theorem State.clearRegs_mtx (p : Nat → Bool) : (s.clearRegs p).mtx = s.mtx := rfl
@[simp] theorem State.clearRegs_ctl (p : Nat → Bool) : (s.clearRegs p).ctl = s.ctl := rfl
@[simp] theorem State.clearRegs_pwr (p : Nat → Bool) : (s.clearRegs p).pwr = s.pwr := rfl
@[simp] theorem State.clearRegs_mon (p : Nat → Bool) : (s.clearRegs p).mon = s.mon := rfl
@[simp] theorem State.clearRegs_twb (p : Nat → Bool) : (s.clearRegs p).twb = s.twb := rfl
@[simp] theorem State.clearRegs_freeCtr (p : Nat → Bool) : (s.clearRegs p).freeCtr = s.freeCtr := rfl

/-! ## setLatch -/

@[simp] theorem State.setLatch_pending (p o v : Nat) : (s.setLatch p o v).pending = s.pending := rfl
@[simp] theorem State.setLatch_regs (p o v : Nat) : (s.setLatch p o v).regs = s.regs := rfl
@[simp] theorem State.setLatch_mem (p o v : Nat) : (s.setLatch p o v).mem = s.mem := rfl
@[simp] theorem State.setLatch_ecc (p o v : Nat) : (s.setLatch p o v).ecc = s.ecc := rfl
@[simp] theorem State.setLatch_resp (p o v : Nat) : (s.setLatch p o v).resp = s.resp := rfl
@[simp] theorem State.setLatch_eng (p o v : Nat) : (s.setLatch p o v).eng = s.eng := rfl
@[simp] theorem State.setLatch_sched (p o v : Nat) : (s.setLatch p o v).sched = s.sched := rfl
@[simp] theorem State.setLatch_rtr (p o v : Nat) : (s.setLatch p o v).rtr = s.rtr := rfl
@[simp] theorem State.setLatch_sig (p o v : Nat) : (s.setLatch p o v).sig = s.sig := rfl
@[simp] theorem State.setLatch_tdm (p o v : Nat) : (s.setLatch p o v).tdm = s.tdm := rfl
@[simp] theorem State.setLatch_grp (p o v : Nat) : (s.setLatch p o v).grp = s.grp := rfl
@[simp] theorem State.setLatch_esc (p o v : Nat) : (s.setLatch p o v).esc = s.esc := rfl
@[simp] theorem State.setLatch_avs (p o v : Nat) : (s.setLatch p o v).avs = s.avs := rfl
@[simp] theorem State.setLatch_drive (p o v : Nat) : (s.setLatch p o v).drive = s.drive := rfl
@[simp] theorem State.setLatch_dpll (p o v : Nat) : (s.setLatch p o v).dpll = s.dpll := rfl
@[simp] theorem State.setLatch_net (p o v : Nat) : (s.setLatch p o v).net = s.net := rfl
@[simp] theorem State.setLatch_crx (p o v : Nat) : (s.setLatch p o v).crx = s.crx := rfl
@[simp] theorem State.setLatch_dram (p o v : Nat) : (s.setLatch p o v).dram = s.dram := rfl
@[simp] theorem State.setLatch_ptp (p o v : Nat) : (s.setLatch p o v).ptp = s.ptp := rfl
@[simp] theorem State.setLatch_pair (p o v : Nat) : (s.setLatch p o v).pair = s.pair := rfl
@[simp] theorem State.setLatch_mtx (p o v : Nat) : (s.setLatch p o v).mtx = s.mtx := rfl
@[simp] theorem State.setLatch_ctl (p o v : Nat) : (s.setLatch p o v).ctl = s.ctl := rfl
@[simp] theorem State.setLatch_pwr (p o v : Nat) : (s.setLatch p o v).pwr = s.pwr := rfl
@[simp] theorem State.setLatch_mon (p o v : Nat) : (s.setLatch p o v).mon = s.mon := rfl
@[simp] theorem State.setLatch_twb (p o v : Nat) : (s.setLatch p o v).twb = s.twb := rfl
@[simp] theorem State.setLatch_freeCtr (p o v : Nat) : (s.setLatch p o v).freeCtr = s.freeCtr := rfl

/-! ## setEngine -/

@[simp] theorem State.setEngine_pending (nn : Nat) (e : Engine) : (s.setEngine nn e).pending = s.pending := rfl
@[simp] theorem State.setEngine_regs (nn : Nat) (e : Engine) : (s.setEngine nn e).regs = s.regs := rfl
@[simp] theorem State.setEngine_hiLatch (nn : Nat) (e : Engine) : (s.setEngine nn e).hiLatch = s.hiLatch := rfl
@[simp] theorem State.setEngine_mem (nn : Nat) (e : Engine) : (s.setEngine nn e).mem = s.mem := rfl
@[simp] theorem State.setEngine_ecc (nn : Nat) (e : Engine) : (s.setEngine nn e).ecc = s.ecc := rfl
@[simp] theorem State.setEngine_resp (nn : Nat) (e : Engine) : (s.setEngine nn e).resp = s.resp := rfl
@[simp] theorem State.setEngine_sched (nn : Nat) (e : Engine) : (s.setEngine nn e).sched = s.sched := rfl
@[simp] theorem State.setEngine_rtr (nn : Nat) (e : Engine) : (s.setEngine nn e).rtr = s.rtr := rfl
@[simp] theorem State.setEngine_sig (nn : Nat) (e : Engine) : (s.setEngine nn e).sig = s.sig := rfl
@[simp] theorem State.setEngine_tdm (nn : Nat) (e : Engine) : (s.setEngine nn e).tdm = s.tdm := rfl
@[simp] theorem State.setEngine_grp (nn : Nat) (e : Engine) : (s.setEngine nn e).grp = s.grp := rfl
@[simp] theorem State.setEngine_esc (nn : Nat) (e : Engine) : (s.setEngine nn e).esc = s.esc := rfl
@[simp] theorem State.setEngine_avs (nn : Nat) (e : Engine) : (s.setEngine nn e).avs = s.avs := rfl
@[simp] theorem State.setEngine_drive (nn : Nat) (e : Engine) : (s.setEngine nn e).drive = s.drive := rfl
@[simp] theorem State.setEngine_dpll (nn : Nat) (e : Engine) : (s.setEngine nn e).dpll = s.dpll := rfl
@[simp] theorem State.setEngine_net (nn : Nat) (e : Engine) : (s.setEngine nn e).net = s.net := rfl
@[simp] theorem State.setEngine_crx (nn : Nat) (e : Engine) : (s.setEngine nn e).crx = s.crx := rfl
@[simp] theorem State.setEngine_dram (nn : Nat) (e : Engine) : (s.setEngine nn e).dram = s.dram := rfl
@[simp] theorem State.setEngine_ptp (nn : Nat) (e : Engine) : (s.setEngine nn e).ptp = s.ptp := rfl
@[simp] theorem State.setEngine_pair (nn : Nat) (e : Engine) : (s.setEngine nn e).pair = s.pair := rfl
@[simp] theorem State.setEngine_mtx (nn : Nat) (e : Engine) : (s.setEngine nn e).mtx = s.mtx := rfl
@[simp] theorem State.setEngine_ctl (nn : Nat) (e : Engine) : (s.setEngine nn e).ctl = s.ctl := rfl
@[simp] theorem State.setEngine_pwr (nn : Nat) (e : Engine) : (s.setEngine nn e).pwr = s.pwr := rfl
@[simp] theorem State.setEngine_mon (nn : Nat) (e : Engine) : (s.setEngine nn e).mon = s.mon := rfl
@[simp] theorem State.setEngine_twb (nn : Nat) (e : Engine) : (s.setEngine nn e).twb = s.twb := rfl
@[simp] theorem State.setEngine_freeCtr (nn : Nat) (e : Engine) : (s.setEngine nn e).freeCtr = s.freeCtr := rfl

/-! ## The rest of the state beside the registers -/

theorem State.withRegs_setRg (p o v : Nat) (r : SMap Word) :
    { s.setRg p o v with regs := r } = { s with regs := r } := rfl
theorem State.withRegs_setFld (p o hi lo v : Nat) (r : SMap Word) :
    { s.setFld p o hi lo v with regs := r } = { s with regs := r } := rfl
theorem State.withRegs_setBit (p o i : Nat) (b : Bool) (r : SMap Word) :
    { s.setBit p o i b with regs := r } = { s with regs := r } := rfl

/-! ## Registers, memory and engines under an update of another field -/

@[simp] theorem State.rg_with_pending (x : List Instr) (p o : Nat) :
    State.rg { s with pending := x } p o = s.rg p o := rfl
@[simp] theorem State.rg_with_hiLatch (x : SMap Word) (p o : Nat) :
    State.rg { s with hiLatch := x } p o = s.rg p o := rfl
@[simp] theorem State.rg_with_mem (x : List Host.Cell) (p o : Nat) :
    State.rg { s with mem := x } p o = s.rg p o := rfl
@[simp] theorem State.rg_with_ecc (x : SMap Nat) (p o : Nat) :
    State.rg { s with ecc := x } p o = s.rg p o := rfl
@[simp] theorem State.rg_with_resp (x : Resp) (p o : Nat) :
    State.rg { s with resp := x } p o = s.rg p o := rfl
@[simp] theorem State.rg_with_eng (x : SMap Engine) (p o : Nat) :
    State.rg { s with eng := x } p o = s.rg p o := rfl
@[simp] theorem State.rg_with_sched (x : SchedSt) (p o : Nat) :
    State.rg { s with sched := x } p o = s.rg p o := rfl
@[simp] theorem State.rg_with_rtr (x : RtrSt) (p o : Nat) :
    State.rg { s with rtr := x } p o = s.rg p o := rfl
@[simp] theorem State.rg_with_sig (x : SigSt) (p o : Nat) :
    State.rg { s with sig := x } p o = s.rg p o := rfl
@[simp] theorem State.rg_with_tdm (x : SMap TdmPort) (p o : Nat) :
    State.rg { s with tdm := x } p o = s.rg p o := rfl
@[simp] theorem State.rg_with_grp (x : SMap TdmGrp) (p o : Nat) :
    State.rg { s with grp := x } p o = s.rg p o := rfl
@[simp] theorem State.rg_with_esc (x : EscSt) (p o : Nat) :
    State.rg { s with esc := x } p o = s.rg p o := rfl
@[simp] theorem State.rg_with_avs (x : AvsSt) (p o : Nat) :
    State.rg { s with avs := x } p o = s.rg p o := rfl
@[simp] theorem State.rg_with_drive (x : DriveSt) (p o : Nat) :
    State.rg { s with drive := x } p o = s.rg p o := rfl
@[simp] theorem State.rg_with_dpll (x : DpllSt) (p o : Nat) :
    State.rg { s with dpll := x } p o = s.rg p o := rfl
@[simp] theorem State.rg_with_net (x : NetSt) (p o : Nat) :
    State.rg { s with net := x } p o = s.rg p o := rfl
@[simp] theorem State.rg_with_crx (x : SMap CrxPort) (p o : Nat) :
    State.rg { s with crx := x } p o = s.rg p o := rfl
@[simp] theorem State.rg_with_dram (x : DrcSt) (p o : Nat) :
    State.rg { s with dram := x } p o = s.rg p o := rfl
@[simp] theorem State.rg_with_ptp (x : PtpSt) (p o : Nat) :
    State.rg { s with ptp := x } p o = s.rg p o := rfl
@[simp] theorem State.rg_with_pair (x : PairSt) (p o : Nat) :
    State.rg { s with pair := x } p o = s.rg p o := rfl
@[simp] theorem State.rg_with_mtx (x : MtxSt) (p o : Nat) :
    State.rg { s with mtx := x } p o = s.rg p o := rfl
@[simp] theorem State.rg_with_ctl (x : CtlSt) (p o : Nat) :
    State.rg { s with ctl := x } p o = s.rg p o := rfl
@[simp] theorem State.rg_with_pwr (x : PwrSt) (p o : Nat) :
    State.rg { s with pwr := x } p o = s.rg p o := rfl
@[simp] theorem State.rg_with_mon (x : MonSt) (p o : Nat) :
    State.rg { s with mon := x } p o = s.rg p o := rfl
@[simp] theorem State.rg_with_twb (x : TwbSt) (p o : Nat) :
    State.rg { s with twb := x } p o = s.rg p o := rfl
@[simp] theorem State.rg_with_freeCtr (x : Nat) (p o : Nat) :
    State.rg { s with freeCtr := x } p o = s.rg p o := rfl

@[simp] theorem State.byte_with_pending (x : List Instr) (a : Nat) :
    State.byte { s with pending := x } a = s.byte a := rfl
@[simp] theorem State.byte_with_regs (x : SMap Word) (a : Nat) :
    State.byte { s with regs := x } a = s.byte a := rfl
@[simp] theorem State.byte_with_hiLatch (x : SMap Word) (a : Nat) :
    State.byte { s with hiLatch := x } a = s.byte a := rfl
@[simp] theorem State.byte_with_ecc (x : SMap Nat) (a : Nat) :
    State.byte { s with ecc := x } a = s.byte a := rfl
@[simp] theorem State.byte_with_resp (x : Resp) (a : Nat) :
    State.byte { s with resp := x } a = s.byte a := rfl
@[simp] theorem State.byte_with_eng (x : SMap Engine) (a : Nat) :
    State.byte { s with eng := x } a = s.byte a := rfl
@[simp] theorem State.byte_with_sched (x : SchedSt) (a : Nat) :
    State.byte { s with sched := x } a = s.byte a := rfl
@[simp] theorem State.byte_with_rtr (x : RtrSt) (a : Nat) :
    State.byte { s with rtr := x } a = s.byte a := rfl
@[simp] theorem State.byte_with_sig (x : SigSt) (a : Nat) :
    State.byte { s with sig := x } a = s.byte a := rfl
@[simp] theorem State.byte_with_tdm (x : SMap TdmPort) (a : Nat) :
    State.byte { s with tdm := x } a = s.byte a := rfl
@[simp] theorem State.byte_with_grp (x : SMap TdmGrp) (a : Nat) :
    State.byte { s with grp := x } a = s.byte a := rfl
@[simp] theorem State.byte_with_esc (x : EscSt) (a : Nat) :
    State.byte { s with esc := x } a = s.byte a := rfl
@[simp] theorem State.byte_with_avs (x : AvsSt) (a : Nat) :
    State.byte { s with avs := x } a = s.byte a := rfl
@[simp] theorem State.byte_with_drive (x : DriveSt) (a : Nat) :
    State.byte { s with drive := x } a = s.byte a := rfl
@[simp] theorem State.byte_with_dpll (x : DpllSt) (a : Nat) :
    State.byte { s with dpll := x } a = s.byte a := rfl
@[simp] theorem State.byte_with_net (x : NetSt) (a : Nat) :
    State.byte { s with net := x } a = s.byte a := rfl
@[simp] theorem State.byte_with_crx (x : SMap CrxPort) (a : Nat) :
    State.byte { s with crx := x } a = s.byte a := rfl
@[simp] theorem State.byte_with_dram (x : DrcSt) (a : Nat) :
    State.byte { s with dram := x } a = s.byte a := rfl
@[simp] theorem State.byte_with_ptp (x : PtpSt) (a : Nat) :
    State.byte { s with ptp := x } a = s.byte a := rfl
@[simp] theorem State.byte_with_pair (x : PairSt) (a : Nat) :
    State.byte { s with pair := x } a = s.byte a := rfl
@[simp] theorem State.byte_with_mtx (x : MtxSt) (a : Nat) :
    State.byte { s with mtx := x } a = s.byte a := rfl
@[simp] theorem State.byte_with_ctl (x : CtlSt) (a : Nat) :
    State.byte { s with ctl := x } a = s.byte a := rfl
@[simp] theorem State.byte_with_pwr (x : PwrSt) (a : Nat) :
    State.byte { s with pwr := x } a = s.byte a := rfl
@[simp] theorem State.byte_with_mon (x : MonSt) (a : Nat) :
    State.byte { s with mon := x } a = s.byte a := rfl
@[simp] theorem State.byte_with_twb (x : TwbSt) (a : Nat) :
    State.byte { s with twb := x } a = s.byte a := rfl
@[simp] theorem State.byte_with_freeCtr (x : Nat) (a : Nat) :
    State.byte { s with freeCtr := x } a = s.byte a := rfl

@[simp] theorem State.engine_with_pending (x : List Instr) (nn : Nat) :
    State.engine { s with pending := x } nn = s.engine nn := rfl
@[simp] theorem State.engine_with_regs (x : SMap Word) (nn : Nat) :
    State.engine { s with regs := x } nn = s.engine nn := rfl
@[simp] theorem State.engine_with_hiLatch (x : SMap Word) (nn : Nat) :
    State.engine { s with hiLatch := x } nn = s.engine nn := rfl
@[simp] theorem State.engine_with_mem (x : List Host.Cell) (nn : Nat) :
    State.engine { s with mem := x } nn = s.engine nn := rfl
@[simp] theorem State.engine_with_ecc (x : SMap Nat) (nn : Nat) :
    State.engine { s with ecc := x } nn = s.engine nn := rfl
@[simp] theorem State.engine_with_resp (x : Resp) (nn : Nat) :
    State.engine { s with resp := x } nn = s.engine nn := rfl
@[simp] theorem State.engine_with_sched (x : SchedSt) (nn : Nat) :
    State.engine { s with sched := x } nn = s.engine nn := rfl
@[simp] theorem State.engine_with_rtr (x : RtrSt) (nn : Nat) :
    State.engine { s with rtr := x } nn = s.engine nn := rfl
@[simp] theorem State.engine_with_sig (x : SigSt) (nn : Nat) :
    State.engine { s with sig := x } nn = s.engine nn := rfl
@[simp] theorem State.engine_with_tdm (x : SMap TdmPort) (nn : Nat) :
    State.engine { s with tdm := x } nn = s.engine nn := rfl
@[simp] theorem State.engine_with_grp (x : SMap TdmGrp) (nn : Nat) :
    State.engine { s with grp := x } nn = s.engine nn := rfl
@[simp] theorem State.engine_with_esc (x : EscSt) (nn : Nat) :
    State.engine { s with esc := x } nn = s.engine nn := rfl
@[simp] theorem State.engine_with_avs (x : AvsSt) (nn : Nat) :
    State.engine { s with avs := x } nn = s.engine nn := rfl
@[simp] theorem State.engine_with_drive (x : DriveSt) (nn : Nat) :
    State.engine { s with drive := x } nn = s.engine nn := rfl
@[simp] theorem State.engine_with_dpll (x : DpllSt) (nn : Nat) :
    State.engine { s with dpll := x } nn = s.engine nn := rfl
@[simp] theorem State.engine_with_net (x : NetSt) (nn : Nat) :
    State.engine { s with net := x } nn = s.engine nn := rfl
@[simp] theorem State.engine_with_crx (x : SMap CrxPort) (nn : Nat) :
    State.engine { s with crx := x } nn = s.engine nn := rfl
@[simp] theorem State.engine_with_dram (x : DrcSt) (nn : Nat) :
    State.engine { s with dram := x } nn = s.engine nn := rfl
@[simp] theorem State.engine_with_ptp (x : PtpSt) (nn : Nat) :
    State.engine { s with ptp := x } nn = s.engine nn := rfl
@[simp] theorem State.engine_with_pair (x : PairSt) (nn : Nat) :
    State.engine { s with pair := x } nn = s.engine nn := rfl
@[simp] theorem State.engine_with_mtx (x : MtxSt) (nn : Nat) :
    State.engine { s with mtx := x } nn = s.engine nn := rfl
@[simp] theorem State.engine_with_ctl (x : CtlSt) (nn : Nat) :
    State.engine { s with ctl := x } nn = s.engine nn := rfl
@[simp] theorem State.engine_with_pwr (x : PwrSt) (nn : Nat) :
    State.engine { s with pwr := x } nn = s.engine nn := rfl
@[simp] theorem State.engine_with_mon (x : MonSt) (nn : Nat) :
    State.engine { s with mon := x } nn = s.engine nn := rfl
@[simp] theorem State.engine_with_twb (x : TwbSt) (nn : Nat) :
    State.engine { s with twb := x } nn = s.engine nn := rfl
@[simp] theorem State.engine_with_freeCtr (x : Nat) (nn : Nat) :
    State.engine { s with freeCtr := x } nn = s.engine nn := rfl

end Sys2Proof.Machine
end

