-- ==== Sys2Proof/Laws/Regs.lean ====
section
/-! SUPPORT. What a register, a field and a bit read as after each operation over registers, what a memory byte and an
engine read as after a write, and the canonical form of the collections under each named update. -/

namespace Sys2Proof.Machine

set_option Elab.async false

variable (s : State)

theorem State.rg_lt (p o : Nat) : s.rg p o < 2 ^ 32 := BitVec.isLt _

/-- A register read after one is set. -/
theorem State.rg_setRg (p o v p' o' : Nat) :
    (s.setRg p o v).rg p' o' = if rkey p' o' = rkey p o then v % 2 ^ 32 else s.rg p' o' := by
  simp only [State.rg, State.setRg, smapGet_set, w32]
  split <;> simp

@[simp] theorem State.rg_setRg_self (p o v : Nat) : (s.setRg p o v).rg p o = v % 2 ^ 32 := by simp [State.rg_setRg]

theorem State.rg_setRg_ne {p o v p' o' : Nat} (h : rkey p' o' ≠ rkey p o) : (s.setRg p o v).rg p' o' = s.rg p' o' := by
  simp [State.rg_setRg, h]

theorem State.rg_setFld (p o hi lo v p' o' : Nat) :
    (s.setFld p o hi lo v).rg p' o'
      = if rkey p' o' = rkey p o then putBits (s.rg p o) hi lo v % 2 ^ 32 else s.rg p' o' := State.rg_setRg ..

theorem State.rg_setBit (p o i : Nat) (b : Bool) (p' o' : Nat) :
    (s.setBit p o i b).rg p' o'
      = if rkey p' o' = rkey p o then putBits (s.rg p o) i i (b2n b) % 2 ^ 32 else s.rg p' o' := State.rg_setRg ..

theorem State.fld_setFld_self {p o hi lo v : Nat} (hlo : lo ≤ hi + 1) (hhi : hi < 32) :
    (s.setFld p o hi lo v).fld p o hi lo = v % 2 ^ (hi + 1 - lo) := by
  simp only [State.fld, State.rg_setFld, if_true]
  rw [Nat.mod_eq_of_lt (putBits_lt (s.rg_lt p o) hlo hhi), bitsN_putBits]

theorem State.bit_setBit_self {p o i : Nat} {b : Bool} (hi : i < 32) : (s.setBit p o i b).bit p o i = b := by
  have h := s.fld_setFld_self (p := p) (o := o) (hi := i) (lo := i) (v := b2n b) (by omega) hi
  simp only [State.bit, State.setBit, h]
  cases b <;> simp [b2n]

/-- A field apart from the one set reads as before. -/
theorem State.fld_setFld_ne {p o hi lo v h l : Nat} (hlo : lo ≤ hi + 1) (hhi : hi < 32) (hl : l ≤ h)
    (hd : h < lo ∨ hi < l) : (s.setFld p o hi lo v).fld p o h l = s.fld p o h l := by
  simp only [State.fld, State.rg_setFld, if_true]
  rw [Nat.mod_eq_of_lt (putBits_lt (s.rg_lt p o) hlo hhi)]
  rcases hd with hd | hd
  · exact bitsN_putBits_below hl hd
  · exact bitsN_putBits_above hlo hd

theorem State.bit_setBit_ne {p o i j : Nat} {b : Bool} (hi : i < 32) (h : j ≠ i) :
    (s.setBit p o i b).bit p o j = s.bit p o j := by
  simp only [State.bit, State.setBit]
  rw [s.fld_setFld_ne (by omega) hi (Nat.le_refl _) (by omega)]

theorem State.fld_setRg_ne {p o v p' o' : Nat} (hi lo : Nat) (h : rkey p' o' ≠ rkey p o) :
    (s.setRg p o v).fld p' o' hi lo = s.fld p' o' hi lo := by simp [State.fld, s.rg_setRg_ne h]

theorem State.bit_setRg_ne {p o v p' o' : Nat} (i : Nat) (h : rkey p' o' ≠ rkey p o) :
    (s.setRg p o v).bit p' o' i = s.bit p' o' i := by simp [State.bit, s.fld_setRg_ne _ _ h]

@[simp] theorem State.rg_ok (p o : Nat) : s.ok.rg p o = s.rg p o := rfl
@[simp] theorem State.fld_ok (p o h l : Nat) : s.ok.fld p o h l = s.fld p o h l := rfl
@[simp] theorem State.bit_ok (p o i : Nat) : s.ok.bit p o i = s.bit p o i := rfl
@[simp] theorem State.rg_setEngine (nn : Nat) (e : Engine) (p o : Nat) : (s.setEngine nn e).rg p o = s.rg p o := rfl

/-! ## Memory bytes and engines -/

theorem State.byte_setByte (a : Nat) (b : Byte) (x : Nat) :
    (s.setByte a b).byte x = if x = a then b else s.byte x := by simp [State.byte, State.setByte, smapGet_set]

theorem State.engine_setEngine (nn : Nat) (e : Engine) (m : Nat) :
    (s.setEngine nn e).engine m = if m = nn then e else s.engine m := by
  simp [State.engine, State.setEngine, smapGet_set]

@[simp] theorem State.engine_setEngine_self (nn : Nat) (e : Engine) : (s.setEngine nn e).engine nn = e := by
  simp [State.engine_setEngine]

theorem foldl_set_get (bs : List Byte) (a x n : Nat) (m : List Host.Cell) :
    smapGet zeroB ((List.range n).foldl (fun m i => smapSet zeroB m (a + i) (bs.getD i 0)) m) x
      = if a ≤ x ∧ x < a + n then bs.getD (x - a) 0 else smapGet zeroB m x := by
  induction n with
  | zero => simp
  | succ n ih =>
    rw [List.range_succ, List.foldl_append, List.foldl_cons, List.foldl_nil, smapGet_set, ih]
    by_cases h1 : x = a + n
    · subst h1; simp
    · by_cases h2 : a ≤ x ∧ x < a + n
      · simp [h1, h2, show x < a + (n + 1) by omega]
      · have : ¬ (a ≤ x ∧ x < a + (n + 1)) := by omega
        simp [h1, h2, this]

/-- A store puts its bytes from its address on and leaves every other byte alone. -/
theorem State.byte_store (a : Nat) (bs : List Byte) (x : Nat) :
    (s.store a bs).byte x = if a ≤ x ∧ x < a + bs.length then bs.getD (x - a) 0 else s.byte x :=
  foldl_set_get bs a x bs.length s.mem

/-! ## The canonical form -/

theorem State.setRg_regsWf {p o v : Nat} (h : smapWf resetWord s.regs = true) :
    smapWf resetWord (s.setRg p o v).regs = true := smapWf_set h
theorem State.setByte_memWf {a : Nat} {b : Byte} (h : smapWf zeroB s.mem = true) :
    smapWf zeroB (s.setByte a b).mem = true := smapWf_set h
theorem State.store_memWf {a : Nat} {bs : List Byte} (h : smapWf zeroB s.mem = true) :
    smapWf zeroB (s.store a bs).mem = true := smapWf_foldl_set _ _ _ h
theorem State.eraseMem_memWf {p : Nat → Bool} (h : smapWf zeroB s.mem = true) :
    smapWf zeroB (s.eraseMem p).mem = true := smapWf_keep (fun k => !p k) h
theorem State.eraseMem_eccWf {p : Nat → Bool} (h : smapWf zeroN s.ecc = true) :
    smapWf zeroN (s.eraseMem p).ecc = true := smapWf_keep (fun k => !p k) h
theorem State.setEcc_eccWf {g a k : Nat} (h : smapWf zeroN s.ecc = true) :
    smapWf zeroN (s.setEcc g a k).ecc = true := smapWf_set h
theorem State.upset_eccWf {us : List (Nat × Nat)} (h : smapWf zeroN s.ecc = true) :
    smapWf zeroN (s.upset us).ecc = true := smapWf_foldl_set _ _ _ h
theorem State.clearRegs_regsWf {p : Nat → Bool} (h : smapWf resetWord s.regs = true) :
    smapWf resetWord (s.clearRegs p).regs = true := smapWf_keep (fun k => !p k) h
theorem State.clearRegs_latchWf {p : Nat → Bool} (h : smapWf resetWord s.hiLatch = true) :
    smapWf resetWord (s.clearRegs p).hiLatch = true := smapWf_keep (fun k => !p k) h
theorem State.setLatch_latchWf {p o v : Nat} (h : smapWf resetWord s.hiLatch = true) :
    smapWf resetWord (s.setLatch p o v).hiLatch = true := smapWf_set h

end Sys2Proof.Machine
end

