-- ==== Sys2Proof/Laws/Guards.lean ====
section
/-! SUPPORT. What a guarded access, a conditional event, an interrupt flag and an engine step come to. -/

namespace Sys2Proof.Machine

set_option Elab.async false

variable (s : State)

theorem onlyIf_true {c : Bool} {f : State → State} (h : c = true) : onlyIf c f s = f s := by simp [onlyIf, h]
theorem onlyIf_false {c : Bool} {f : State → State} (h : c = false) : onlyIf c f s = s := by simp [onlyIf, h]

/-- Where no request is outstanding, none is outstanding at any port. -/
theorem State.outPorts_clear (h : s.clear = true) (c : Nat) : s.outPorts c = [] := by
  simp only [State.clear, Bool.and_eq_true, List.all_eq_true, Option.isNone_iff_eq_none] at h
  obtain ⟨⟨⟨-, h1⟩, h2⟩, h3⟩ := h
  simp only [State.outPorts, List.append_eq_nil_iff, List.map_eq_nil_iff, List.filter_eq_nil_iff]
  exact ⟨⟨fun r hr => by simp [h1 r hr], fun r hr => by simp [h2 r hr]⟩, fun r hr => by simp [h3 r hr]⟩

/-- Where no request is outstanding or held back, an access is made at once. -/
theorem State.inTurn_clear {mid id port : Nat} {q : State → Bool} {f : State → State} (h : s.clear = true) :
    State.inTurn mid id port q f s = f s := by
  have hm : s.mtx.held = [] := by simp only [State.clear, Bool.and_eq_true, List.isEmpty_iff] at h; exact h.1.1.1
  cases hc : chanOf mid id with
  | none => simp [State.inTurn, hc]
  | some c => simp [State.inTurn, hc, State.outPorts_clear s h, State.holdEnd, hm]

/-- A master without a channel never waits. -/
theorem State.inTurn_free {mid id port : Nat} {q : State → Bool} {f : State → State} (h : chanOf mid id = none) :
    State.inTurn mid id port q f s = f s := by simp [State.inTurn, h]

/-- A write that the page admits is what the block does with it. -/
theorem State.guarded_pass {page off mid : Nat} {stops : Bool} {f : State → State} (h : s.admits page off stops) :
    s.guarded page off mid stops f = f s.ok := by
  simp [State.guarded, h.1, h.2.1, State.inTurn_clear s h.2.2]

theorem State.guarded_unreleased {page off mid : Nat} {stops : Bool} {f : State → State}
    (h : s.pwr.released = false) : s.guarded page off mid stops f = s := by simp [State.guarded, h]

theorem State.guarded_refuse {page off mid : Nat} {stops : Bool} {f : State → State} (h : s.pwr.released = true)
    (g : s.guard page off stops = .refuse) (c : s.clear = true) :
    s.guarded page off mid stops f = s.refuseAccess page off mid true 4 := by
  simp [State.guarded, h, g, State.inTurn_clear s c]

theorem State.guarded_default {page off mid : Nat} {stops : Bool} {f : State → State} (h : s.pwr.released = true)
    (g : s.guard page off stops = .default) (c : s.clear = true) :
    s.guarded page off mid stops f = s.defaultTarget (regAddr page off) mid true false 4 := by
  simp [State.guarded, h, g, State.inTurn_clear s c]

/-- A register of the common head is admitted wherever the page answers. -/
theorem State.admits_head {page off : Nat} {stops : Bool} (h : s.pwr.released = true) (hr : s.reachable page off = true)
    (ho : off < 0x100) (c : s.clear = true) : s.admits page off stops := by
  refine ⟨h, ?_, c⟩
  simp [State.guard, hr, ho]

theorem State.guardRead_pass {page off mid : Nat} {r : State → Nat} {f : State → State} (h : s.readable page off) :
    s.guardRead page off mid r f = f s := by
  simp [State.guardRead, h.1, h.2.1, h.2.2.1, State.inTurn_clear s h.2.2.2]

theorem State.withLost_same {f : State → State} (h : (f s).dpllState = s.dpllState) : State.withLost f s = f s := by
  simp [State.withLost, h]

/-! ## Frames -/

theorem sameRegs_refl (l : List Nat) : SameRegs s s l := fun _ _ _ => rfl

/-- Setting a listed register keeps a frame of registers. -/
theorem sameRegs_setRg {t : State} {l : List Nat} {p o v : Nat} (h : SameRegs s t l) (hm : rkey p o ∈ l) :
    SameRegs s (t.setRg p o v) l := by
  intro p' o' hn
  rw [State.rg_setRg_ne _ (fun he => hn (by rw [he]; exact hm))]
  exact h _ _ hn

theorem sameRegs_of_regs {t u : State} {l : List Nat} (h : SameRegs s t l) (hr : u.regs = t.regs) : SameRegs s u l := by
  intro p o hn
  rw [← h p o hn, State.rg, State.rg, hr]

theorem sameMem_of_mem {t : State} (h : t.mem = s.mem) : SameMem s t := by
  intro a; rw [State.byte, State.byte, h]

/-! ## Interrupt flags: what stays -/

theorem State.msix_regs_ne {v page off : Nat} (h : rkey page off ≠ rkey pgPcie (Off.pciePBA + 4 * (v / 32))) :
    (s.msix v).rg page off = s.rg page off := by
  unfold State.msix
  split
  · rfl
  · split
    · simp [State.rg_setBit, h]
    · rfl

/-- Outside QUIET a page whose block is enabled raises events, and so does one of no gated domain. -/
theorem State.raises_mode {page : Nat} (he : s.pageEn page = true) (hm : s.mode ≠ 3) : s.raises page = true := by
  simp [State.raises, State.gated, he, hm]
theorem State.raises_on {page : Nat} (he : s.pageEn page = true) (hd : domainOf page < 4) : s.raises page = true := by
  simp [State.raises, State.gated, he, Nat.not_le.mpr hd]

/-- INT_RAW after hardware sets bits of it, on a page whose block raises events. -/
theorem State.setInt_raw {page bits : Nat} (he : s.raises page = true) (hp : page < 256) :
    (s.setInt page bits).rg page Off.headINT_RAW = (s.rg page Off.headINT_RAW ||| bits) % 2 ^ 32 := by
  have hk : rkey page Off.headINT_RAW ≠ rkey pgPcie (Off.pciePBA + 4 * (msixVector page / 32)) := by
    simp only [rkey, msixVector, Off.headINT_RAW, Off.pciePBA, pgPcie]
    split <;> omega
  simp only [State.setInt, he]
  simp only [Bool.not_true, Bool.false_eq_true, if_false]
  split
  · rw [State.msix_regs_ne _ hk]; simp [State.orRg]
  · simp [State.orRg]

/-! ## Engine steps -/

theorem State.upset_nil : s.upset [] = s := rfl

/-- A step that the engine can take, of the command's instruction, is what that instruction does. -/
theorem State.engStep_at {nn : Nat} {i : EngInstr} {is : EngInstr → Bool} {f : EngInstr → State → State}
    (h : s.atInstr nn i) (hi : is i = true) : s.engStep nn [] is f = f i s := by
  obtain ⟨h1, h2, h3, h4⟩ := h
  simp [State.engStep, State.upset_nil, h1, h2, h3, State.fetched, h4, hi, State.withFetchCe]

end Sys2Proof.Machine
end

