-- ==== Sys2Proof/Laws/Idle.lean ====
section
/-! SUPPORT. What the passing of one raw count can do: each part of the idle step changes one field of the state. -/

namespace Sys2Proof.Machine

variable (s : State)

theorem PtpSt.count_raw (p : PtpSt) : p.count.raw = (p.raw + 1) % 2 ^ 64 := by
  cases h : p.commit <;> simp [PtpSt.count, h]

theorem PtpSt.count_rate (p : PtpSt) : p.count.commit = none ∧ p.count.rate = p.commit.getD p.rate := by
  cases h : p.commit <;> simp [PtpSt.count, h]

theorem PtpSt.count_offset {p : PtpSt} (h : p.commit = none) (h' : p.step = none) : p.count.offset = p.offset := by
  simp [PtpSt.count, h, h']

/-- Without a step a raw count changes the time base alone. -/
theorem State.timeCount_eq (h : s.ptp.step = none) : s.timeCount = { s with ptp := s.ptp.count } := by
  simp [State.timeCount, h]

theorem State.dpllCount_dpll :
    ∃ d, s.dpllCount = { s with dpll := d } ∧ (s.dpllState ≠ 2 → d.record = s.dpll.record) :=
  ⟨_, rfl, fun h => if_neg h⟩

theorem State.wdogTick_eq :
    s.wdogTick = { s with ctl := if s.wdCounts then { s.ctl with wdLeft := s.ctl.wdLeft - 1 } else s.ctl } := by
  unfold State.wdogTick; split <;> simp_all

/-- Ports given new states by a function of what they read. -/
theorem State.forEach_setMac (f : State → Nat → MacSt) (l : List Nat) :
    ∀ s : State, ∃ n, forEach l (fun p st => st.setMac p (f st p)) s = { s with net := n }
      ∧ ∀ p, p ∉ l → smapGet macReset n.mac p = s.mac p := by
  induction l with
  | nil => exact fun s => ⟨s.net, rfl, fun _ _ => rfl⟩
  | cons q l ih =>
    intro s
    obtain ⟨n, h, hp⟩ := ih (s.setMac q (f s q))
    refine ⟨n, h, fun p hpl => ?_⟩
    rw [List.mem_cons, not_or] at hpl
    rw [hp p hpl.2]
    exact smapGet_set_ne _ _ _ _ _ hpl.1

/-- The shapers change transmit credits of ports with a slope alone. -/
theorem State.shapers_net : ∃ n, s.shapers = { s with net := n }
    ∧ ∀ p, (s.slope p 5 = 0 ∧ s.slope p 6 = 0) → smapGet macReset n.mac p = s.mac p := by
  obtain ⟨n, h, hp⟩ := State.forEach_setMac
    (fun st p => { st.mac p with credit5 := st.creditNext p 5, credit6 := st.creditNext p 6 })
    ((List.range 4).filter (fun p => s.macEn p && (s.slope p 5 != 0 || s.slope p 6 != 0))) s
  refine ⟨n, h, fun p hz => hp p ?_⟩
  simp [hz.1, hz.2]

end Sys2Proof.Machine
end

