-- ==== Sys2Proof/Laws/Lanes.lean ====
section
/-! SUPPORT. What the scrambler of the Carix lanes promises (R310). -/

namespace Sys2Proof.Machine

/-- Received with the scrambler's own history, the bits come back. -/
theorem descramble_scramble (st bs : List Bool) : descramble st (scramble st bs) = bs := by
  induction bs generalizing st with
  | nil => rfl
  | cons b bs ih =>
    have h (x y z : Bool) : (x ^^ y ^^ z ^^ y ^^ z) = x := by cases x <;> cases y <;> cases z <;> rfl
    simp only [scramble, descramble, ih, h]

/-- The scrambler is self-synchronising: a receiver whose history is any at all has the right one after 58 bits. -/
theorem descramble_take (st st' xs : List Bool) (h : st.take 58 = st'.take 58) :
    descramble st xs = descramble st' xs := by
  have g (k : Nat) (hk : k < 58) : st.getD k false = st'.getD k false := by
    have := congrArg (fun l => l[k]?) h
    simpa [List.getElem?_take, hk, List.getD_eq_getElem?_getD] using congrArg (fun o => o.getD false) this
  induction xs generalizing st st' with
  | nil => rfl
  | cons x xs ih =>
    have hx : ((x :: st).take 58) = ((x :: st').take 58) := by
      have := congrArg (List.take 57) h
      simp [List.take_take] at this
      simp [this]
    simp only [descramble]
    rw [g 38 (by decide), g 57 (by decide), hx]

end Sys2Proof.Machine
end

