-- ==== Sys2Proof/Tests/Slice0.lean ====
section
/-! SUPPORT. Tests on small states: ill-formed commands that the check refuses, and for every statement with hypotheses
a state and operands that meet them. -/

namespace Sys2Proof.Tests

set_option Elab.async false

open Sys2Proof.Machine

/-- A state with registers set (page, offset, value), from the reset state. -/
def mk (rs : List (Nat × Nat × Nat)) : State := rs.foldl (fun s r => s.setRg r.1 r.2.1 r.2.2) State.reset

/-- A running unit: mode RUN, every domain powered. -/
def mkRun (rs : List (Nat × Nat × Nat)) : State :=
  mk ((pgPwr, Off.pwrMODE, 1) :: (pgPwr, Off.pwrDOMAINS, 0x7FF) :: rs)

/-- The next state of an outcome. -/
def nx (o : Host.Outcome State Fault Refusal) : State :=
  match o with
  | .next t => t
  | _ => State.reset

/-- A decidable reading of the premise of the instruction statements. -/
def atWord (s : State) (i : EngInstr) : Bool :=
  s.canStep (s.engine 3) && decide ((s.engine 3).pc < 12288) && s.fetchMark 3 == 0
    && decEng ((s.engine 3).instr (s.engine 3).pc) == some i

/-- Without SAT, truncating. -/
def h0 : Hd := ⟨false, .trunc⟩

/-- No bus read and no write. -/
def pOff : PFields := ⟨false, .off, .off, .off⟩

/-! ## Ill-formed commands -/

theorem test_wf_ok : (Instr.registerWrite 3 0x100 4 7 2 {}).wf = true ∧ (Instr.lr 0 0x10000).wf = true
    ∧ (Instr.beatDeadline 1).wf = true := by decide

theorem test_wf_word : (Instr.registerWrite 3 0x100 4 0x100000000 2 {}).wf = false
    ∧ (Instr.supplyReading 0 0x100000000).wf = false := by decide

theorem test_wf_master : (Instr.captureRelease 3 0 256).wf = false := by decide

theorem test_wf_size : (Instr.registerWrite 3 0x100 0 7 2 {}).wf = false
    ∧ (Instr.defaultTargetAccess 0 2 true false 0).wf = false := by decide

theorem test_wf_addr : (Instr.lr 0 0x10000000000).wf = false ∧ (Instr.sc 0 0x10000000000 1).wf = false := by decide

theorem test_wf_upsets : (Instr.beatBarrier [(0, 3)]).wf = false := by decide

theorem test_wf_beat : (Instr.beatDeadline 0).wf = false ∧ (Instr.beatDeadline 16).wf = false
    ∧ (Instr.endBeat 0 [] ⟨2 ^ 32, 0, false, []⟩).wf = false := by decide

theorem test_wf_offset : (Instr.engineWindowWrite 0 0x100000 [] 2).wf = false ∧ (Instr.dphyDelayWrite 4096 0 2).wf = false
    ∧ (Instr.tsetWrite 4096 0 2).wf = false ∧ (Instr.softSwitchTimeout 16384).wf = false := by decide

theorem test_wf_request : (Instr.dramRequest [⟨256, 0, false, 0x80000000, 4, [], 0, false⟩] false 0 []).wf = false := by decide

theorem test_wf_strap : (Instr.pinReset ⟨4, false, [], []⟩).wf = false ∧ (Instr.twbWakeMatch 128).wf = false := by decide

theorem test_w_idle : (mkRun []).pending = [] ∧ (mkRun []).mode ≠ 4 ∧ (mkRun []).ptp.step = none ∧ (mk [(pgPwr, Off.pwrMODE, 4)]).mode = 4 := by
  decide +kernel

/-- A unit with a captured error of page AVS, two flags set there and one enabled. -/
def sHead : State :=
  mkRun [(pgAvs, Off.headINT_RAW, 3), (pgAvs, Off.headINT_EN, 1), (pgAvs, Off.headERR_CLASS, 2),
    (pgAvs, Off.headERR_ADDR_LO, 5), (pgPcie, Off.pcieMSIX + 16 * 3 + 12, 0)]

/-- Vector 3 masked with its pending bit set. -/
def sMasked : State := mkRun [(pgAvs, Off.headINT_RAW, 1), (pgAvs, Off.headINT_EN, 1), (pgPcie, Off.pciePBA, 8)]

theorem test_w_head : sHead.pwr.released = true ∧ sHead.clear = true ∧ sHead.reachable 3 Off.headINT_RAW = true ∧ sHead.raises 3 = true
    ∧ sHead.reachable 3 0x102 = true ∧ sHead.pageLocked 3 = false
    ∧ (nx (exec (.intRawWrite 3 2 0 0) sHead)).line 3 = true
    ∧ (nx (exec (.intRawWrite 3 1 0 0) sHead)).line 3 = false
    ∧ sHead.bit pgPcie (Off.pcieMSIX + 16 * 3 + 12) 0 = false := by decide +kernel

theorem test_w_held : (mk [(3, Off.headPAGE_CTL, 0)]).pageEn 3 = false ∧ bitN 1 0 = true ∧ bitN 2 1 = true
    ∧ bitN 5 2 = true ∧ bitN 5 0 = true ∧ bitN 5 1 = false ∧ (mk []).pageEn 3 = true
    ∧ (mk [(3, Off.headPAGE_CTL, 0)]).reachable 3 Off.headPAGE_CTL = true := by decide +kernel

theorem test_w_ref : (mk [(pgRef, Off.headPAGE_CTL, 0), (pgPtp, Off.ptpSTAT, 2)]).pageEn pgRef = false
    ∧ (mk [(pgRef, Off.headPAGE_CTL, 0), (pgPtp, Off.ptpSTAT, 2)]).timeQual = 2 ∧ pageKind pgSens = .sens := by
  decide +kernel

theorem test_w_plain : (mk []).guard pgStore 0x100 false = .pass ∧ (mkRun []).guard pgGain 0xFFC false = .pass
    ∧ (mk []).guard pgRst 0x10C false = .pass ∧ (mk []).pwr.released = true ∧ (mk []).clear = true
    ∧ isPairLo pgEsc Off.escTICK_LO = true ∧ (mk []).reachable pgEsc Off.escTICK_LO = true
    ∧ (mk []).pageEn pgEsc = true ∧ (mk []).reachable pgPtp Off.ptpRAW_LO = true ∧ (mk []).pageEn pgPtp = true := by
  decide +kernel

theorem test_w_msix : sMasked.guard pgPcie (Off.pcieMSIX + 16 * 3 + 12) false = .pass
    ∧ sMasked.bit pgPcie (Off.pcieMSIX + 16 * 3 + 12) 0 = true ∧ sMasked.bit pgPcie Off.pciePBA 3 = true
    ∧ pageKind 3 ≠ .none ∧ sMasked.line 3 = true := by decide +kernel

/-- R4: a flag that hardware sets while software clears it reads 1; R8: a reserved bit is never set. -/
theorem test_int_raw_hardware_wins : (nx (exec (.intRawWrite 3 3 5 0) sHead)).rg 3 Off.headINT_RAW = 1 := by
  decide +kernel

theorem test_capture_release : (nx (exec (.captureRelease 3 0 0) sHead)).rg 3 Off.headERR_ADDR_LO = 0 := by
  decide +kernel

theorem test_msix_unmask : (nx (exec (.msixUnmask 3 0 0) sMasked)).ctl.msixSent = [3] := by decide +kernel

/-- The loop started in RUN, closed, with a complete window; one boundary placed. -/
def sEsc : State :=
  { mkRun [(pgAvs, Off.avsCTL, 1), (pgAvs, Off.avsSTAT, 8), (pgEsc, Off.escSTAT, 2)] with
    sig := { due := [[]] }
    avs := { started := true, winOpen := true, winCnt := 96, winMin := 100, holdEnd := true } }

/-- A tick in the fabric, in beat 1, with engine 3 not through it. -/
def sTick : State := { sEsc with esc := { tickOpen := true, running := 5, xfers := 1 } }

theorem test_w_escapement : (mkRun []).boundaryOk = true ∧ (mkRun []).dpll.adopt = none
    ∧ sEsc.boundaryDue = true ∧ sEsc.esc.tickOpen = false ∧ sEsc.fabStopped = false ∧ sEsc.landingDue = false
    ∧ sEsc.pair.takeoverDue = false ∧ sEsc.bit pgEsc Off.escSTAT 5 = false
    ∧ sTick.beat = 1 ∧ sTick.barrierMet 1 = true ∧ 1 ≤ sTick.beatsN
    ∧ (nx (exec (.beatBarrier []) sTick)).beat = 0 ∧ (nx (exec (.beatBarrier []) sTick)).esc.xfers = 2
    ∧ ((sTick.setEngine 3 { st := .running }).engine 3).st = .running
    ∧ sEsc.guard pgEsc Off.escCTL false = .pass := by decide +kernel

theorem test_w_loop : sEsc.avsLoop = true ∧ sEsc.fld pgAvs Off.avsPERIOD 15 0 ≤ sEsc.avs.winCnt
    ∧ sEsc.esc.ovrInTick = false ∧ sEsc.bit pgAvs Off.avsSTAT 3 = true ∧ sEsc.avs.txn = none
    ∧ (nx (exec .avsWindowEnd sEsc)).avs.txn = some (760, 3)
    ∧ ((760 : Int) - 755).natAbs ≤ 10 ∧ 10 < ((760 : Int) - 700).natAbs
    ∧ ({ sEsc.avs with txn := some (760, 0) } : AvsSt).txn = some (760, 0)
    ∧ sEsc.guard pgAvs Off.avsCTL false = .pass ∧ sEsc.guard pgAvs Off.avsV_CMD false = .pass
    ∧ (mkRun []).avsEn = false ∧ (mkRun []).mode = 1 ∧ (mkRun []).guard pgAvs Off.avsCTL false = .pass
    ∧ (mk [(pgAvs, Off.avsSTAT, 4)]).bit pgAvs Off.avsSTAT 2 = true ∧ sEsc.avsFixed = false
    ∧ (mk [(pgAvs, Off.avsCTL, 3)]).avsFixed = true ∧ (mk [(pgAvs, Off.avsCTL, 3)]).avsEn = true := by decide +kernel

/-- R40: slack fraction 100 lies below the target 128, so the loop raises 750 mV by 10 mV. -/
theorem test_window_raises : (nx (exec .avsWindowEnd sEsc)).rg pgAvs Off.avsV_CMD = 760 := by decide +kernel

/-- R33: a late engine is detached. -/
theorem test_deadline : ((nx (exec (.beatDeadline 1) (sTick.setEngine 3 { st := .running }))).engine 3).st = .detached := by
  decide +kernel

/-- Engine 3 in beat 1 of a tick, at the word w, with D0 = 7, D1 = 5, X0 = 2^30, Y0 = 2^30. -/
def sEng (w : Nat) : State :=
  { (mkRun [(pgEsc, Off.escSTAT, 2), (pgSched, Off.schedRATE, 0x13)]).setEngine 3
      { st := .running, d := [(0, 7), (1, 5)], x0 := 0x40000000, y0 := 0x40000000, pm := [(0, w)] } with
    esc := { tickOpen := true, running := 1, xfers := 1 } }

/-- The words of the instructions below, written out from the encoding tables: OP at bit 58, DD at 51, DA at 47, DB at
43, DC or the condition at 39. -/
theorem test_decode_alu :
    decEng (0x10 * 2 ^ 58 + 2 * 2 ^ 51 + 0 * 2 ^ 47 + 1 * 2 ^ 43) = some (.alu2 .add h0 2 0 (.dreg 1) false .off)
    ∧ decEng (0x1A * 2 ^ 58 + 2 * 2 ^ 51 + 1 * 2 ^ 47) = some (.absI h0 2 1 false .off)
    ∧ decEng (0x1C * 2 ^ 58 + 2 * 2 ^ 51 + 1 * 2 ^ 43 + 4 * 2 ^ 39) = some (.cmp h0 2 0 (.dreg 1) 4 false .off)
    ∧ decEng (0x1E * 2 ^ 58 + 3 * 2 ^ 51 + 24 * 2 ^ 34 + 2 ^ 32) = some (.movxFrom h0 3 .sx false .off) := by decide

theorem test_decode_others :
    decEng (0x01 * 2 ^ 58 + 3 * 2 ^ 50) = some (.mac .s h0 ⟨false, false, 3⟩ ⟨false, .off, .off, .off⟩)
    ∧ decEng (0x22 * 2 ^ 58 + 5 * 2 ^ 51 + 9) = some (.ldi h0 5 9)
    ∧ decEng (0x21 * 2 ^ 58 + 2 * 2 ^ 43 + 4 * 2 ^ 27) = some (.rep h0 2 4)
    ∧ decEng (0x20 * 2 ^ 58) = some (.endBeat h0) ∧ decEng 0 = some (.nop h0)
    ∧ decEng (0x3F * 2 ^ 58) = none ∧ decEng 1 = none := by decide

theorem test_w_alu : atWord (sEng (encEng (.alu2 .add h0 2 0 (.dreg 1) false .off))) (.alu2 .add h0 2 0 (.dreg 1) false .off)
    ∧ atWord (sEng (encEng (.absI h0 2 1 false .off))) (.absI h0 2 1 false .off)
    ∧ atWord (sEng (encEng (.negI h0 2 1 false .off))) (.negI h0 2 1 false .off)
    ∧ atWord (sEng (encEng (.cmp h0 2 0 (.dreg 1) 4 false .off))) (.cmp h0 2 0 (.dreg 1) 4 false .off)
    ∧ atWord (sEng (encEng (.sel h0 2 0 1 0 5 false .off))) (.sel h0 2 0 1 0 5 false .off) := by decide +kernel

theorem test_w_accumulators :
    atWord (sEng (encEng (.mac .q h0 ⟨true, false, 4⟩ pOff))) (.mac .q h0 ⟨true, false, 4⟩ pOff)
    ∧ atWord (sEng (encEng (.mov h0 pOff))) (.mov h0 pOff)
    ∧ atWord (sEng (encEng (.accLd h0 true 7 true pOff))) (.accLd h0 true 7 true pOff)
    ∧ atWord (sEng (encEng (.accAdd h0 false 0 false pOff))) (.accAdd h0 false 0 false pOff)
    ∧ atWord (sEng (encEng (.accMov h0 1 0 true pOff))) (.accMov h0 1 0 true pOff)
    ∧ atWord (sEng (encEng (.accSh h0 1 31 pOff))) (.accSh h0 1 31 pOff) := by decide +kernel

theorem test_w_plain_instructions : atWord (sEng 0) (.nop h0)
    ∧ atWord (sEng (encEng (.ldi h0 5 9))) (.ldi h0 5 9)
    ∧ atWord (sEng (encEng (.setptr h0 1 2 3 32767 true true true))) (.setptr h0 1 2 3 32767 true true true)
    ∧ atWord (sEng (encEng (.grampI h0 7 0 16777215))) (.grampI h0 7 0 16777215)
    ∧ atWord (sEng (encEng (.grampR h0 0 0 1))) (.grampR h0 0 0 1)
    ∧ atWord (sEng (encEng (.movxFrom h0 3 .sx false .off))) (.movxFrom h0 3 .sx false .off)
    ∧ atWord (sEng (encEng (.movxTo h0 0 (.w 7) false .off))) (.movxTo h0 0 (.w 7) false .off) := by decide +kernel

theorem test_w_rep : atWord (sEng (encEng (.rep h0 2 4))) (.rep h0 2 4) ∧ ((sEng 0).engine 3).loops = []
    ∧ ((sEng 0).engine 3).pc + 2 + 1 < 12288
    ∧ (let s := sEng (encEng (.endBeat h0))
       let s2 : State := { s with sched := { s.sched with a := { beats := 2 } } }
       atWord s2 (.endBeat h0) = true ∧ (s2.engine 3).mp = [] ∧ (s2.engine 3).ended + 1 < s2.beatsN)
    ∧ (sEng 1).canStep ((sEng 1).engine 3) = true ∧ (sEng 1).fetchMark 3 = 0
    ∧ decEng (((sEng 1).engine 3).instr 0) = none := by decide +kernel

/-- Engine 3 at END_BEAT of its only beat, with ramp unit 1 two samples from its target and one start waiting. -/
def sLast (mp : List MpEntry) (loops : List Loop) : State :=
  let s := sEng (encEng (.endBeat h0))
  s.setEngine 3 { s.engine 3 with
    mp := mp, loops := loops, gv := [(1, 10)], gt := [(1, 20)], gs := [(1, 5)], gc := [(1, 2)], gramps := [(0, -7, 3)] }

theorem test_w_end_beat : atWord (sLast [] []) (.endBeat h0) = true ∧ ((sLast [] []).engine 3).ended + 1 = (sLast [] []).beatsN
    ∧ atWord (sLast [⟨true, [], [], 1, 12, false⟩] []) (.endBeat h0) = true
    ∧ atWord (sLast [] [⟨0, 5, 2⟩]) (.endBeat h0) = true
    ∧ (let s := sEng (encEng (.rep h0 2 4))
       let s2 := s.setEngine 3 { s.engine 3 with loops := [⟨0, 1, 1⟩] }
       atWord s2 (.rep h0 2 4) = true)
    ∧ (let w : PFields := { pOff with wf := .on (.dreg 2) (.acc 0 0) }
       atWord (sEng (encEng (.mov h0 w))) (.mov h0 w) = true) := by decide +kernel

/-- R72: two samples from the target, a tick of four ends the ramp there. -/
theorem test_ramp_ends : ((nx (exec (.endBeat 3 [] ⟨0, 0, false, []⟩) (sLast [] []))).engine 3).gainV 1 = 20
    ∧ ((nx (exec (.endBeat 3 [] ⟨0, 0, false, []⟩) (sLast [] []))).engine 3).gainS 0 = -2 := by decide +kernel

/-- R66: a buffer of 5 words from address 8 on wraps to its start; R62: the ties of the rounding modes. -/
theorem test_wrap_and_rounding : wrapadd 5 12 1 = 8 ∧ wrapadd 5 8 (-1) = 12 ∧ wrapadd 0 0 (-1) = 131071
    ∧ (storeAcc (5 * 2 ^ 30) 0 ⟨false, .conv⟩).1 = 2 ∧ (storeAcc (7 * 2 ^ 30) 0 ⟨false, .conv⟩).1 = 4
    ∧ (storeAcc (5 * 2 ^ 30) 0 ⟨false, .halfUp⟩).1 = 3 ∧ (storeAcc (2 ^ 62) 0 ⟨true, .trunc⟩).1 = 0x7FFFFFFF := by decide

/-- R110: 7 + 5. -/
theorem test_add : ((nx (exec (.add 3 []) (sEng (encEng (.alu2 .add h0 2 0 (.dreg 1) false .off))))).engine 3).rd 2 = 12 := by
  decide +kernel

/-- R59: 0.5 x 0.5 is 0.25 in Q2.62. -/
theorem test_mac : ((nx (exec (.macS 3 []) (sEng (encEng (.mac .s h0 ⟨false, false, 3⟩ pOff))))).engine 3).accV 3 = 2 ^ 60 := by
  decide +kernel

/-- Engine 3 at an MPR of slot 0, enabled, at 0x10000000. -/
def mpPost : MpPost := ⟨0, 0, 0, 0, 0, 1, .none⟩

def sPost (i : EngInstr) (en : Nat) : State :=
  { (mkRun [(pgEsc, Off.escSTAT, 2), (pgEng + 3, Off.engMB, 0x10000000), (pgEng + 3, Off.engMB + 4, en)]).setEngine 3
      { st := .running, pm := [(0, encEng i)] } with esc := { tickOpen := true, running := 1, xfers := 1 } }

/-- One word outstanding between 0x10000000 and X memory word 9, which holds 5. -/
def sMp (wr : Bool) : State :=
  (mkRun []).setEngine 3 { st := .running, dm := [(9, 5)]
                           mp := [{ wr := wr, ext := [0x10000000], loc := [9], due := 1, done := false }] }

theorem test_w_posts : atWord (sPost (.mpr h0 mpPost) 0xC0000000) (.mpr h0 mpPost)
    ∧ (sPost (.mpr h0 mpPost) 0xC0000000).postRefused 3 ((sPost (.mpr h0 mpPost) 0xC0000000).engine 3) false mpPost = false
    ∧ atWord (sPost (.mpw h0 mpPost) 0) (.mpw h0 mpPost)
    ∧ (sPost (.mpw h0 mpPost) 0).postRefused 3 ((sPost (.mpw h0 mpPost) 0).engine 3) true mpPost = true := by
  decide +kernel

theorem test_w_transfer : mpMayFinish ((sMp true).engine 3).mp 0 = true ∧ (sMp true).mpHeld 3 0 = false ∧ ((sMp true).engine 3).waiting = false
    ∧ ((sMp true).engine 3).mp[0]? = some { wr := true, ext := [0x10000000], loc := [9], due := 1, done := false }
    ∧ ((sMp false).engine 3).st = .running ∧ (sMp true).ecc = [] ∧ (sMp true).mode ≠ 4 := by decide +kernel

/-- Engine 3 in a state, with a latch. -/
def sWin (e : EngState) : State := (mkRun []).setEngine 3 { st := e, pmLatch := some (7, 5) }

/-- A running engine whose group 0, of 4 words at X address 0, copies forward. -/
def sGroupHeld : State :=
  { (mkRun [(pgEng + 3, Off.engPAR_LEN, 4), (pgEng + 3, Off.engPAR_GRP, 4 * 65536)]).setEngine 3 { st := .running } with
    sched := { copyFwd := [(3, 0)] } }

theorem test_window_words :
    (let s := sWin .stopped
     [0, 0x3FFF, 0x4000, 0x7FFF, 0x8000, 0x9FFF, 0xA000, 0xBFFF].all (fun a => s.winAct 3 a == .apply))
    ∧ ((nx (exec (.engineWindowWrite 3 0x87FFC [1, 2, 3, 4] 2) (sWin .stopped))).engine 3).word 0x9FFF = 0x04030201#32
    ∧ ((nx (exec (.engineWindowWrite 3 0x6FFF8 [1, 2, 3, 4, 5] 2) (sWin .stopped))).resp.err = true)
    ∧ ((nx (exec (.engineWindowWrite 3 0xA7FF8 [1, 2, 3, 4, 5, 0, 0, 0] 2) (sWin .stopped))).engine 3).word 0xBFFF = 5#32
    ∧ ((nx (exec (.engineWindowWrite 3 (8 * 7 + 4) [1, 0, 0, 0] 2) (sWin .stopped))).engine 3).instr 7 = 0x100000005
    ∧ (sWin .running).winAct 3 0xA000 = .refuse ∧ sGroupHeld.winAct 3 6 = .hold 0 2 := by decide +kernel

theorem test_w_window : ((mkRun []).setEngine 3 { st := .stopped }).winAct 3 0x3FFF = .apply
    ∧ (mkRun []).pwr.released = true ∧ (mkRun []).clear = true ∧ (mkRun []).mode ≠ 4 ∧ EngState.isStopped .stopped = true
    ∧ EngState.inPlane .running = true
    ∧ ((mkRun []).setEngine 3 { st := .armed }).guard (pgEng + 3) Off.engCTL_NX false = .pass
    ∧ (mkRun []).hoistBit 2 = false ∧ (mkRun []).guard (pgEng + 3) Off.engMP_WAIT_MAX false = .pass := by decide +kernel

theorem test_transfer_write : (nx (exec (.mpTransferDone 3 0 [] ⟨0, 0, false, []⟩) (sMp true))).le 0x10000000 4 = 5 := by
  decide +kernel

/-- A boundary placed in RUN with the requests r pending. -/
def sHoist (r : Nat) : State :=
  { mkRun [(pgSched, Off.schedHOIST, r), (pgRtr, Off.rtrSTAT, 1)] with sig := { due := [[]] } }

/-- The same with engine 3 running, or detached. -/
def sHoistE (r : Nat) (st : EngState) : State :=
  ((sHoist r).setRg (pgEng + 3) Off.engPAR_LEN 8).setRg (pgEng + 3) Off.engPAR_GRP (4 * 2 ^ 16) |>.setEngine 3 { st := st }

theorem test_w_loader : (mkRun []).guard pgSched Off.schedLOAD false = .pass
    ∧ (mkRun []).guard pgSched Off.schedCTL false = .pass ∧ (mkRun []).loading = false ∧ (mkRun []).hoistBit 0 = false
    ∧ (mk [(pgSched, Off.schedSTAT, 3)]).loading = true ∧ (mk [(pgSched, Off.schedSTAT, 3)]).loadState = 3
    ∧ (mk [(pgSched, Off.schedSTAT, 1)]).loadState = 1 ∧ (mk []).ecc = []
    ∧ (mk [(pgSched, Off.schedSTAT, 3)]).sched.sec = (mk []).sched.dir.length := by decide +kernel

/-- A load whose source lies where no memory answers, and one with a section of no bytes. -/
theorem test_w_load_ends :
    (let s : State := { mk [(pgSched, Off.schedSTAT, 1)] with sched := { src := 0x20000000, srcLen := 8 } }
     s.loadState = 1 ∧ (s.readSource 0 8).1 = none)
    ∧ (let s : State := { mk [(pgSched, Off.schedSTAT, 3)] with
         sched := { src := 0x20000000, srcLen := 8, dir := [⟨0x20, 0xFF, 0, 0, 8, 0⟩] } }
       s.sched.dir[s.sched.sec]? = some ⟨0x20, 0xFF, 0, 0, 8, 0⟩ ∧ s.readSource 0 0 = (some [], s)
         ∧ (s.readSource 0 8).1 = none)
    ∧ (let s : State := { mk [(pgSched, Off.schedSTAT, 1)] with sched := { src := 0x10000000, srcLen := 8 } }
       s.readSource 0 8 = (some [0, 0, 0, 0, 0, 0, 0, 0], s) ∧ s.readSource 0 0 = (some [], s))
    ∧ (mk [(pgSched, Off.schedSTAT, 2)]).loadState = 2
    ∧ (let s : State := { mk [(pgSched, Off.schedSTAT, 3)] with sched := { dir := [⟨0x20, 0xFF, 0, 0, 0, 0⟩] } }
       s.sched.dir[s.sched.sec]? = some ⟨0x20, 0xFF, 0, 0, 0, 0⟩ ∧ s.readSource 0 0 = (some [], s) ∧ crc32 [] = 0) := by
  decide +kernel

theorem test_w_hoist : (mkRun []).guard pgSched Off.schedHOIST false = .pass ∧ bitN 4 2 = true
    ∧ (mkRun []).hoistKinds = 0 ∧ (mkRun []).loadState ≠ 4 ∧ (mkRun []).hoistTick ≤ (mkRun []).tick
    ∧ (sHoist 2).hoistKinds ≠ 0 ∧ (sHoist 2).hoistBit 4 = false
    ∧ (sHoist 1).landingDue = true ∧ (sHoist 1).hoistBit 0 = true ∧ (sHoist 1).anyLate = false
    ∧ (sHoistE 1 .detached).anyLate = true ∧ (sHoistE 1 .detached).landingDue = true
    ∧ (sHoist 8).landingDue = true ∧ (sHoist 8).hoistBit 3 = true ∧ (sHoist 0).bit pgRtr Off.rtrSTAT 0 = true
    ∧ (sHoist 0).rtr.held = [] ∧ (sHoist 0).rtr.live ≠ (sHoist 0).rtr.staged := by decide +kernel

theorem test_w_landings : (sHoistE 2 .running).landingDue = true ∧ (sHoistE 2 .running).hoistBit 1 = true
    ∧ ((sHoistE 2 .running).engine 3).st = .running ∧ (sHoistE 2 .running).parLen 3 ≠ 0
    ∧ ((sHoistE 2 .running).groupOf 3 0).2 ≠ 0
    ∧ ((sHoistE 2 .running).groupOf 3 0).1 + ((sHoistE 2 .running).groupOf 3 0).2 ≤ (sHoistE 2 .running).parLen 3
    ∧ (sHoist 4).landingDue = true ∧ (sHoist 4).hoistBit 2 = true ∧ (sHoist 4).hoistBit 1 = false
    ∧ (mkRun []).guard pgSched (Off.schedPGP + 4 * 63) false = .pass
    ∧ (mkRun []).guard pgSched Off.schedRATE false = .pass ∧ (mkRun []).anyActive = false
    ∧ (sHoistE 2 .running).anyActive = true ∧ 6 ≤ bitsN 7 2 0 ∧ bitsN 19 2 0 < 6 ∧ bitsN 19 5 3 < 6 := by decide +kernel

/-- A landing of staged registers of several families: engine 3 stops, engine 4 runs on, generator 0 begins with seed 7. -/
def sLand : State :=
  let snap := [(pgTdm + 1, Off.tdmCTL_NX, 2), (pgTdm + 2, Off.tdmHOLD_FRAMES_NX, 9), (pgRail, Off.railCTL_NX, 255)
    , (pgThm, Off.thmCTL_NX, 3), (pgMod, Off.modCTL_NX, 5), (pgPair, Off.pairCTL_NX, 1), (pgEng + 4, Off.engCTL_NX, 1)
    , (pgRtr, Off.rtrGEN, 1), (pgRtr, Off.rtrGEN + 12, 7)].foldl (fun m x => smapSet resetWord m (rkey x.1 x.2.1) (w32 x.2.2)) []
  { ((sHoistE 4 .running).setEngine 4 { st := .running }) with sched := { snap := some snap } }

theorem test_w_regs : sLand.landingDue = true ∧ sLand.sched.snap.isSome = true
    ∧ sLand.genRestart (sLand.sched.snap.getD []) 0 = true ∧ sLand.pairState ≠ 6
    ∧ ((sHoistE 2 .armed).engine 3).st = .armed ∧ ((sHoistE 2 .off).engine 3).st = .off
    ∧ (sHoist 5).landingDue = true ∧ (sHoist 5).hoistBit 0 = true ∧ (sHoist 5).hoistBit 2 = true
    ∧ (sHoist 5).anyLate = false := by decide +kernel

theorem test_hoist_lands_next : (nx (exec (.hoistRegsRequest 4 0) (mkRun []))).sched.landTick = 1 := by decide +kernel

theorem test_swap : (nx (exec .swapLanding (sHoist 1))).rtr.live = 2 := by decide +kernel

/-- Index 5 with AUTOINC; a pending switch of destination 5. -/
def sRtr : State :=
  { mkRun [(pgRtr, Off.rtrRT_ADDR, 0x100005), (pgGain, Off.gainZC_TIMEOUT, 3)] with
    rtr := { sw := [(5, ⟨none, some 0x800, 3, none⟩)] } }

theorem test_w_routes : sRtr.guard pgRtr Off.rtrRT_DATA false = .pass ∧ sRtr.pwr.released = true ∧ sRtr.clear = true
    ∧ sRtr.rtBank = 0 ∧ sRtr.rtIndex = 5 ∧ sRtr.rtHolding = false ∧ sRtr.stagedCheck 5 (0x800 % 2 ^ 17) = 0
    ∧ sRtr.stagedCheck 5 (0x4AA0 % 2 ^ 17) = 2 ∧ (mk [(pgRtr, Off.rtrRT_ADDR, 0x10000)]).rtBank = 1
    ∧ (mk [(pgRtr, Off.rtrSTAT, 1)]).rtHolding = true ∧ sRtr.reachable pgRtr Off.rtrRT_DATA = true
    ∧ sRtr.pageEn pgRtr = true ∧ sRtr.domain 5 = true ∧ sRtr.bankNo = some sRtr.rtr.staged
    ∧ sRtr.entryMark sRtr.rtr.staged 5 = 0 ∧ sRtr.softOf 5 = some ⟨none, some 0x800, 3, none⟩
    ∧ sRtr.zcTimeout = 3 := by decide +kernel

/-- R157: an entry that names source slot 0x800; XFER and C1 keep their reset values. -/
theorem test_route_write : (nx (exec (.rtDataWrite 0x800 2) sRtr)).entry sRtr.rtr.staged 5 = 0x1E0800 := by
  decide +kernel

/-- Port 3, ungrouped and running; port 4 a member of target group 1, which runs. -/
def sTdm : State :=
  { mkRun [(pgTdm + 3, Off.tdmCFG, 7), (pgTdm + 4, Off.tdmCFG, 1), (pgTdm + 4, Off.tdmHOLD_FRAMES, 4),
      (pgTdm + 3, Off.tdmHOLD_FRAMES, 4),
      (pgTdmg, grpOff 1 Off.tdmgG_CTL, 0x411), (pgTdmg, grpOff 1 Off.tdmgG_STAT, 0x22),
      (pgTdmg, Off.tdmgSTART_CFG, 1), (pgTdmg, grpOff 2 Off.tdmgG_STAT, 1), (pgTdmg, grpOff 2 Off.tdmgG_CTL, 0xD)] with
    tdm := [(3, { inD := { ph := 2, last := [1] }, outD := { ph := 2, last := [1] } }),
      (4, { inD := { ph := 2, good := 64 }, outD := { ph := 2 }, bad := 8, due := [0, 1, 2, 3, 4, 5, 6, 7] })] }

/-- Group 1 in its flywheel, port 4 in RATE_FAULT; group 2 armed, its START edge captured. -/
def sFly : State :=
  (((sTdm.setGrpState 1 3).setBit (pgTdm + 4) Off.tdmSTATE 8 true).setGroup 2 { edge := true })

theorem test_w_groups : sTdm.guard (pgTdm + 3) Off.tdmMUTE_NOW true = .pass ∧ sTdm.pwr.released = true ∧ sTdm.clear = true
    ∧ sTdm.guard pgTdmg (grpOff 0 Off.tdmgG_CTL) false = .pass ∧ sTdm.grpState 0 = 0
    ∧ (sTdm.setFld pgTdmg (grpOff 0 Off.tdmgG_CTL) 11 2 0).armRefused 0 = false ∧ sTdm.grpState 1 ≠ 0
    ∧ sTdm.guard pgTdmg (grpOff 1 Off.tdmgG_CTL) false = .pass ∧ sTdm.portGroup 4 = 1 ∧ (sTdm.port 4).runs = true
    ∧ sTdm.bit pgTdmg Off.tdmgSTART_CFG 0 = true ∧ sTdm.pageEn pgTdmg = true ∧ sTdm.grpState 2 = 1
    ∧ sTdm.grpCtl 2 3 2 = 3 ∧ sFly.triggered 2 = true ∧ 0 < sFly.T ∧ 2 ≤ sFly.grpCtl 2 3 2 := by decide +kernel

theorem test_w_frames : (sTdm.port 3).runs = true ∧ sTdm.isTarget 3 = false ∧ (sTdm.port 3).got = none
    ∧ sTdm.isTarget 4 = true ∧ sTdm.rateFault 4 = false ∧ sTdm.portGroup 3 = 7 ∧ (sTdm.port 3).inD.ph = 2
    ∧ (sTdm.port 3).outD.ph = 2 ∧ (sTdm.port 3).stopDue = false ∧ sTdm.mode ≠ 3
    ∧ (sTdm.port 3).inD.run + 1 ≤ sTdm.fld (pgTdm + 3) Off.tdmHOLD_FRAMES 15 0
    ∧ ((nx (exec (.tdmInputFrame 3 [7] 0 0) sTdm)).port 3).got = some (sTdm.frameIn 3 [7])
    ∧ 2 ≤ sTdm.grpState 1 ∧ sTdm.grpTarget 1 = true ∧ sTdm.mayslip 1 = true ∧ sTdm.grpTarget 2 = false
    ∧ (sTdm.group 1).slip = .none ∧ ((sTdm.port 3).next + sTdm.fmtDiv 3 - 1) / sTdm.T = sTdm.tick
    ∧ ((sTdm.setGroup 1 { slip := .slow }).group 1).slip ≠ .none
    ∧ 2 ≤ (sTdm.setGrpState 2 2).grpState 2 := by decide +kernel

theorem test_w_events : 8 ≤ (sTdm.port 4).bad ∧ sFly.rateFault 4 = true ∧ 64 ≤ (sFly.port 4).inD.good
    ∧ (4 * b2n true + 3 ∈ (sTdm.port 4).due) ∧ (4 * b2n false ∈ (sTdm.port 4).due) ∧ sTdm.grpTarget 1 = true
    ∧ sTdm.grpState 1 = 2 ∧ sTdm.lead 1 = 4 ∧ (sTdm.setGrpState 1 3).grpState 1 = 3 ∧ sFly.grpState 1 = 3
    ∧ (sFly.setGrpState 1 2).grpState 1 = 2 ∧ (sFly.setGrpState 1 2).rateFault ((sFly.setGrpState 1 2).lead 1) = true := by
  decide +kernel

/-- R181: a slip of a fast external clock keeps the position. -/
theorem test_slip : ((nx (exec (.tdmGroupFrame 1 1000 [] []) sTdm)).group 1).next = 0
    ∧ (nx (exec (.tdmGroupFrame 1 1000 [] []) sTdm)).rg pgTdmg (grpOff 1 Off.tdmgG_SLIP_FAST_CNT) = 1 := by
  decide +kernel

/-- Instance 5 runs with two results; channels 0 to 3 in states 1 to 4, 4 to 6 in 5 to 7, sensing with instance 5. -/
def sDrv : State :=
  { mkRun [(decPage 5, Off.decRUN, 0x20), (decPage 5, decOff 5 Off.decI_RATIO, 64), (pgMod, Off.modCTL, 0x4F),
      (chPage 0, chOff 0 Off.modC_STAT, 1), (chPage 1, chOff 1 Off.modC_STAT, 2), (chPage 2, chOff 2 Off.modC_STAT, 3),
      (chPage 3, chOff 3 Off.modC_STAT, 4), (chPage 4, chOff 4 Off.modC_STAT, 5), (chPage 5, chOff 5 Off.modC_STAT, 6),
      (chPage 6, chOff 6 Off.modC_STAT, 0x307), (chPage 2, chOff 2 Off.modC_SNS, 0x505), (chPage 2, Off.modFADE, 64)] with
    drive := { dec := [(5, { outs := 9 }), (90, { stuck := true })], ch := [(0, { i := 38400 }), (4, { i := 38400 }),
      (1, { fadeN := 64, fadeUp := true }), (2, { zOn := true, zI := 1000, zV := 5 })] } }

/-- With windows of five samples. -/
def sZ : State := sDrv.setRg (chPage 2) (chOff 2 Off.modC_Z_CFG) 0x3E80005

theorem test_w_dec : sDrv.spanEnds 5 0 (List.replicate 64 true) = true ∧ sDrv.decSettled 5 = false
    ∧ sDrv.decK 5 + sDrv.decL 5 - 1 ≤ (sDrv.dec 5).outs ∧ (sDrv.dec 5).stuck = false
    ∧ sDrv.fld (decPage 5) Off.decSTUCK_LEN 15 0 ≤ 65535 ∧ sDrv.chV 2 = 5 ∧ sDrv.switching 2 = true
    ∧ (sDrv.dec 90).stuck = true := by decide +kernel

theorem test_w_channels : sDrv.guard pgMod Off.modFORCE_OFF true = .pass ∧ sDrv.guard pgMod Off.modCLR false = .pass
    ∧ sDrv.pwr.released = true ∧ sDrv.clear = true ∧ sDrv.chState 6 = 7 ∧ sDrv.chEn 6 = true ∧ (sDrv.dec (sDrv.chV 6)).stuck = false
    ∧ sDrv.chState 0 = 1 ∧ sDrv.rampLen 0 ≤ (sDrv.chan 0).i ∧ sDrv.chEn 0 = true ∧ sDrv.chState 1 = 2
    ∧ sDrv.fadeNum 1 (sDrv.chan 1).lastA = sDrv.fadeLen 1 ∧ sDrv.chState 3 = 4
    ∧ sDrv.fadeNum 3 (sDrv.chan 3).lastA = 0 ∧ sDrv.chState 4 = 5 ∧ sDrv.rampLen 4 ≤ (sDrv.chan 4).i
    ∧ sDrv.chState 5 = 6 ∧ sDrv.cooled 5 = true ∧ sDrv.chState 2 = 3 := by decide +kernel

theorem test_w_periods : sDrv.per ≠ 0 ∧ ((sDrv.per : Int) - sDrv.phase 2 * sDrv.per / 64) % sDrv.per = 0
    ∧ sDrv.domain 10 = true ∧ ((sDrv.setChan 5 { upDue := true }).chan 5).upDue = true ∧ (sDrv.chan 2).upDue = false
    ∧ ((sDrv.per : Int) - sDrv.phase 5 * sDrv.per / 64) % sDrv.per = 0
    ∧ sDrv.per / sDrv.edgeS / sDrv.T = sDrv.tick ∧ (sDrv.chan 2).cut = false ∧ sDrv.audible 2 = true ∧ 0 < sDrv.T
    ∧ sDrv.chFld 2 Off.modC_CFG 0 0 = 0 ∧ sDrv.chFld 2 Off.modC_Z_CFG 7 0 = 40
    ∧ sZ.audible 2 = true ∧ ((sZ.tick + 1) * sZ.T + 0 + 1) % sZ.chFld 2 Off.modC_Z_CFG 7 0 = 0
    ∧ (sZ.chan 2).zOn = true := by decide +kernel

/-- R201, R198: a span of 64 high bits settles to full scale, clamped. -/
theorem test_full_scale : ((nx (exec (.decOutput 5 0 (List.replicate 64 true)) sDrv)).dec 5).outs = 10 := by
  decide +kernel

/-- R214: FORCE_OFF of channel 2. -/
theorem test_force_off : (nx (exec (.modForceOff 0 4 2) sDrv)).chState 2 = 0
    ∧ (nx (exec (.modForceOff 0 4 2) sDrv)).chState 3 = 4 := by decide +kernel

/-- Rail groups 0 and 1 run; channel 1 in RUN. -/
def sRail : State :=
  { mkRun [(pgRail, Off.railCTL, 3), (pgRail, railOff 0 Off.railG_VFS, 200000), (pgRail, railOff 1 Off.railG_STAT, 2),
      (pgRail, railOff 0 Off.railG_CFG, 0x4000), (pgRail, railOff 0 Off.railG_CMD, 20000000),
      (chPage 1, chOff 1 Off.modC_STAT, 3), (pgMod, Off.modCTL, 2), (pgThm, Off.thmCTL, 1),
      (pgThm, thmOff 0 Off.thmC_IMIN, 0), (pgThm, thmOff 0 Off.thmC_R_REF, 4000), (pgThm, thmOff 0 Off.thmC_REF, 0x1000140),
      (chPage 0, chOff 0 Off.modC_IFS, 100), (chPage 0, chOff 0 Off.modC_VFS, 400)] with
    drive := { rail := [(0, { low := 96, above := 4 })]
               thm := [(0, { svi := 1000, sii := 1000, cnt := 70000 }), (1, { err := true })] } }

theorem test_w_rails : sRail.railRuns 0 = true ∧ sRail.railLatched 0 = false ∧ 0 < sRail.T
    ∧ sRail.railFld 0 Off.railG_VFS 19 0 ≠ 0
    ∧ rperOk (sRail.railFld 0 Off.railG_RPER 14 0) = true ∧ sRail.railFld 0 Off.railG_TIME 15 0 ≤ (sRail.rail 0).low
    ∧ (sRail.rail 0).lowSent = false ∧ 1 ≤ (sRail.rail 0).low ∧ 4 ≤ (sRail.rail 0).above ∧ sRail.switching 1 = true
    ∧ sRail.chEn 1 = true ∧ sRail.guard pgRail Off.railCLR false = .pass ∧ sRail.railLatched 1 = true
    ∧ sRail.railRuns 1 = true ∧ sRail.railRuns 2 = false ∧ sRail.pair.fenced = false
    ∧ ({ sRail with pair := { fenced := true } } : State).pair.fenced = true
    ∧ ((sRail.setRail 0 { lowSent := true }).rail 0).lowSent = true
    ∧ (sRail.setChState 2 6).chState 2 = 6 ∧ (sRail.chan 2).shutNow = false ∧ (sRail.setChState 3 4).switching 3 = true
    ∧ sRail.chEn 3 = false ∧ sRail.chState 0 = 0 ∧ 0 ≤ sRail.vMeas 0 ∧ sRail.railFld 0 Off.railG_CFG 0 0 = 0
    ∧ (sRail.setBit pgRail (railOff 0 Off.railG_CFG) 0 true).railFld 0 Off.railG_CFG 0 0 = 1 := by decide +kernel

theorem test_w_thermal : sRail.thmRuns 0 = true ∧ 1 ≤ (sRail.thm 0).cnt
    ∧ sRail.thmFld 0 Off.thmC_CORR 31 16 ≤ (sRail.thm 0).cnt ∧ (sRail.thm 0).sii * sRail.chFld 0 Off.modC_IFS 19 0 ≠ 0
    ∧ sRail.thmFld 0 Off.thmC_R_REF 19 0 * sRail.thmFld 0 Off.thmC_REF 31 16 ≠ 0 ∧ (sRail.thm 1).err = true
    ∧ sRail.raises (thmPage 1) = true
    ∧ (nx (exec (.thmWindowEnd 0) sRail)).rg pgThm (thmOff 0 Off.thmC_R_MEAS) = 4000 := by decide +kernel

/-- Reference 0 qualified and selected in LOCK; reference 1 ready to qualify; the device is a crown. -/
def sRef : State :=
  mkRun [(pgRef, Off.refQUAL_STAT, 0x301), (pgRef, Off.refSEL, 0), (pgRef, refOff 0 Off.refR_CFG, 0x3001),
    (pgRef, refOff 1 Off.refR_CFG, 0x2011), (pgRef, refOff 1 Off.refR_STAT, 2), (pgStack, Off.stackROLE, 1),
    (pgDpll, Off.dpllSTATE, 2), (pgRef, Off.refCTL, 1), (pgRef, refOff 0 Off.refR_ACCEPT, 100),
    (pgRef, refOff 0 Off.refR_REJECT, 200)] |>.setRefMon 1 { good := 10 ^ 9 }

/-- Nothing selected; HOLD with a valid history. -/
def sHold : State := (sRef.setRg pgRef Off.refSEL 7).setRg pgDpll Off.dpllSTATE 0x103

theorem test_w_refs : sRef.pageEn pgRef = true ∧ sRef.refActive 0 = true ∧ sRef.refQual 0 = true ∧ sRef.refSel = 0
    ∧ sRef.refWindow 0 ≠ 0 ∧ sRef.refReady 1 = true ∧ sHold.refSel = 7 ∧ sHold.eligible 1 = true
    ∧ sRef.guard pgRef (refOff 0 Off.refR_CFG) false = .pass ∧ sRef.guard pgRef (refOff 0 Off.refR_REJECT) false = .pass
    ∧ sRef.guard pgRef Off.refCTL false = .pass ∧ 0 ∈ sRef.candidates ∧ 3 ∉ sRef.candidates
    ∧ sRef.bit pgRef Off.refCTL 0 = true ∧ sRef.forced = false
    ∧ (let s := nx (exec (.refQualified 2) sRef); 1 ∈ s.candidates ∧ s.refRank 1 < s.refRank s.refSel) := by decide +kernel

theorem test_w_dpll : sRef.dpllState = 2 ∧ sRef.dpll.histLive = false ∧ sHold.histValid = true ∧ sHold.dpllState = 3
    ∧ sHold.pairState = 0 ∧ (sRef.setRg pgDpll Off.dpllSTATE 1).dpllState = 1
    ∧ (sRef.setRg pgDpll Off.dpllSTATE 1).slewing = false ∧ (sRef.setRg pgDpll Off.dpllSTATE 1).lockNear = true
    ∧ ((sRef.setRefMon 0 { phase := psUnit * 10 ^ 9 }).phaseDiff 0).natAbs ≤ sRef.fld pgDpll Off.dpllUNLOCK_PHASE 23 0 * psUnit
    ∧ sRef.fld pgDpll Off.dpllUNLOCK_PHASE 23 0 * psUnit < ((sRef.setRefMon 0 { phase := psUnit * 10000000 }).phaseDiff 0).natAbs
    ∧ (sRef.setRefMon 0 { phase := psUnit * 10000000 }).lockNear = false ∧ (sRef.setRg pgDpll Off.dpllSTATE 0x201).slewing = true ∧ sRef.dpll.slew = sRef.dpll.part
    ∧ (nx (exec (.refRevert 1) (nx (exec (.refQualified 2) sRef)))).dpll.pnt3 = true
    ∧ sRef.guard pgRef Off.refHOLD_LIMIT false = .pass ∧ sRef.guard pgDpll Off.dpllSTEP false = .pass
    ∧ sRef.stepRefused 5 = false ∧ sRef.stepRefused (2 ^ 30) = true ∧ sRef.sendsCrown = true
    ∧ (nx (exec (.dpllStepWrite 5 2) sRef)).dpll.announced = false := by decide +kernel

/-- R252: the selection of a better reference makes the DPLL acquire. -/
theorem test_revert : (nx (exec (.refRevert 1) (nx (exec (.refQualified 2) sRef)))).dpllState = 1 := by decide +kernel

/-- The time base in FREE, with an armed step of one second. -/
def sPtp : State :=
  mkRun [(pgPtp, Off.ptpSTAT, 5), (pgPtp, Off.ptpSTEP_LO, 10 ^ 9), (pgPtp, Off.ptpRATE_LO, 5)]

theorem test_w_time : sPtp.pwr.released = true ∧ sPtp.clear = true ∧ sPtp.reachable pgPtp Off.ptpTIME_NS = true ∧ sPtp.pageEn pgPtp = true
    ∧ sPtp.guard pgPtp Off.ptpRATE_HI false = .pass ∧ sPtp.guard pgPtp Off.ptpSTEP_CTL false = .pass
    ∧ bitN 0x80000000 31 = true ∧ sPtp.stepArmed = true ∧ sPtp.timeQual = 1 ∧ sPtp.ptp.step = none ∧ sPtp.ptp.commit = none ∧ sPtp.ptp.committed = none
    ∧ 0 ≤ tqAt sPtp.ptp (sPtp.ptp.raw + 1) + 10 ^ 9 * 2 ^ 16 ∧ tqAt sPtp.ptp (sPtp.ptp.raw + 1) < 2 ^ 48 * 10 ^ 9
    ∧ sPtp.guard pgPtp Off.ptpCTL false = .pass ∧ sPtp.guard pgPtp Off.ptpMEDIA_OFS false = .pass
    ∧ (mkRun [(pgPtp, Off.ptpSTAT, 2)]).timeQual = 2 ∧ (mkRun []).timeQual = 0 ∧ (mkRun [(pgPtp, Off.ptpSTAT, 1)]).stepArmed = false
    ∧ (mkRun []).mode ≠ 4 := by decide +kernel

/-- R299: the step moves the time by one second, beside the count of 2 ns. -/
theorem test_step : (let t := nx (exec (.ptpStepGo 0x80000000 2) sPtp)
    t.ptp.step = some (10 ^ 9 * 2 ^ 16) ∧ t.timeCount.tq - sPtp.tq = (10 ^ 9 + 2) * 2 ^ 16) := by decide +kernel

/-- A frame of 64 zero bytes but for its FCS, and a PAUSE frame. -/
def rxFrame : List Byte := List.replicate 60 0 ++ toLE 4 (crc32 (List.replicate 60 0))
def pauseBody : List Byte := List.replicate 12 0 ++ [0x88, 0x08, 0, 1, 0, 9] ++ List.replicate 42 0
def pauseFrame : List Byte := pauseBody ++ toLE 4 (crc32 pauseBody)

/-- Port 0 enabled with a link; its receive ring has the descriptor at 0x10000000 and a buffer at 0x10001000. -/
def sMac : State :=
  (((mkRun [(pgMac, Off.macCTL, 1), (pgMac, Off.macSTAT, 9), (pgMac, Off.macCFG, 0xC), (pgMac, Off.macRXR, 0x10000000),
      (pgMac, Off.macRXR + 8, 2), (pgMac, Off.macRXR + 12, 1)]).storeLE 0x10000000 8 0x10001000).storeLE 0x1000000C 2 128)

theorem test_w_receive : sMac.macEn 0 = true ∧ isPause rxFrame = false ∧ sMac.rxCheck 0 rxFrame = none
    ∧ sMac.rxCheck 0 [] = some 2 ∧ isEvent rxFrame = false ∧ tagged rxFrame = false
    ∧ sMac.ringWork ⟨pgMac, Off.macRXR⟩ = true ∧ sMac.ringAddr ⟨pgMac, Off.macRXR⟩ = 0x10000000
    ∧ sMac.ringBuf ⟨pgMac, Off.macRXR⟩ = 0x10001000 ∧ sMac.ringBlen ⟨pgMac, Off.macRXR⟩ = 128 ∧ sMac.ecc = []
    ∧ sMac.slotOwners 0x10000000 16 = [] ∧ sMac.slotOwners 0x10001000 64 = [] ∧ sMac.mode ≠ 4 ∧ sMac.mode ≠ 3 ∧ (List.range 256).all (fun n => !sMac.strmRuns 0 n) = true
    ∧ sMac.ringWork ⟨pgMac + 1, Off.macRXR⟩ = false
    ∧ isPause pauseFrame = true ∧ sMac.rxCheck 0 pauseFrame = none ∧ sMac.macStat 0 3 = true
    ∧ (sMac.setMacStat 0 2 true).macStat 0 2 = true ∧ sMac.pageEn pgMac = true
    ∧ sMac.guard pgMac Off.macCTL false = .pass := by decide +kernel

/-- R288, R289: the frame lies in the buffer, and HEAD has advanced. -/
theorem test_receive : (nx (exec (.macRxFrame 0 rxFrame 0) sMac)).byte 0x1000103C = rxFrame.getD 60 0
    ∧ (nx (exec (.macRxFrame 0 rxFrame 0) sMac)).ringHead ⟨pgMac, Off.macRXR⟩ = 1 := by decide +kernel

/-- A stream packet in queue 7 of port 0; a frame in transmit ring 0 of port 1; gate entry 0 of 2 on port 0. -/
def aPkt : StrmPkt := ⟨3, 7, 0, 0, none, [], List.replicate 64 0⟩
def sSend : State :=
  ({ mkRun [(pgMac, Off.macCTL, 1), (pgMac, Off.macSTAT, 1), (pgMac, Off.macCFG, 8), (pgMac + 1, Off.macCTL, 1),
      (pgMac + 1, Off.macSTAT, 1), (pgMac + 1, Off.macTXQ, 0x10000000), (pgMac + 1, Off.macTXQ + 8, 2),
      (pgMac + 1, Off.macTXQ + 12, 1), (pgMac + 2, Off.macCTL, 1), (pgMac + 2, Off.macCFG, 8),
      (pgTsn, tsnOff 0 Off.tsnP_OPER, 2), (pgTsn, tsnOff 1 Off.tsnP_CTL, 2), (pgTsn, Off.tsnGCL_ADDR, 0x005)] with
    net := { mac := [(0, { q := [aPkt] }), (3, { tx := some (.strm aPkt) })] } }.storeLE 0x10000000 8 0x10001000).storeLE
      0x1000000C 2 100

theorem test_w_send : ringOf 0 1 = some ⟨pgMac, Off.macTXQ⟩ ∧ sSend.guard pgMac (Off.macTXQ + 12) false = .pass
    ∧ sSend.pwr.released = true ∧ sSend.clear = true ∧ sSend.macEn 0 = true ∧ sSend.macStat 0 0 = true ∧ (sSend.mac 0).tx = none
    ∧ sSend.macStat 0 4 = false ∧ (List.range 7).all (fun k => !sSend.ringWork (txRing 0 k)) = true
    ∧ (sSend.mac 0).q.find? (fun x => x.queue == 7) = some aPkt ∧ sSend.mayStart 0 7 64 [] = true ∧ (sSend.mac 0).waking = false
    ∧ sSend.mac 1 = {} ∧ sSend.ringWork (txRing 1 0) = true ∧ sSend.ringBlen (txRing 1 0) = 100
    ∧ sSend.ringBuf (txRing 1 0) = 0x10001000 ∧ sSend.ringAddr (txRing 1 0) = 0x10000000 ∧ sSend.ecc = []
    ∧ 104 ≤ sSend.maxFrame 1 ∧ sSend.mayStart 1 0 104 [] = true
    ∧ sSend.slotOwners 0x10000000 16 = [] ∧ sSend.slotOwners 0x10001000 100 = []
    ∧ (sSend.setRg (pgMac + 1) Off.macMAX_FRAME 99).maxFrame 1 = 99 ∧ sSend.ringTail (txRing 1 0) = 1
    ∧ sSend.ringLen (txRing 1 0) = 2 ∧ ((sSend.setMac 1 { q := [{ aPkt with queue := 0 }] }).mac 1).q.length = 1
    ∧ sSend.mayStart 1 0 64 [] = true ∧ sSend.lpiOk 2 [] none = true
    ∧ (sSend.mac 3).tx = some (.strm aPkt) ∧ sSend.macCfg 2 3 = true ∧ (sSend.mac 2).q = []
    ∧ (sSend.setMacStat 0 4 true).macStat 0 4 = true ∧ sSend.guard pgTsn (tsnOff 0 Off.tsnP_CTL) false = .pass
    ∧ sSend.gclPending 1 = true ∧ sSend.fld pgTsn (tsnOff 0 Off.tsnP_OPER) 8 0 = 2
    ∧ sSend.guard pgTsn Off.tsnGCL_DATA false = .pass ∧ bitsN (sSend.rg pgTsn Off.tsnGCL_ADDR) 9 8 = 0
    ∧ sSend.gclPending 0 = false := by decide +kernel

/-- Transmit stream 5 and receive stream 6 run; a packet of one sample waits in stream 6. -/
def sStrm : State :=
  { mkRun [(pgStrm, Off.strmTX_EN, 0x20), (pgStrm, Off.strmRX_EN, 0x40), (pgMac, Off.macSTAT, 1),
      (pgStrm, Off.strmPGRP, 100), (pgStrm, Off.strmJB_BASE, 0), (pgStrm, Off.strmJB_SIZE, 0x10000)] with
    net := { desc := [(sKey 0 6 4, 1), (sKey 0 6 6, 1000), (sKey 1 5 4, 4)]
             rx := [(6, { pend := [⟨7, 0, some 3, [[0x1234]]⟩], outs := 1, ins := 1 })] }
    sig := { hist := [(1, []), (0, [])] } }

/-- With the term check on. -/
def sTerm : State := { sStrm with net := { sStrm.net with desc := [(sKey 0 6 0, 0x1000), (sKey 0 6 8, 9)] } }

theorem test_w_streams : sStrm.strmRuns 1 5 = true ∧ sStrm.mode = 1 ∧ sStrm.agentStopped 7 = false
    ∧ sStrm.pair.fenced = false ∧ (sStrm.nextPacket 5).2 / sStrm.T = 0 ∧ sStrm.macStat (sStrm.sPort 1 5) 0 = true
    ∧ sStrm.inShadow = false ∧ sStrm.strmRuns 0 6 = true ∧ sTerm.strmRuns 0 6 = true ∧ sTerm.sd 0 6 0 12 12 = 1
    ∧ 3 < sTerm.sd 0 6 8 31 0 ∧ sStrm.sd 0 6 0 12 12 = 0 ∧ sStrm.rxPos 6 (sStrm.rxIndex 6 ⟨7, 0, some 3, [[0x1234]]⟩) = 100
    ∧ sStrm.tick < 100 / sStrm.T ∧ 100 < (sStrm.esc.running + 1) * sStrm.T + sStrm.jbLen 6
    ∧ sStrm.jbCell 6 100 = 0x10000190 ∧ (sStrm.rxs 6).fill = [] ∧ sStrm.ecc = [] ∧ 0 < (sStrm.rxs 6).outs
    ∧ sStrm.guard pgStrm Off.strmMC_OFS_HI false = .pass ∧ sStrm.pwr.released = true ∧ sStrm.clear = true := by decide +kernel

theorem test_stream_sample : (nx (exec (.streamRxPacket 6) sStrm)).le 0x10000190 4 = 0x12340000 := by decide +kernel

/-- A header of a frame with tick 1, no channels and one tunnel block, and its tunnel part: a message. -/
def hdr60 : List Byte :=
  toLE 8 1 ++ toLE 1 (State.reset.rg pgSched Off.schedRATE) ++ List.replicate 43 0 ++ toLE 4 2 ++ toLE 4 0
def hdrRx : List Byte := hdr60 ++ toLE 4 (crc32 hdr60)
def tunRx : List Nat := [4 + 2 ^ 16 + 8 * 2 ^ 24, 0x0807060504030201]

/-- Port 0 enabled with 64 round trips; a port 1 with packets received. -/
def sCrx : State :=
  { mkRun [(pgCrx, Off.crxCTL, 5), (pgCrx, Off.crxSTAT, 0x1F), (pgRef, Off.refQUAL_STAT, 0x2000),
      (pgCrx + 1, Off.crxCTL, 5), (pgCrx + 1, Off.crxRA_STAT, 1), (pgCrx + 1, Off.crxWIN, 0x10000),
      (pgCrx + 1, Off.crxWIN + 4, 1), (pgStack, Off.stackSTAT, 1)] with
    crx := [(0, { rts := List.replicate 64 1000, outs := 1 }),
      (1, { inbox := [reqPacket 1 1 0x10000000 []] })] }

def sIn (p : List Nat) : State := { sCrx with crx := [(1, { inbox := [p] })] }

/-- A follower of port 0. -/
def sFollow : State := sCrx.setRg pgRef Off.refSEL 5

theorem test_w_carix : sCrx.crxEn 0 = true ∧ crxHdrOk hdrRx = true ∧ crxHdrOk [] = false ∧ tunRx.length = leAt hdrRx 52 4
    ∧ (0 : Nat) = leAt hdrRx 14 2 * sCrx.T ∧ sCrx.crxAligned 0 hdrRx false = true ∧ sCrx.mode ≠ 3
    ∧ sCrx.pageEn pgCrx = true ∧ sCrx.fld pgCrx Off.crxSTAT 4 1 = 15 ∧ sCrx.crxStat 0 0 = true ∧ sCrx.crxStat 0 6 = false
    ∧ (sCrx.crxPort 0).rts.length = 64 ∧ 0x96 % 256 = 0x96 ∧ 0x96 / 256 % 256 = sFollow.crownId
    ∧ sFollow.sendsCrown = false ∧ sFollow.follows = some 0 ∧ sCrx.follows = none ∧ sFollow.bit pgCrx Off.crxCTL 0 = true
    ∧ sFollow.tick ≤ nearestTick sFollow.tick 0 ∧ sFollow.dpll.sent = [] ∧ sCrx.guard pgStack Off.stackROLE false = .pass
    ∧ sCrx.guard pgStack Off.stackCLR false = .pass ∧ 0 < (sCrx.crxPort 0).outs
    ∧ sCrx.guard pgCrx Off.crxCTL false = .pass ∧ sCrx.pwr.released = true ∧ sCrx.clear = true := by decide +kernel

/-- R310: the bounds of block lock and of the skew. -/
theorem test_w_lanes : 64 ≤ (List.replicate 64 1).length ∧ (∀ h ∈ (List.replicate 64 1).take 64, h = 1 ∨ h = 2)
    ∧ locks (List.replicate 63 1 ++ [0]) = false ∧ unlocks (List.replicate 15 3 ++ List.replicate 49 1 ++ [3]) = false
    ∧ deskewed (some 64) = true ∧ deskewed (some 65) = false ∧ deskewed none = false := by decide +kernel

/-- R311: with lane 3, the link goes down. -/
theorem test_lane : (nx (exec (.laneLockLost 0 3 (List.replicate 16 0 ++ List.replicate 48 1)) sCrx)).rg pgCrx Off.crxSTAT = 0xE := by
  decide +kernel

theorem test_w_tunnel : sCrx.guard pgCrx Off.crxRA_CTL false = .pass ∧ sCrx.raBusy 0 = false ∧ sCrx.raBusy 1 = true
    ∧ pktKind (reqPacket 1 1 0x10000000 []) = 1 ∧ pktKind (respPacket 1 0 [7]) = 3 ∧ pktWords (reqPacket 1 1 0 []) = 1
    ∧ pktAddr (reqPacket 2 1 0x10000000 [9]) = 0x10000000 ∧ sCrx.clear = true ∧ sCrx.tunAllowed 1 0x10000000 4 = true
    ∧ sCrx.tunAllowed 1 0x10001000 4 = false ∧ sCrx.ecc = [] ∧ sCrx.mode ≠ 4 ∧ sCrx.mtx.lock = none
    ∧ sCrx.slotRefused 8 0x10000000 4 = false ∧ (pktData (reqPacket 2 1 0x10000000 [9])).length = 2
    ∧ pktKind tunRx = 4 ∧ (msgBytes tunRx).length = 8 ∧ sCrx.ringWork ⟨pgCrx + 1, Off.crxMRX⟩ = false := by decide +kernel

/-- The rings of port 1: a message of 16 bytes to send, room for one of 128. -/
def sMsg : State :=
  (((((sIn tunRx).setRg (pgCrx + 1) Off.crxMTX 0x10000000).setRg (pgCrx + 1) (Off.crxMTX + 8) 2).setRg (pgCrx + 1)
    (Off.crxMTX + 12) 1).setRg (pgCrx + 1) Off.crxTUN_MAX 64).storeLE 0x10000000 8 0x10001000 |>.storeLE 0x1000000C 2 16
def sMsgRx : State :=
  ((((sIn tunRx).setRg (pgCrx + 1) Off.crxMRX 0x10000000).setRg (pgCrx + 1) (Off.crxMRX + 8) 2).setRg (pgCrx + 1)
    (Off.crxMRX + 12) 1).storeLE 0x10000000 8 0x10001000 |>.storeLE 0x1000000C 2 128

theorem test_w_messages : sMsg.crxEn 1 = true ∧ sMsg.ringWork ⟨pgCrx + 1, Off.crxMTX⟩ = true
    ∧ sMsg.ringBlen ⟨pgCrx + 1, Off.crxMTX⟩ = 16 ∧ sMsg.ringBuf ⟨pgCrx + 1, Off.crxMTX⟩ = 0x10001000
    ∧ sMsg.ringAddr ⟨pgCrx + 1, Off.crxMTX⟩ = 0x10000000 ∧ sMsg.ecc = []
    ∧ 1 + ceilDiv 16 8 ≤ sMsg.fld (pgCrx + 1) Off.crxTUN_MAX 15 0 ∧ sMsgRx.ringWork ⟨pgCrx + 1, Off.crxMRX⟩ = true
    ∧ sMsgRx.ringBlen ⟨pgCrx + 1, Off.crxMRX⟩ = 128 ∧ (sMsgRx.crxPort 1).inbox = [tunRx] := by decide +kernel

/-- R326, R327: a peer's read of one word of the shared store. -/
theorem test_tunnel_read : ((nx (exec (.tunnelReadRequestRx 1) (sCrx.storeLE 0x10000000 4 77))).crxPort 1).txq
    = [respPacket 1 0 [77]] := by decide +kernel

/-- A pair state with counts at their limits. -/
def sPair (st : Nat) : State :=
  { mkRun [(pgPair, Off.pairCTL, 1), (pgPair, Off.pairSTATE, st), (pgPair, Off.pairMATCH_RUN, 0xFFFFFF),
      (pgEsc, Off.escSTAT, 2), (pgRef, Off.refSEL, 7)] with
    pair := { heard := true, silentTicks := 300, pinBadTicks := 300, missRun := 15, convTicks := 2 ^ 28, takeoverDue := true }
    sig := { due := [[]] } }

theorem test_w_pair : (sPair 1).pairEn = true ∧ (sPair 1).pairState = 1 ∧ (sPair 1).pairLive = false
    ∧ (sPair 1).peerAct = false ∧ (sPair 1).silenceTime < 300 ∧ (sPair 4).boundaryDue = true
    ∧ (sPair 4).esc.tickOpen = false ∧ (sPair 4).refSel = 7
    ∧ (sPair 3).fld pgPair Off.pairCONV_TICKS 23 0 ≤ (sPair 3).rg pgPair Off.pairMATCH_RUN
    ∧ (sPair 3).fld pgPair Off.pairCONV_LIMIT 27 0 ≤ 2 ^ 28 ∧ (sPair 4).tallyK ≤ 15 ∧ (sPair 2).pairState = 2
    ∧ (sPair 6).pairState = 6 ∧ (sPair 3).pairState = 3 ∧ (sPair 4).pairState = 4 ∧ (sPair 2).pageEn pgPair = true
    ∧ ({ sPair 2 with pair := { (sPair 2).pair with silentTicks := 0 } }).pairLive = true
    ∧ (sPair 2).mode ≠ 4 ∧ (sPair 2).guard pgPair Off.pairCTL true = .pass
    ∧ (sPair 2).guard pgPair Off.pairCTL false = .pass ∧ (sPair 2).pwr.released = true ∧ (sPair 2).clear = true := by decide +kernel

/-- R349, R351: a takeover raises the term above the partner's. -/
theorem test_takeover : (nx (exec .pairTakeover ((sPair 4).setRg pgPair Off.pairPEER_TERM 8))).ownTerm = 9 := by
  decide +kernel

/-- The controller in a state, its page and domain on, with 512 MiB installed. -/
def sDrc (st : Nat) : State :=
  mkRun [(pgDrc, Off.drcSTAT, st), (pgDrc, tsetOff 0, 0x80000000), (pgDrc, tsetOff 1, 0x80000000),
    (pgDrc, Off.drcCAP, 512), (pgDphy, Off.dphySTAT, 1), (pgDphy, Off.dphyCTL, 1), (pgDrc, Off.drcSR_IDLE, 9)]

theorem test_w_states : (sDrc 0).guard pgDrc Off.drcCTL false = .pass ∧ (sDrc 0).pwr.released = true ∧ (sDrc 0).clear = true
    ∧ (sDrc 0).drcState = 0 ∧ (sDrc 0).drcCfgOk 0 = true ∧ (sDrc 0).tsetValid 0 = true
    ∧ ((sDrc 0).setRg pgDrc (tsetOff 0) 0).tsetValid 0 = false ∧ (sDrc 1).drcState = 1 ∧ (sDrc 1).domain 4 = true ∧ (sDrc 2).domain 4 = true ∧ (sDrc 2).drcState = 2
    ∧ (sDrc 2).guard pgDrc Off.drcCTL false = .pass ∧ (sDrc 3).guard pgDrc Off.drcCTL false = .pass
    ∧ (sDrc 3).fld pgDrc Off.drcSR_IDLE 23 0 ≠ 0 ∧ (sDrc 3).srBlocked = false ∧ (sDrc 3).dram.reqs = []
    ∧ (sDrc 3).dram.fill = none ∧ (sDrc 3).guard pgDrc Off.drcFC_CTL false = .pass ∧ (sDrc 3).fcReason 1 = 0
    ∧ (sDrc 3).fcReason 0 = 1 ∧ (sDrc 5).drcState = 5 ∧ (sDrc 3).bit pgDphy Off.dphySTAT 0 = true
    ∧ (sDrc 3).bit pgDphy Off.dphyCTL 0 = true ∧ (sDrc 3).raises pgDphy = true
    ∧ ((sDrc 1).setBit pgDphy Off.dphySTAT 2 true).bit pgDphy Off.dphySTAT 2 = true ∧ (sDrc 1).dram.keep = false := by decide +kernel

/-- A probe in progress, a fill in progress, a waiting request of urgency 2. -/
def aReq : DramReq := { mid := 2, qos := 3, wr := false, addr := 0x100000100, len := 8, bs := [] }
def sBusy : State :=
  { sDrc 3 with dram := { probe := some (1, 256), fill := some (0x100000, 0x200000), reqs := [(aReq, 2), (aReq, 1)] } }

theorem test_w_maintenance : (sDrc 2).guard pgDrc Off.drcPROBE_CTL false = .pass ∧ bitN 0x21 5 = true ∧ 0x21 % 8 = 1
    ∧ sBusy.dram.probe = some (1, 256) ∧ (sDrc 2).guard pgDrc Off.drcMR_CMD false = .pass ∧ bitN 0x80005 19 = true
    ∧ (sDrc 2).guard pgDphy 0x400 false = .pass ∧ isDelay 0x400 = true ∧ (0x400 - 0x400) / 0x400 = (sDrc 2).drcSet
    ∧ isTset Off.drcTSET = true ∧ (sDrc 0).guard pgDrc Off.drcTSET false = .pass ∧ (sDrc 3).drcSet = 0
    ∧ (sDrc 3).guard pgDrc Off.drcFILL_CTL false = .pass ∧ sBusy.dram.fill = some (0x100000, 0x200000)
    ∧ (sDrc 3).slotOwners 0x100000000 0x100000 = [] ∧ (sDrc 3).dram.fill = none
    ∧ (sDrc 3).guard pgDrc (Off.drcMAX_WAIT + 4) false = .pass := by decide +kernel

theorem test_w_requests : (sDrc 3).reqHeld aReq = false ∧ targetOf aReq.addr = .drc ∧ (sDrc 3).mode ≠ 4
    ∧ (sDrc 3).domain 4 = true ∧ (sDrc 3).agentStopped 6 = false
    ∧ dramOff aReq.addr + aReq.len ≤ (sDrc 3).rg pgDrc Off.drcCAP * 2 ^ 20 ∧ (sDrc 3).ecc = []
    ∧ (sDrc 3).slotRefused 2 aReq.addr 8 = false ∧ (sDrc 5).reqHeld aReq = true ∧ sBusy.reqNext false = some 0
    ∧ sBusy.dram.reqs[1]? = some (aReq, 1) ∧ sBusy.drcCfg 6 6 = 0 ∧ sBusy.pressing = false ∧ (sBusy.setFld pgDrc Off.drcCFG 6 6 1).drcCfg 6 6 = 1
    ∧ (sBusy.setFld pgDrc Off.drcSTAT 2 0 3).drcState = 3 := by decide +kernel

/-- R362: a WRITE_READ that failed no bit leaves the pattern of channel 1. -/
theorem test_probe : (nx (exec (.probeDone 0 0) (sBusy.setRg pgDrc (Off.drcPROBE_PAT + 32) 0x55))).byte 0x100000100 = 0x55 := by
  decide +kernel

/-- The cores run, and core 0 may take word 0x10000100. -/
def sCore : State :=
  let s := mkRun [(pgCpu, Off.cpuCTL, 1), (pgCpu + 1, Off.cpuCTL, 1), (pgMtx, Off.mtxLOCK_REF_CNT, 0xFFFFFFFF)]
  { s.store 0x10000100 [5, 0, 0, 0x80] with mtx := { s.mtx with resv0 := some 0x10000100 } }

theorem test_w_matrix : sCore.pwr.released = true ∧ sCore.clear = true ∧ sCore.pageEn pgMtx = true
    ∧ sCore.defaultAnswers 0x20000 4 true = true ∧ sCore.cpuRuns 0 = true ∧ sCore.mtx.lock = none
    ∧ lockTarget 0x10000100 = true ∧ sCore.ecc = [] ∧ sCore.memGate 0x10000100 4 false = .ok
    ∧ sCore.slotRefused 0 0x10000100 4 = false ∧ sCore.resv 0 = some 0x10000100 ∧ sCore.resv 1 ≠ some 0x10000100
    ∧ sCore.cpuRuns 1 = true ∧ lockTarget 0x80000000 = false ∧ sCore.guard pgMtx Off.mtxHOLD_MAX false = .pass
    ∧ (nx (exec (.amo 0 1 0x10000100 3 true) sCore)).mtx.lock = some (4, 0, 0x10000100)
    ∧ portOf 0x10000100 = 4 ∧ portOf 0x10000104 = 4 ∧ sCore.memGate 0x10000100 4 true = .ok := by decide +kernel

/-- R382, R389: the port that a stalled AMO holds serves nobody else, until its write is made. -/
theorem test_lock : (nx (exec (.lr 1 0x10000104) (nx (exec (.amo 0 1 0x10000100 3 true) sCore)))).resp.waits = true
    ∧ (nx (exec (.amo 0 1 0x10000100 3 false) (nx (exec (.amo 0 1 0x10000100 3 true) sCore)))).le 0x10000100 4 = 0x80000008 := by
  decide +kernel

/-- Core 1 has a request waiting at DRC; a request of the AOC was held back 20 counts ago. -/
def sWait : State :=
  { sCore with dram := { sCore.dram with reqs := [({ mid := 1, qos := 0, wr := false, addr := 0x100000000, len := 8, bs := [] }, 0)] }
               mtx := { sCore.mtx with held := [(2, 0)] }, ptp := { sCore.ptp with raw := 20 } }

theorem test_w_hold : sWait.pwr.released = true ∧ sWait.pageEn pgMtx = true ∧ inOrder 1 = true ∧ inOrder 2 = true
    ∧ (∃ p ∈ sWait.outPorts 1, p ≠ pagePort 7 0x104) ∧ (∀ h ∈ sWait.mtx.held, h.1 ≠ 1) ∧ sWait.outPorts 2 = []
    ∧ sWait.mtx.held.find? (fun h => h.1 == 2) = some (2, 0) := by decide +kernel

/-- R385: counted once though given twice; the AOC's request took 40 ns. -/
theorem test_hold : (nx (exec (.registerWrite 7 0x104 4 6 1 {}) (nx (exec (.registerWrite 7 0x104 4 6 1 {}) sWait)))).rg
      pgMtx Off.mtxHOLD_CNT = 1
    ∧ (nx (exec (.registerWrite 7 0x104 4 6 2 {}) sWait)).rg pgMtx Off.mtxHOLD_MAX = 40 := by decide +kernel

/-- The minimum of signed words, and the count that stays at its end. -/
theorem test_amo : (nx (exec (.amo 0 5 0x10000100 3 false) sCore)).le 0x10000100 4 = 0x80000005
    ∧ (nx (exec (.amo 0 7 0x10000100 3 false) sCore)).le 0x10000100 4 = 3
    ∧ (nx (exec (.amo 1 0 0x80000000 3 false) sCore)).rg pgMtx Off.mtxLOCK_REF_CNT = 0xFFFFFFFF := by decide +kernel

/-- The watchdog counts in an ACTIVE unit, with WARN of 0; pin 3 is low and its rising edge selected. -/
def sWd : State :=
  mkRun [(pgSys, Off.sysWDOG_CTL, 0x801), (pgPair, Off.pairCTL, 1), (pgPair, Off.pairSTATE, 2), (pgGpio, Off.gpioRISE, 8)]

theorem test_w_cores : sCore.guard (pgCpu + 1) Off.cpuCTL false = .pass ∧ sWd.guard pgSys Off.sysWDOG_CTL false = .pass
    ∧ sWd.guard pgSys Off.sysWDOG_KICK false = .pass ∧ sWd.wdCounts = true ∧ sWd.ctl.wdWarned = false
    ∧ sWd.ctl.wdWarn = 0 ∧ sWd.pairState = 2 ∧ sCore.pairState ≠ 2 ∧ sWd.pageEn pgSys = true ∧ sWd.wdEn = true
    ∧ sWd.guard pgAoc Off.aocDOORBELL false = .pass ∧ sWd.domain 1 = true ∧ sWd.mode ≠ 4
    ∧ sWd.bit pgGpio Off.gpioDIR 3 = false ∧ bitN sWd.ctl.gpioPins 3 ≠ true ∧ sWd.bit pgGpio Off.gpioRISE 3 = true
    ∧ sWd.pageEn pgGpio = true ∧ sWd.bit pgGpio Off.gpioRISE 4 = false := by decide +kernel

/-- R394, R347: the expiry strikes with cause 3; R424: the edge shows. -/
theorem test_expire : (nx (exec .wdogExpire sWd)).pairState = 6
    ∧ (nx (exec (.gpioEdge 3 true) sWd)).rg pgGpio Off.headINT_RAW = 8 := by decide +kernel

/-- In SERVICE, programming word 5 with its top bit unable to program. -/
def sFuse : State :=
  mk [(pgPwr, Off.pwrMODE, 5), (pgPwr, Off.pwrDOMAINS, 0x7FF), (pgFuse, Off.fusePROG_STAT, 2),
    (pgFuse, Off.fusePROG_ADDR, 5), (pgFuse, Off.fusePROG_DATA, 0x80000003), (pgSys, Off.sysDBG_STAT, 8)]

theorem test_w_fuses : sFuse.guard pgFuse Off.fusePROG_KEY false = .pass ∧ sFuse.guard pgFuse Off.fusePROG_CTL false = .pass
    ∧ sFuse.mode = 5 ∧ sFuse.bit pgFuse Off.fusePROG_STAT 1 = true ∧ fuseRefused 5 = false ∧ fuseRefused 24 = true
    ∧ sFuse.pwr.released = true ∧ sFuse.clear = true ∧ sFuse.guard pgSys Off.sysDBG_CTL false = .pass ∧ sCore.mode ≠ 5 := by decide +kernel

theorem test_fuse : (nx (exec (.fuseProgGo 1 0x80000000 2) sFuse)).rg pgFuse (Off.fuseWORD + 20) = 3
    ∧ (nx (exec (.fuseProgGo 1 0x80000000 2) sFuse)).bit pgFuse Off.fusePROG_STAT 2 = true
    ∧ (nx (exec (.dbgGo 2 2) sFuse)).rg pgSys Off.sysDBG_STAT = 14 := by decide +kernel

/-- The boot port with bytes in its FIFO. -/
def sFlash (f : List Byte) : State :=
  let s := mkRun [(pgBoot, Off.bootADDR, 0x123456)]
  { s with ctl := { s.ctl with bootFifo := f } }

theorem test_w_bootPort : (sFlash []).guard pgBoot Off.bootCMD false = .pass ∧ (sFlash []).bootBusy = false
    ∧ bitN 0x8000110B 31 = true ∧ bitN 0x8000110B 10 = false ∧ bitsN 0x8000110B 19 12 + 1 = [(7 : Byte), 9].length
    ∧ bitN 0x80000402 10 = true ∧ bitsN 0x80000402 19 12 + 1 ≤ [(7 : Byte)].length
    ∧ ({ sFlash [] with ctl := { (sFlash []).ctl with flashOut := 1 } } : State).bootBusy = true
    ∧ (sFlash [1, 2, 3, 4]).reachable pgBoot Off.bootFIFO = true ∧ (sFlash []).pageEn pgBoot = true
    ∧ (sFlash []).guard pgBoot Off.bootFIFO false = .pass ∧ (sFlash (List.replicate 253 0)).ctl.bootFifo.length = 253
    ∧ (sFlash []).pwr.released = true ∧ (sFlash []).clear = true := by decide +kernel

/-- R408: opcode 0x0B with three address bytes sends them most significant first and takes two bytes. -/
theorem test_flash : (nx (exec (.flashCmd 0x8000110B [7, 9] 2) (sFlash []))).ctl.flashSent = [0x0B, 0x12, 0x34, 0x56]
    ∧ (nx (exec (.flashCmd 0x8000110B [7, 9] 2) (sFlash []))).rg pgBoot Off.bootSTAT = 4 := by decide +kernel

/-- The ROM waits for an image; the link is up. -/
def sHost : State :=
  let s := mk [(pgPwr, Off.pwrDOMAINS, 0xF), (pgPcie, Off.pcieCTL, 1), (pgPcie, Off.pcieSTAT, 1), (pgBoot, Off.bootHOST_LEN, 456)]
  { s with ctl := { s.ctl with hostWait := true } }

theorem test_w_hostGo : sHost.guard pgBoot Off.bootHOST_GO false = .pass ∧ sHost.ctl.hostWait = true ∧ sHost.ecc = []
    ∧ sHost.mode ≠ 4 ∧ sHost.pwr.released = true ∧ sHost.clear = true ∧ (nx (exec (.hostGo 1 3) sHost)).rg pgBoot Off.bootRESULT = 0x300 := by
  decide +kernel

theorem test_w_pcie : sHost.linkUp = true ∧ sHost.mtx.lock = none ∧ sHost.clear = true ∧ sHost.pwr.released = true ∧ sHost.slotRefused 3 0x10000010 2 = false
    ∧ pageKind pgGpio ≠ .none ∧ (nx (exec (.registerWrite 7 0x100 4 (ofLE [5, 0, 0, 0]) 3 {}) sHost)).resp.err = false
    ∧ pageKind 0xA ≠ .none ∧ pageKind 0xFF = .none ∧ sHost.pageEn pgPcie = true ∧ sHost.ctl.perst ≠ true
    ∧ sHost.domain 1 = true ∧ sHost.linkUp ≠ false := by decide +kernel

/-- R410, R413: a byte through BAR2; the link is down after a function level reset and comes up at generation 4. -/
theorem test_pcie : (nx (exec (.pcieRequest 1 0x10 2 true [5, 6] {}) sHost)).byte 0x10000011 = 6
    ∧ (nx (exec .flr sHost)).rg pgPcie Off.pcieFLR_CNT = 1
    ∧ (nx (exec (.pcieLinkChange true 4 2 17) (sHost.setRg pgPcie Off.pcieSTAT 0))).rg pgPcie Off.pcieSTAT = 0x1129 := by
  decide +kernel

/-- Both roles enabled; two bytes in the FIFO; the pointer at RST.LAST. -/
def sTwb (f : TwbSt → TwbSt) : State :=
  let s := mkRun [(pgTwb, Off.twbCTL, 3), (pgTwb, Off.twbADDR, 0x48), (pgTwb, Off.twbTGT_PTR, 0x40002104)]
  { s with twb := f { s.twb with fifo := [5, 6] } }

/-- The device at 0x20 acknowledges; NAK at data byte 1; arbitration lost. -/
def okRun : TwbRun := {}
def nakRun : TwbRun := { acks := [true, false] }
def lostRun : TwbRun := { lost := some (1, 4) }

theorem test_w_controller : (sTwb id).guard pgTwb Off.twbCMD false = .pass ∧ (sTwb id).pwr.released = true ∧ (sTwb id).clear = true
    ∧ (sTwb id).bit pgTwb Off.twbCTL 1 = true ∧ (sTwb id).twb.cmd = 0 ∧ (sTwb id).twb.active = false
    ∧ bitN 0x80010120 31 = true ∧ bitN 0x80010120 17 = false ∧ bitN 0x80010120 18 = false
    ∧ 0x80010120 % 128 ≠ (sTwb id).fld pgTwb Off.twbADDR 6 0 ∧ bitN 0x800101A0 7 = true
    ∧ firstNak 2 okRun.acks = none ∧ firstNak 2 nakRun.acks = some 1 ∧ bitsN 0x80010120 15 8 + 1 ≤ (sTwb id).twb.fifo.length
    ∧ (sTwb id).twbOwns = false ∧ (sTwb id).fld pgTwb Off.twbCTL 6 4 = 0
    ∧ ((sTwb id).setRg pgTwb Off.twbCTL 0x37).fld pgTwb Off.twbCTL 6 4 ≠ 0
    ∧ (sTwb id).cmdAddr ≠ (sTwb id).fld pgTwb Off.twbADDR 6 0 ∧ ((sTwb id).setOwns true).twbOwns = true
    ∧ (sTwb id).fld pgTwb Off.twbSCL_TO 15 0 ≠ 0 ∧ (sTwb id).guard pgTwb Off.twbFIFO false = .pass
    ∧ (sTwb id).reachable pgTwb Off.twbFIFO = true ∧ (sTwb id).pageEn pgTwb = true
    ∧ (sTwb (fun t => { t with cmd := 2 })).twb.cmd = 2 := by decide +kernel

/-- R432: the bytes on the bus, and the count at a data byte that is not acknowledged. -/
theorem test_controller : (nx (exec (.twbControllerWrite 0x80010120 okRun 2) (sTwb id))).twb.bus = [0x40, 5, 6]
    ∧ (nx (exec (.twbControllerWrite 0x80010120 nakRun 2) (sTwb id))).fld pgTwb Off.twbSTAT 26 16 = 0x201
    ∧ (nx (exec (.twbControllerWrite 0x80010120 lostRun 2) (sTwb id))).fld pgTwb Off.twbSTAT 26 24 = 3
    ∧ (nx (exec (.twbControllerRead 0x800100A0 { bytes := [9] } 2) (sTwb id))).twb.fifo = [5, 6, 9] := by decide +kernel

theorem test_w_target : (sTwb id).twbRuns = true ∧ (sTwb id).tgtBusy = false ∧ ptrOk 0x400FFFFC = true
    ∧ ptrOk 0x400FFFFE = false ∧ ((sTwb id).setOwns true).tgtBusy = true ∧ (sTwb id).mtx.lock = none
    ∧ (sTwb id).rg pgTwb Off.twbTGT_PTR = regAddr pgRst 0x104 ∧ (sTwb id).reachable pgRst 0x104 = true
    ∧ (sTwb id).pageEn pgRst = true ∧ targetOf 0x400FF000 = .none ∧ targetOf 0x400FF003 = .none
    ∧ (nx (exec (.registerWrite 7 0x104 4 6 2 {}) (sTwb id))).resp.err = false
    ∧ (nx (exec (.twbAccessDone {}) (sTwb (fun t => { t with acc := [⟨true, regAddr 7 0x104, 6, false⟩] })))).rg 7 0x104 = 6
    ∧ ((mk [(pgPwr, Off.pwrMODE, 4), (pgPwr, Off.pwrWAKE_EN, 2)]).bit pgTwb Off.twbWAKE_CFG 0) = true
    ∧ (mk [(pgPwr, Off.pwrMODE, 4)]).mode = 4 ∧ (0x48 + 128) % 128 = (sTwb id).fld pgTwb Off.twbADDR 6 0 := by decide +kernel

/-- R427: a word read from RST.LAST waits to be sent, and a word written goes to its register. -/
theorem test_access_done : (nx (exec (.twbAccessDone {}) (sTwb (fun t => { t with acc := [⟨false, regAddr pgRst 0x104, 0, false⟩] })))).twb.ready = [1]
    ∧ (sTwb id).guard pgGain 0xFFC false = .pass
    ∧ (nx (exec (.twbAccessDone {}) (sTwb (fun t => { t with acc := [⟨true, regAddr pgStore 0x100, 1, false⟩] })))).twb.acc = [] := by
  decide +kernel

/-- R429: the word of RST.LAST, whose reset value is 1, and the word that is late. -/
theorem test_target : (nx (exec (.twbTargetReadWord true false 4 false) (sTwb id))).twb.sent = some 1
    ∧ (nx (exec (.twbTargetReadWord true true 4 false) (sTwb id))).twb.sent = some 0xFFFFFFFF
    ∧ (nx (exec (.twbSetPointer 0x40000102 false) (sTwb id))).rg pgTwb Off.headINT_RAW = 64 := by decide +kernel

/-- A unit in a mode, with BUSY or not. -/
def sMode (m : Nat) : State := mk [(pgPwr, Off.pwrMODE, 0xF0 + m), (pgPwr, Off.pwrDOMAINS, 0x7FF)]
/-- In a mode, with changes to the sequencer. -/
def sPwr (m : Nat) (f : PwrSt → PwrSt) : State := { sMode m with pwr := f (sMode m).pwr }

theorem test_w_modes : (sMode 0).guard pgPwr Off.pwrMODE_REQ false = .pass ∧ (sMode 0).pwrBusy = false ∧ (sMode 0).mode = 0
    ∧ (sMode 3).guard pgPwr Off.pwrMODE_REQ false = .pass ∧ (sMode 3).mode = 3 ∧ (sMode 3).pwr.negTarget = none
    ∧ (sMode 3).pwr.resuming = false ∧ (sMode 5).mode = 5 ∧ (sMode 1).mode = 1 ∧ modeOk 1 3 = true ∧ modeOk 0 4 = true
    ∧ (sMode 9).pwrBusy = true ∧ modeOk 0 3 = false ∧ (sMode 0).pwr.released = true ∧ (sMode 0).clear = true
    ∧ (sPwr 9 (fun p => { p with negTarget := some 3 })).pwr.negTarget = some 3
    ∧ (sPwr 9 (fun p => { p with negTarget := some 3 })).mode ≠ 4 := by decide +kernel

/-- An ACTIVE unit that plays on port 2 and drives channel 5 goes to SERVICE. -/
def sPlay : State :=
  let s := mkRun [(pgPair, Off.pairCTL, 1), (pgPair, Off.pairSTATE, 2), (pgMod, Off.modC_STAT + 0x40 * 5, 3)]
  s

theorem test_service : (nx (exec (.modeReqService 5 3) sPlay)).mode = 5 ∧ sPlay.switching 5 = true
    ∧ (nx (exec (.modeReqService 5 3) sPlay)).switching 5 = false
    ∧ (nx (exec (.modeReqService 5 3) sPlay)).pairState = 6
    ∧ (nx (exec (.modeReqQuiet 3 3) (sMode 0))).fld pgPwr Off.pwrSTAT 5 4 = 1 := by decide +kernel

/-- The negotiation for n, a agents stopped. -/
def sNeg (n a : Nat) (w : Nat) : State :=
  sPwr 9 (fun p => { p with negTarget := some n, stopped := List.range a, wakePending := w })

theorem test_w_neg : (sNeg 3 1 0).pwr.negTarget = some 3 ∧ (sNeg 3 1 0).pageEn pgPwr = true ∧ (sNeg 3 1 0).mode ≠ 4
    ∧ (sNeg 3 1 0).agentCode 3 1 false 0 = 0 ∧ (sNeg 4 9 0).agentCode 4 9 true 0 = 10 ∧ (sNeg 4 9 0).agentCode 4 9 false 0 = 0
    ∧ (sNeg 3 1 0).pwr.wakePending = 0 ∧ (sNeg 3 1 2).pwr.wakePending ≠ 0 ∧ (sNeg 3 9 0).pwr.stopped.length = 9
    ∧ (sNeg 3 9 0).agentCode 3 9 false 0 = 0 ∧ (sNeg 3 9 0).bit pgPwr Off.pwrALARM_HI 31 = false
    ∧ ({ sNeg 3 1 0 with esc := { (sNeg 3 1 0).esc with tickOpen := true } } : State).esc.tickOpen = true := by
  decide +kernel

theorem test_neg : (nx (exec (.agentAnswer false 0 0) (sNeg 3 9 0))).mode = 3
    ∧ (nx (exec (.agentAnswer false 0 0) (sNeg 3 9 0))).rg pgPwr Off.pwrDOMAINS = 15
    ∧ (nx (exec (.agentAnswer true 0 0) (sNeg 4 9 0))).rg pgPwr Off.pwrREFUSE = 0x10A09
    ∧ (nx (exec (.agentAnswer false 0 0) (sNeg 3 1 2))).rg pgPwr Off.pwrABORT_CNT = 1 := by decide +kernel

/-- Asleep, MAIN_EN low for 1 ms; or resuming; or powering up. -/
def sSleep : State :=
  let s := sPwr 4 (fun p => { p with mainEn := false, lowTimeDone := true })
  (s.setRg pgPwr Off.pwrALARM_HI 0x80000000).setRg pgPwr Off.pwrRTC_STAT 1
def sRes : State :=
  let s := sPwr 3 (fun p => { p with resuming := true })
  { s with sig := { s.sig with due := [[]] } }

theorem test_w_wake : sSleep.pwr.released = true ∧ sSleep.clear = true ∧ sSleep.pwr.aoReleased = true ∧ sSleep.mode = 4
    ∧ sSleep.pwr.railWait = false ∧ sSleep.bit pgPwr Off.pwrALARM_HI 31 = true ∧ sSleep.bit pgPwr Off.pwrRTC_STAT 0 = true
    ∧ sSleep.guard pgPwr Off.pwrWAKE_SW false = .pass ∧ sSleep.bit pgPwr Off.pwrWAKE_EN 0 = true
    ∧ sSleep.bit pgPwr Off.pwrWAKE_EN 2 = true ∧ sSleep.bit pgPwr Off.pwrWAKE_EN 3 = true
    ∧ (sPwr 3 (fun p => { p with wakePending := 1 })).pwr.wakePending ≠ 0 ∧ sRes.mode = 3 ∧ sRes.pwr.resuming = true
    ∧ sRes.boundaryDue = true ∧ sRes.pageEn pgPwr = true
    ∧ (sPwr 4 (fun p => { p with mainEn := false })).pwr.lowTimeDone = false
    ∧ (sPwr 4 (fun p => { p with railWait := true })).pwr.railWait = true
    ∧ (sPwr 0 (fun p => { p with powerUp := some 1 })).pwr.powerUp = some 1
    ∧ (sPwr 0 (fun p => { p with powerUp := some 1 })).bit pgPwr Off.pwrFAB_EN 3 = true
    ∧ (sMode 1).guard pgPwr Off.pwrFAB_EN false = .pass ∧ ((sMode 1).engine 8).st ≠ .stopped
    ∧ ((sMode 1).engine 8).st ≠ .fault
    ∧ (((sMode 1).setEngine 8 { st := .running }).engine 8).st = .running ∧ (sMode 1).running = true
    ∧ bitN (sPwr 1 (fun p => { p with quadDue := 2 })).pwr.quadDue 1 = true := by decide +kernel

/-- The quadrants' engines are stopped after the power-up, and the wake counts itself. -/
theorem test_power : ((nx (exec .powerUpFromBootDone (sPwr 0 (fun p => { p with powerUp := some 1 })))).engine 31).st
      = .stopped
    ∧ (nx (exec (.resumeDone 2250) sRes)).mode = 1 ∧ (nx (exec (.resumeDone 2250) sRes)).rg pgPwr Off.pwrRESUME_LAST = 2250
    ∧ (nx (exec .wakeN sSleep)).pwr.railWait = true := by decide +kernel

/-- The straps ask for host load; both slots are empty. -/
def aRom : RomInput := ⟨3, true, [], []⟩

theorem test_w_resets : (nx (exec .por (sMode 1))).pwr.aoReleased = false ∧ (sMode 1).mode ≠ 4 ∧ (sMode 1).pwr.released = true ∧ (sMode 1).clear = true
    ∧ (nx (exec .aoRelease (nx (exec .por (sMode 1))))).pwr.aoReleased = true
    ∧ (nx (exec .aoRelease (nx (exec .por (sMode 1))))).pwr.released = false ∧ bitN aRom.straps 0 = true
    ∧ ({ sMode 1 with ctl := { (sMode 1).ctl with wdExpired := true } } : State).ctl.wdExpired = true
    ∧ (sMode 1).guard pgSys Off.sysSOFT_RST false = .pass := by decide +kernel

/-- R454, R459: a soft reset of a unit in RUN; the shared store keeps its content. -/
theorem test_soft : (nx (exec (.softReset 0x5AA5 aRom 0) (sPlay.store 0x10000000 [7]))).rg pgRst Off.rstCAUSE = 17
    ∧ (nx (exec (.softReset 0x5AA5 aRom 0) (sPlay.store 0x10000000 [7]))).byte 0x10000000 = 7
    ∧ (nx (exec (.softReset 0x5AA5 aRom 0) sPlay)).pairState = 0
    ∧ (nx (exec (.pinReset aRom) sPlay)).rg pgRst Off.rstLAST = 3
    ∧ (nx (exec (.wakeRailsValid aRom 0 false) (sPwr 4 (fun p => { p with railWait := true })))).mode = 0 := by decide +kernel

/-- Sensor 3 read 150 degrees before; supply 0 was outside; word 0 of the store and DRAM correctable. -/
def sSens : State :=
  let s := mkRun [(pgPair, Off.pairCTL, 1), (pgPair, Off.pairSTATE, 2), (pgMod, Off.modC_STAT + 0x40 * 5, 3),
    (pgDrc, Off.drcSTAT, 0x14), (pgDrc, Off.drcCAP, 512), (pgDphy, Off.dphySTAT, 1)]
  { s.upset [(0x10000000, 1), (0x100000000, 1), (0x10000, 1)] with mon := { s.mon with shutRun := 8, supRun := 1 } }

theorem test_w_sens : sSens.sensRuns = true ∧ sSens.tempLimit Off.sensTEMP_SHUT ≤ 2240 ∧ bitN sSens.mon.shutRun 3 = true
    ∧ sSens.bit pgSens Off.sensCTL 0 = true ∧ ¬ sSens.tempLimit Off.sensTEMP_SHUT ≤ 0 ∧ sSens.switching 5 = true
    ∧ bitN sSens.mon.supRun 0 = true ∧ sSens.guard pgSens Off.sensTEMP_MAX false = .pass ∧ sSens.pwr.released = true ∧ sSens.clear = true
    ∧ sSens.pageEn pgStore = true ∧ sSens.pageEn pgDrc = true ∧ sSens.scrubOn 0 = true ∧ sSens.scrubOn 4 = true ∧ sSens.eccAt 8 0x10000000 = 1 ∧ sSens.dramScrubs = true
    ∧ sSens.eccAt 8 0x100000000 = 1 ∧ sSens.eccAt 4 0x10000 = 1
    ∧ (sSens.upset [(0x10000000, 2)]).eccAt 8 0x10000000 = 2 ∧ sSens.eccAt 4 0x8000000 = 0 := by decide +kernel

/-- R471: the second reading at 140 degrees stops the channel and strikes; R468: the scrubbed word loses its mark. -/
theorem test_sens : (nx (exec (.tempReading 3 2240) sSens)).switching 5 = false
    ∧ (nx (exec (.tempReading 3 2240) sSens)).pairState = 6
    ∧ (nx (exec (.supplyReading 0 100) sSens)).bit pgSens Off.sensSTAT 16 = true
    ∧ (nx (exec (.storeScrub []) sSens)).eccAt 8 0x10000000 = 0 ∧ (nx (exec (.dramScrub []) sSens)).drcState = 3
    ∧ (nx (exec (.dramScrub []) sSens)).eccAt 8 0x100000000 = 0 := by decide +kernel

end Sys2Proof.Tests
end

section
/-! The error capture of a refused access (R7, R463 to R466): what `captureErr` and `errFor` leave alone, what a free
capture takes, and the refusal of a page access that is not an aligned 32-bit one. -/

namespace Sys2Proof.Machine

variable (s : State)

/-! ## The response of an ended access -/

@[simp] theorem State.errFor_resp (mid : Nat) : (s.errFor mid).resp = { err := true, data := [] } := by
  unfold State.errFor; split <;> rfl
@[simp] theorem State.errFor_regs (mid : Nat) : (s.errFor mid).regs = s.regs := by
  unfold State.errFor; split <;> rfl
@[simp] theorem State.errFor_mem (mid : Nat) : (s.errFor mid).mem = s.mem := by
  unfold State.errFor; split <;> rfl
@[simp] theorem State.errFor_eng (mid : Nat) : (s.errFor mid).eng = s.eng := by
  unfold State.errFor; split <;> rfl
@[simp] theorem State.rg_errFor (mid p o : Nat) : (s.errFor mid).rg p o = s.rg p o := by
  simp [State.rg]

/-! ## The capture of a page -/

/-- The places of a page's capture registers (R463). -/
def captureKeys (page : Nat) : List Nat :=
  [rkey page Off.headERR_CLASS, rkey page Off.headERR_ADDR_LO, rkey page Off.headERR_ADDR_HI,
    rkey page Off.headERR_MASTER, rkey page Off.headERR_TYPE, rkey page Off.headERR_TIME_LO,
    rkey page Off.headERR_TIME_HI, rkey page Off.headERR_MERGED]

/-- A capture sets registers and nothing else: what no register write changes stays. -/
theorem State.captureErr_keeps {α : Type} (f : State → α) (hf : ∀ (t : State) (p o v : Nat), f (t.setRg p o v) = f t)
    (page cls addr master ty : Nat) : f (s.captureErr page cls addr master ty) = f s := by
  simp only [State.captureErr, State.setRg64]
  split
  · simp only [hf]
  · split <;> simp only [hf]

@[simp] theorem State.captureErr_mem (page cls addr master ty : Nat) :
    (s.captureErr page cls addr master ty).mem = s.mem := s.captureErr_keeps State.mem State.setRg_mem ..

@[simp] theorem State.captureErr_eng (page cls addr master ty : Nat) :
    (s.captureErr page cls addr master ty).eng = s.eng := s.captureErr_keeps State.eng State.setRg_eng ..

/-- A capture, taken or merged, changes registers of its page's capture alone. -/
theorem State.captureErr_sameRegs (page cls addr master ty : Nat) :
    SameRegs s (s.captureErr page cls addr master ty) (captureKeys page) := by
  simp only [State.captureErr, State.setRg64]
  split
  · repeat' apply sameRegs_setRg
    · exact sameRegs_refl s _
    all_goals simp [captureKeys]
  · have merged (n : Nat) : SameRegs s (s.setRg page Off.headERR_MERGED n) (captureKeys page) :=
      sameRegs_setRg s (sameRegs_refl s _) (by simp [captureKeys])
    split
    · exact sameRegs_setRg s (merged _) (by simp [captureKeys])
    · exact merged _

theorem rkey_eq_iff (page o o' : Nat) : rkey page o = rkey page o' ↔ o = o' := by simp [rkey]

/-- A free capture takes the error's class, low address word, master and type (R463). -/
theorem State.captureErr_free {page cls addr master ty : Nat} (h : s.fld page Off.headERR_CLASS 1 0 = 0) :
    (s.captureErr page cls addr master ty).rg page Off.headERR_CLASS = cls % 2 ^ 32
    ∧ (s.captureErr page cls addr master ty).rg page Off.headERR_ADDR_LO = addr % 2 ^ 32
    ∧ (s.captureErr page cls addr master ty).rg page Off.headERR_MASTER = master % 2 ^ 32
    ∧ (s.captureErr page cls addr master ty).rg page Off.headERR_TYPE = ty % 2 ^ 32 := by
  simp [State.captureErr, h, State.setRg64, State.rg_setRg, rkey_eq_iff, Off.headERR_CLASS, Off.headERR_ADDR_LO,
    Off.headERR_ADDR_HI, Off.headERR_MASTER, Off.headERR_TYPE, Off.headERR_TIME_LO, Off.headERR_TIME_HI,
    Off.headERR_MERGED]

/-! ## A refused access -/

theorem regAddr_lt (page : Fin 256) (off : Fin 4096) : regAddr page off < 2 ^ 32 := by
  simp only [regAddr]; omega

theorem accType_plain (write : Bool) (size : Nat) : accType write false false size = b2n write + 16 * sizeCode size := by
  simp [accType, b2n]

theorem accType_plain_lt (write : Bool) (size : Nat) : accType write false false size < 2 ^ 32 := by
  have hw : b2n write ≤ 1 := by cases write <;> decide
  have hs : sizeCode size ≤ 3 := by unfold sizeCode; split_ifs <;> omega
  rw [accType_plain]; omega

/-- The access is answered with an error response and changes nothing but the page's capture; a free capture takes it as
a Contained error with its address, master and type (R7, R463). -/
def State.refusedInto (s t : State) (page : Fin 256) (off : Fin 4096) (mid : Nat) (write : Bool) (size : Nat) : Prop :=
  t.resp = { err := true, data := [] } ∧ SameMem s t ∧ t.eng = s.eng ∧ SameRegs s t (captureKeys page)
  ∧ (s.fld page Off.headERR_CLASS 1 0 = 0 → t.rg page Off.headERR_CLASS = 2
      ∧ t.rg page Off.headERR_ADDR_LO = regAddr page off ∧ t.rg page Off.headERR_MASTER = mid
      ∧ t.rg page Off.headERR_TYPE = b2n write + 16 * sizeCode size)

theorem State.refuseAccess_refused {page : Fin 256} {off : Fin 4096} {mid : Nat} (write : Bool) (size : Nat)
    (hmid : mid < 2 ^ 32) : s.refusedInto (s.refuseAccess page off mid write size) page off mid write size := by
  unfold State.refusedInto State.refuseAccess
  refine ⟨State.errFor_resp _ _, sameMem_of_mem s (by simp), by simp,
    sameRegs_of_regs s (s.captureErr_sameRegs _ _ _ _ _) (State.errFor_regs _ _), fun hfree => ?_⟩
  obtain ⟨hclass, haddr, hmaster, htype⟩ := s.captureErr_free (cls := 2) (addr := regAddr page off) (master := mid)
    (ty := accType write false false size) hfree
  simp only [State.rg_errFor]
  exact ⟨hclass, haddr.trans (Nat.mod_eq_of_lt (regAddr_lt page off)), hmaster.trans (Nat.mod_eq_of_lt hmid),
    htype.trans ((Nat.mod_eq_of_lt (accType_plain_lt write size)).trans (accType_plain write size))⟩

/-! ## Accesses that are not aligned 32-bit ones (R7) -/

/-- On a page that answers, once it is issued, such a write is a refused access. -/
theorem State.pageWrite_unaligned {page off size v mid : Nat} {x : Ext} (hn : size ≠ 4 ∨ off % 4 ≠ 0)
    (hrel : s.pwr.released = true) (hreach : s.reachable page off = true) (hclear : s.clear = true) :
    State.pageWrite page off size v mid x s = s.refuseAccess page off mid true size := by
  have hn' : ¬ (size = 4 ∧ off % 4 = 0) := by omega
  simp [State.pageWrite, hn', hrel, State.inTurn_clear s hclear, hreach]

/-- On a page that answers, once it is issued, such a read is a refused access. -/
theorem State.pageRead_unaligned {page off size mid id : Nat} (hn : size ≠ 4 ∨ off % 4 ≠ 0)
    (hrel : s.pwr.released = true) (hreach : s.reachable page off = true) (hclear : s.clear = true) :
    State.pageRead page off size mid id s = s.refuseAccess page off mid false size := by
  have hn' : ¬ (size = 4 ∧ off % 4 = 0) := by omega
  simp [State.pageRead, hn', hrel, State.inTurn_clear s hclear, hreach]

/-- Settles O7: the guard of R7 leads both accesses to `refuseAccess`, whose capture is the only register change. -/
theorem unalignedPageAccessIsRefused : Obligations.UnalignedPageAccessIsRefused := by
  intro s page off size v mid id x hn hrel hreach hclear hmid
  constructor
  · refine ⟨s.refuseAccess page off mid true size, ?_, s.refuseAccess_refused true size hmid⟩
    rw [exec_registerWrite, execRegisterWrite, s.pageWrite_unaligned hn hrel hreach hclear]
  · rw [s.pageRead_unaligned hn hrel hreach hclear]
    exact s.refuseAccess_refused false size hmid

end Sys2Proof.Machine
end

section
/-! The plain steps of an engine (R55 to R62, R106 to R109): the events of a step leave engines and memories alone, what
each part of a P-format step changes, and from these the step of MOV and of the four accumulator instructions. -/

namespace Sys2Proof.Machine

variable (s : State)

/-! ## Events: engines and memories stay (R91, R95, R96) -/

/-- The part of the state that the events of a step leave alone: the engines and the system's memories. -/
def State.engMem (s : State) : SMap Engine × SMap Byte := (s.eng, s.mem)

theorem State.msix_engMem (v : Nat) : (s.msix v).engMem = s.engMem := by
  unfold State.msix; split_ifs <;> rfl

theorem State.setInt_engMem (page bits : Nat) : (s.setInt page bits).engMem = s.engMem := by
  unfold State.setInt
  split
  · rfl
  · dsimp only
    split
    · rw [State.msix_engMem]; rfl
    · rfl

/-- An error that is not Fatal makes no strike. -/
theorem State.raiseErr_engMem {cls : Nat} (hc : cls ≠ 3) (page bits addr master ty : Nat) :
    (s.raiseErr page cls bits addr master ty).engMem = s.engMem := by
  unfold State.raiseErr
  split
  · rfl
  · exact (State.setInt_engMem ..).trans (s.captureErr_keeps State.engMem (fun _ _ _ _ => rfl) ..)

theorem State.engErr_engMem {cls : Nat} (hc : cls ≠ 3) (nn bit addr master ty : Nat) :
    (s.engErr nn cls bit addr master ty).engMem = s.engMem := by
  unfold State.engErr; rw [State.raiseErr_engMem _ hc]; rfl

theorem State.engEvent_engMem (nn pc : Nat) (ev : EEv) : (s.engEvent nn pc ev).engMem = s.engMem := by
  cases ev with
  | accSat | storeSat | storeWrap => exact State.setInt_engMem ..
  | accOvf | addrErr | mpHaz _ _ | mpErr => exact State.engErr_engMem _ (by decide) ..
  | ce a => exact State.engErr_engMem _ (by decide) ..
  | ue a => exact State.engErr_engMem (s.inc (pgEng + nn) Off.engECC_UE_CNT) (by decide) ..
  | wrote a => rfl

theorem State.engEvents_engMem (nn pc : Nat) (evs : List EEv) : (s.engEvents nn pc evs).engMem = s.engMem :=
  List.foldlRecOn _ _ (motive := fun t : State => t.engMem = s.engMem) rfl
    (fun t ht ev _ => (t.engEvent_engMem nn pc ev).trans ht)

/-- After a plain step engine nn is what the instruction makes of it, advanced; other engines and memories stay. -/
theorem State.plainStep_engine (nn m : Nat) (i : EngInstr) : (State.plainStep nn i s).engine m
    = if m = nn then (s.engOp nn (s.engine nn) i).1.advance else s.engine m := by
  rw [← State.engine_setEngine]
  exact congrArg (fun x : SMap Engine × SMap Byte => smapGet Machine.engReset x.1 m)
    (State.engEvents_engMem (s.setEngine nn _) ..)

theorem State.plainStep_mem (nn : Nat) (i : EngInstr) : (State.plainStep nn i s).mem = s.mem :=
  congrArg Prod.snd (State.engEvents_engMem (s.setEngine nn _) ..)

/-- The command of an engine's next instruction is that instruction's plain step. -/
theorem State.exec_eq_plainStep {nn : Nat} {c : Instr} {i : EngInstr} {is : EngInstr → Bool}
    (hc : exec c s = .next (s.engStep nn [] is (State.plainStep nn))) (hat : s.atInstr nn i) (his : is i = true) :
    exec c s = .next (State.plainStep nn i s) := by
  rw [hc, s.engStep_at hat his]

/-- A plain step whose instruction leaves the program counter, the loop stack, the step count and the state to the
advance is a step in the sense of `steppedTo`. -/
theorem State.plainStep_steppedTo {nn : Nat} {i : EngInstr} {e' : Engine} {store : Option (Nat × Word)}
    (he : (s.engOp nn (s.engine nn) i).1 = e') (hpc : e'.pc = (s.engine nn).pc) (hloops : e'.loops = (s.engine nn).loops)
    (hsteps : e'.steps = (s.engine nn).steps) (hst : e'.st = (s.engine nn).st)
    (hword : ∀ a, e'.word a
      = store.elim ((s.engine nn).word a) (fun bv => if a = bv.1 then bv.2 else (s.engine nn).word a)) :
    s.steppedTo (State.plainStep nn i s) nn store := by
  have hself : (State.plainStep nn i s).engine nn = e'.advance := by rw [State.plainStep_engine, if_pos rfl, he]
  have hnext : loopNext e'.loops e'.pc = loopNext (s.engine nn).loops (s.engine nn).pc := by rw [hloops, hpc]
  unfold State.steppedTo
  rw [hself, ← hnext, ← hsteps, ← hst]
  refine ⟨rfl, rfl, rfl, rfl, fun a => (hword a).trans ?_, s.plainStep_mem nn i, fun m hm => ?_⟩
  · cases store <;> rfl
  · rw [State.plainStep_engine, if_neg hm]

/-! ## Post-modifications (R57, R66) -/

/-- Post-modifications change pointers and nothing else. -/
theorem foldl_applyMod_keeps {α : Type} (g : Engine → α) (hp : ∀ e k v, g (Engine.setP e k v) = g e) (old e : Engine)
    (ms : List (Option (Nat × Int))) : g (ms.foldl (applyMod old) e) = g e :=
  List.foldlRecOn _ _ (motive := fun e' : Engine => g e' = g e) rfl (fun e' he m _ => by
    cases m with
    | none => exact he
    | some kd => exact (hp ..).trans he)

theorem bumpSx_keeps {α : Type} (g : Engine → α) (hs : ∀ (e : Engine) x, g { e with sx := x } = g e) (e : Engine)
    (t : Nat) (sxa : Bool) : g (e.bumpSx t sxa) = g e := by
  unfold Engine.bumpSx
  split
  · exact hs ..
  · rfl

theorem Engine.ptr_setP (e : Engine) (k v j : Nat) : (e.setP k v).ptr j = if j = k then v % 131072 else e.ptr j :=
  smapGet_set ..

/-- Post-modifications, applied in turn from the pointers of the start of the step, leave a pointer at `ptrAfter`. -/
theorem ptr_foldl_applyMod (old e : Engine) (k : Nat) (h : e.ptr k = old.ptr k) (ms : List (Option (Nat × Int))) :
    (ms.foldl (applyMod old) e).ptr k = old.ptrAfter ms k := by
  unfold Engine.ptrAfter
  induction ms using List.reverseRecOn with
  | nil => exact h
  | append_singleton ms m ih =>
    rw [List.foldl_append, List.foldl_append, ← ih]
    cases m with
    | none => rfl
    | some kd =>
      obtain ⟨j, d⟩ := kd
      simp only [List.foldl_cons, List.foldl_nil, applyMod, Engine.ptr_setP, Engine.wadd, eq_comm (a := k)]
      split
      · subst_vars; rfl
      · rfl

theorem State.busRead_md (nn : Nat) (e : Engine) (isX : Bool) (r : BusRd) :
    (s.busRead nn e isX r).md = e.rdMod r := by
  cases r with
  | one k md l => cases l <;> rfl
  | dreg d l => cases l <;> rfl
  | ramp g l => cases l <;> rfl
  | off | pair k md | dpair i | idx k ix sh => rfl

/-! ## The write field (R65, R103, R105) -/

/-- The faults and the detachment that keep a word from memory are those of `storeOf`. -/
theorem State.memWrite_eq (nn : Nat) (old e : Engine) (a : Nat) (v : Word) : (s.memWrite nn old e a v).1
    = if emem a = .none ∨ emem a = .ib ∨ old.busy (s.redirect nn a) = true
          ∨ (emem a = .ob ∧ (old.st = .detached ∨ old.st = .skipping)) then e
      else e.setWord (s.redirect nn a) v := by
  by_cases hm : emem a = .none ∨ emem a = .ib
  · simp only [State.memWrite, hm, if_true, ← or_assoc, true_or]
  · simp only [State.memWrite, hm, if_false, ← or_assoc, false_or]
    split_ifs <;> simp_all

theorem State.writeField_md (nn : Nat) (old e : Engine) (h : Hd) (wf : WrF) :
    (s.writeField nn old e h wf).2.2 = old.wrMod wf := by
  cases wf with
  | off => rfl
  | on dst src => cases dst <;> rfl

/-- The write field changes D registers and words of engine memory alone. -/
theorem State.writeField_keeps {α : Type} (g : Engine → α) (hd : ∀ e i v, g (Engine.setD e i v) = g e)
    (hw : ∀ e a v, g (Engine.setWord e a v) = g e) (nn : Nat) (old e : Engine) (h : Hd) (wf : WrF) :
    g (s.writeField nn old e h wf).1 = g e := by
  cases wf with
  | off => rfl
  | on dst src =>
    cases dst with
    | dreg d => exact hd ..
    | mem k md =>
      simp only [State.writeField, State.memWrite_eq]
      split
      · rfl
      · exact hw ..

theorem State.writeField_rd (nn : Nat) {old e : Engine} (he : ∀ j, e.rd j = old.rd j) (h : Hd) (wf : WrF) (j : Nat) :
    (s.writeField nn old e h wf).1.rd j = old.dAfter h wf none j := by
  cases wf with
  | off => exact he j
  | on dst src =>
    cases dst with
    | dreg d =>
      simp only [State.writeField, Engine.setD, Engine.rd, smapGet_set, Engine.dAfter]
      split
      · rfl
      · exact he j
    | mem k md =>
      simp only [State.writeField, State.memWrite_eq]
      split <;> exact he j

/-- The word of `storeOf` is the only one that the write field changes. -/
theorem State.writeField_word (nn : Nat) (e : Engine) (h : Hd) (wf : WrF) (a : Nat) :
    (s.writeField nn (s.engine nn) e h wf).1.word a
      = (s.storeOf nn h wf).elim (e.word a) (fun bv => if a = bv.1 then bv.2 else e.word a) := by
  cases wf with
  | off => rfl
  | on dst src =>
    cases dst with
    | dreg d => rfl
    | mem k md =>
      simp only [State.writeField, State.memWrite_eq, State.storeOf]
      split
      · rfl
      · exact smapGet_set ..

/-! ## P-format steps (R56, R57, R106) -/

/-- After the accumulator work on the loaded latches: the write field, the post-modifications in the order X read,
Y read, write, and the SX advance. -/
theorem State.pStep_eq (nn : Nat) (h : Hd) (p : PFields) (f : Engine → Engine × List EEv) :
    (s.pStep nn (s.engine nn) h p f).1
      = ([(s.engine nn).rdMod p.xf, (s.engine nn).rdMod p.yf, (s.engine nn).wrMod p.wf].foldl (applyMod (s.engine nn))
          (s.writeField nn (s.engine nn) (f (s.latched nn p)).1 h p.wf).1).bumpSx s.T p.sxa := by
  rw [← s.busRead_md nn (s.engine nn) true, ← s.busRead_md nn (s.engine nn) false,
    ← s.writeField_md nn (s.engine nn) (f (s.latched nn p)).1 h]
  rfl

/-- After the write field a P-format step changes pointers and SX alone. -/
theorem State.pStep_after_write {α : Type} (g : Engine → α) (nn : Nat) (h : Hd) (p : PFields)
    (f : Engine → Engine × List EEv) (hp : ∀ e k v, g (Engine.setP e k v) = g e := by intros; rfl)
    (hs : ∀ (e : Engine) x, g { e with sx := x } = g e := by intros; rfl) :
    g (s.pStep nn (s.engine nn) h p f).1 = g (s.writeField nn (s.engine nn) (f (s.latched nn p)).1 h p.wf).1 := by
  rw [State.pStep_eq, bumpSx_keeps g hs, foldl_applyMod_keeps g hp]

/-- Besides the accumulator work a P-format step changes D registers, engine memory, pointers and SX alone. -/
theorem State.pStep_keeps {α : Type} (g : Engine → α) (nn : Nat) (h : Hd) (p : PFields)
    (f : Engine → Engine × List EEv) (hp : ∀ e k v, g (Engine.setP e k v) = g e := by intros; rfl)
    (hs : ∀ (e : Engine) x, g { e with sx := x } = g e := by intros; rfl)
    (hd : ∀ e i v, g (Engine.setD e i v) = g e := by intros; rfl)
    (hw : ∀ e a v, g (Engine.setWord e a v) = g e := by intros; rfl) :
    g (s.pStep nn (s.engine nn) h p f).1 = g (f (s.latched nn p)).1 :=
  (s.pStep_after_write g nn h p f hp hs).trans (s.writeField_keeps g hd hw ..)

theorem State.pStep_ptr (nn : Nat) (h : Hd) (p : PFields) (f : Engine → Engine × List EEv) (k : Nat)
    (hf : (f (s.latched nn p)).1.ptr k = (s.engine nn).ptr k) : (s.pStep nn (s.engine nn) h p f).1.ptr k
      = (s.engine nn).ptrAfter [(s.engine nn).rdMod p.xf, (s.engine nn).rdMod p.yf, (s.engine nn).wrMod p.wf] k := by
  rw [State.pStep_eq, bumpSx_keeps (Engine.ptr · k) (fun _ _ => rfl)]
  apply ptr_foldl_applyMod
  rw [s.writeField_keeps (Engine.ptr · k) (fun _ _ _ => rfl) (fun _ _ _ => rfl), hf]

/-- Of an engine e only accumulators change, and accumulator j is left at acc j: the work of a P-format step on the
engine with its latches loaded. -/
def Engine.accOnly (e e' : Engine) (acc : Nat → Int) : Prop := (∃ m, e' = { e with acc := m }) ∧ ∀ j, e'.accV j = acc j

theorem Engine.setAcc_accOnly (e : Engine) (a : Nat) (v : Int) :
    e.accOnly (e.setAcc a v) (fun j => if j = a then v else e.accV j) :=
  ⟨⟨_, rfl⟩, fun _ => smapGet_set ..⟩

theorem Engine.accOnly_self (e : Engine) (a : Nat) : e.accOnly e (fun j => if j = a then e.accV a else e.accV j) := by
  refine ⟨⟨_, rfl⟩, fun j => ?_⟩
  dsimp only
  split
  · subst_vars; rfl
  · rfl

/-- The command c runs the next step of engine nn with P-format fields p and leaves its accumulators at acc. -/
def State.accStepped (s : State) (nn : Fin 32) (h : Hd) (p : PFields) (c : Instr) (acc : Nat → Int) : Prop :=
  ∃ t, exec c s = .next t ∧ s.steppedTo t nn (s.storeOf nn h p.wf)
    ∧ (∀ j, (t.engine nn).accV j = acc j)
    ∧ (t.engine nn).x0 = (s.latched nn p).x0 ∧ (t.engine nn).y0 = (s.latched nn p).y0
    ∧ (∀ j, (t.engine nn).rd j = (s.engine nn).dAfter h p.wf none j)
    ∧ (s.engine nn).moved (t.engine nn)
        [(s.engine nn).rdMod p.xf, (s.engine nn).rdMod p.yf, (s.engine nn).wrMod p.wf]

theorem State.accStepped_of_pStep {nn : Fin 32} {h : Hd} {p : PFields} {c : Instr} {i : EngInstr} {acc : Nat → Int}
    (f : Engine → Engine × List EEv) (hx : exec c s = .next (State.plainStep nn i s))
    (hop : s.engOp nn (s.engine nn) i = s.pStep nn (s.engine nn) h p f)
    (hf : (s.latched nn p).accOnly (f (s.latched nn p)).1 acc) : s.accStepped nn h p c acc := by
  obtain ⟨⟨m, hm⟩, hacc⟩ := hf
  have hself : (State.plainStep nn i s).engine nn = (s.pStep nn (s.engine nn) h p f).1.advance := by
    rw [State.plainStep_engine, if_pos rfl, hop]
  have hwork {α : Type} (g : Engine → α) (hg : ∀ e a, g { e with acc := a } = g e := by intros; rfl) :
      g (f (s.latched nn p)).1 = g (s.latched nn p) := by rw [hm, hg]
  refine ⟨_, hx, s.plainStep_steppedTo (congrArg Prod.fst hop) ?pc ?loops ?steps ?st ?word, ?acc, ?x0, ?y0, ?rd, ?moved⟩
  case pc => exact (s.pStep_keeps Engine.pc nn h p f).trans (hwork Engine.pc)
  case loops => exact (s.pStep_keeps Engine.loops nn h p f).trans (hwork Engine.loops)
  case steps => exact (s.pStep_keeps Engine.steps nn h p f).trans (hwork Engine.steps)
  case st => exact (s.pStep_keeps Engine.st nn h p f).trans (hwork Engine.st)
  case word =>
    intro a
    rw [s.pStep_after_write (Engine.word · a), State.writeField_word, hwork (Engine.word · a)]
    rfl
  all_goals rw [hself]
  case acc => exact fun j => (s.pStep_keeps (Engine.accV · j) nn h p f).trans (hacc j)
  case x0 => exact (s.pStep_keeps Engine.x0 nn h p f).trans (hwork Engine.x0)
  case y0 => exact (s.pStep_keeps Engine.y0 nn h p f).trans (hwork Engine.y0)
  case rd =>
    exact fun j => (s.pStep_after_write (Engine.rd · j) nn h p f).trans
      (s.writeField_rd nn (fun j => hwork (Engine.rd · j)) h p.wf j)
  case moved =>
    exact fun k => ⟨s.pStep_ptr nn h p f k (hwork (Engine.ptr · k)),
      (s.pStep_keeps (Engine.ofs · k) nn h p f).trans (hwork (Engine.ofs · k)),
      (s.pStep_keeps (Engine.wrap · k) nn h p f).trans (hwork (Engine.wrap · k))⟩

/-! ## MOV and the accumulator instructions (R58, R107 to R109) -/

/-- A latch at the accumulator's scale (R58). -/
theorem Engine.latchVal_eq (e : Engine) (neg ls : Bool) :
    e.latchVal neg ls = (if neg then -1 else 1) * (if ls then e.y0.toInt else e.x0.toInt) * 2 ^ 31 := by
  unfold Engine.latchVal
  cases neg <;> simp only [Bool.false_eq_true, if_false, if_true, one_mul, neg_one_mul]

/-- ACC.SH of 0 to 15 is a left shift, fitted; one of 16 to 31 stands for -16 to -1, a right shift by floor (R109). -/
theorem State.engOp_accSh (nn : Nat) (e : Engine) (h : Hd) (a : Fin 8) (sh : Fin 32) (p : PFields) :
    s.engOp nn e (.accSh h a sh p) = s.pStep nn e h p (fun e1 =>
      if sh.val < 16 then e1.fitInto a (e1.accV a * 2 ^ sh.val) h.sat
      else (e1.setAcc a (e1.accV a / 2 ^ (32 - sh.val)), [])) := by
  have hmod : sh.val % 2 ^ 5 = sh.val := Nat.mod_eq_of_lt sh.isLt
  simp only [State.engOp, shift5, toSigned, hmod]
  by_cases hlt : sh.val < 16
  · simp [hlt]
  · have hneg : ¬ (0 : Int) ≤ sh.val - 2 ^ 5 := by omega
    have habs : (-((sh.val : Int) - 2 ^ 5)).toNat = 32 - sh.val := by omega
    simp only [hlt, hneg, habs, if_false, Nat.reduceSub, Nat.reducePow]

/-- A P-format step whose accumulator work sets accumulator a to v. -/
theorem State.accStepped_of_setAcc {nn : Fin 32} {h : Hd} {p : PFields} {c : Instr} {i : EngInstr} {a : Nat} {v : Int}
    (f : Engine → Engine × List EEv) (hx : exec c s = .next (State.plainStep nn i s))
    (hop : s.engOp nn (s.engine nn) i = s.pStep nn (s.engine nn) h p f)
    (hf : (f (s.latched nn p)).1 = (s.latched nn p).setAcc a v) :
    s.accStepped nn h p c (fun j => if j = a then v else (s.engine nn).accV j) :=
  s.accStepped_of_pStep f hx hop (hf ▸ Engine.setAcc_accOnly ..)

/-- Settles O18: each instruction is a P-format step whose accumulator work sets one accumulator, or none (MOV). -/
theorem accumulatorStep : Obligations.AccumulatorStep := by
  intro s nn h p e e1 done
  refine ⟨fun hat => ?mov, fun neg a ls hat => ?ld, fun neg a ls hat => ?add, fun a b neg hat => ?accMov,
    fun a sh hat => ?sh⟩
  case mov =>
    exact s.accStepped_of_pStep (fun e1 => (e1, [])) (s.exec_eq_plainStep (exec_mov s nn []) hat rfl) rfl
      (e1.accOnly_self 0)
  case ld =>
    rw [← Engine.latchVal_eq]
    exact s.accStepped_of_setAcc (fun e1 => (e1.setAcc a (e1.latchVal neg ls), []))
      (s.exec_eq_plainStep (exec_accLd s nn []) hat rfl) rfl rfl
  case add =>
    rw [← Engine.latchVal_eq]
    exact s.accStepped_of_setAcc (fun e1 => e1.fitInto a (e1.accV a + e1.latchVal neg ls) h.sat)
      (s.exec_eq_plainStep (exec_accAdd s nn []) hat rfl) rfl rfl
  case accMov =>
    exact s.accStepped_of_setAcc (fun e1 => e1.fitInto a (if neg then -(e1.accV b) else e1.accV b) h.sat)
      (s.exec_eq_plainStep (exec_accMov s nn []) hat rfl) rfl rfl
  case sh =>
    refine s.accStepped_of_setAcc _ (s.exec_eq_plainStep (exec_accSh s nn []) hat rfl) (s.engOp_accSh ..) ?_
    split_ifs <;> rfl

end Sys2Proof.Machine
end

section
/-! The release of an error capture (R466): what `releaseCapture` sets and leaves alone, and the write of ERR_CLASS that
reaches it. -/

namespace Sys2Proof.Machine

variable (s : State)

/-! ## The release -/

/-- A release clears the capture registers of its page; a register elsewhere reads as before. -/
theorem State.rg_releaseCapture (page p o : Nat) :
    (s.releaseCapture page).rg p o = if rkey p o ∈ captureKeys page then 0 else s.rg p o := by
  simp only [State.releaseCapture, State.setRg64, State.rg_setRg, captureKeys]
  split_ifs <;> simp_all

theorem State.releaseCapture_sameRegs (page : Nat) : SameRegs s (s.releaseCapture page) (captureKeys page) :=
  fun p o hn => (s.rg_releaseCapture page p o).trans (if_neg hn)

/-- Apart from registers, a release changes nothing. -/
theorem State.releaseCapture_regsOnly (page : Nat) : { s.releaseCapture page with regs := s.regs } = s := by
  simp [State.releaseCapture, State.setRg64]

/-! ## The write of ERR_CLASS -/

theorem State.errClassWrite_zero (page : Nat) : State.errClassWrite page 0 s = s.releaseCapture page := rfl

theorem State.errClassWrite_ne_zero {page v : Nat} (hv : v % 2 ^ 32 ≠ 0) : State.errClassWrite page v s = s :=
  if_neg hv

/-- ERR_CLASS stands in the common head: no EN and no lock keeps the write from a page that answers (R397, R399). -/
theorem State.exec_captureRelease_reachable {page : Fin 256} (v mid : Nat) (hrel : s.pwr.released = true)
    (hreach : s.reachable page Off.headERR_CLASS = true) (hclear : s.clear = true) :
    exec (.captureRelease page v mid) s = .next (State.errClassWrite page v s.ok) := by
  rw [exec_captureRelease, execCaptureRelease, s.guarded_pass (s.admits_head hrel hreach (by decide) hclear)]

/-- Settles O10: the write reaches `errClassWrite`, which releases the capture on 0 and ignores every other value. -/
theorem captureRelease : Obligations.CaptureRelease := by
  intro s page mid hrel hreach hclear
  have hexec (v : Nat) := s.exec_captureRelease_reachable v mid hrel hreach hclear
  constructor
  · refine ⟨s.ok.releaseCapture page, ?_, fun o ho => ?_, ?_, s.ok.releaseCapture_regsOnly page⟩
    · rw [hexec, State.errClassWrite_zero]
    · have hkey : rkey page o ∈ captureKeys page := by simpa [captureKeys, rkey_eq_iff] using ho
      rw [State.rg_releaseCapture, if_pos hkey]
    · exact s.ok.releaseCapture_sameRegs page
  · intro v hv
    rw [hexec, s.ok.errClassWrite_ne_zero hv]

end Sys2Proof.Machine
end
